-- ==== Sys2Proof/Word.lean ====
section
/-! DEFINITION. The byte, and the two plain operations on tables of fixed length and on sets of numbered items. -/

namespace Sys2Proof

/-- A byte of a frame, of the spool store or of the settings store. -/
abbrev Byte := BitVec 8

/-- `v` with the item at `i` replaced by `x`. -/
def put {α : Type} {n : Nat} (v : Vector α n) (i : Fin n) (x : α) : Vector α n :=
  v.set i.val x i.isLt

/-- The numbers `0 .. n - 1` in rising order. -/
abbrev allFin (n : Nat) : List (Fin n) := List.finRange n

/-- The set of `n` bits whose bit `i` is set when `p i` holds (00 "Conventions": bit n stands for item n). -/
def bitsOf {n : Nat} (p : Fin n → Bool) : BitVec n :=
  (allFin n).foldl (fun acc i => if p i then acc ||| BitVec.ofNat n (2 ^ i.val) else acc) 0#n

/-- `b` with bit `i` set. -/
def setBit {n : Nat} (b : BitVec n) (i : Fin n) : BitVec n :=
  b ||| BitVec.ofNat n (2 ^ i.val)

/-- `b` with bit `i` clear. -/
def clearBit {n : Nat} (b : BitVec n) (i : Fin n) : BitVec n :=
  b &&& ~~~ (BitVec.ofNat n (2 ^ i.val))

end Sys2Proof
end

