-- ==== Sys2Proof/Syntax.lean ====
section
/-! DEFINITION. The commands of the part: one constructor of `Instr` for each row of spec/opcode_table.json, with the
operands a command carries from outside.

A request row (SESSION_OPEN, ORDER_COMMIT, ...) is the TAKING of a request by its owner (R7): its operand is the tag under
which the request is held, and the request's fields are read from the request table's payload. A timeout row is the event
that its limit is reached. -/

namespace Sys2Proof

/-- The straps PROF1 and PROF0 (2.1, R181). -/
structure Straps where
  prof1 : Bool
  prof0 : Bool
  deriving DecidableEq, Repr

/-- The first samples of the inputs, taken at the start-up step where sensing starts (R162, R174, R182). -/
structure FirstSamples where
  doorOpen : Bool
  supplyFault : Bool
  presence : Bool
  deriving DecidableEq, Repr

/-- What one read of the nonvolatile store gave: the image the store holds, or other bytes (a read gone wrong). -/
inductive StoreRead where
  | clean
  | disturbed (bytes : List Byte)
  deriving DecidableEq, Repr

/-- The speed grades of a card, slowest first (3.5). -/
inductive Grade where
  | g0 | g1 | g2 | g3
  deriving DecidableEq, Repr

/-- An exchange on a card bus: its slot, and the number of its command on that slot's bus (log 13). A card's answer names the
exchange it belongs to. -/
structure Exchange where
  slot : Fin 4
  number : Nat
  deriving DecidableEq, Repr

/-- How a card answers its identification (R41). -/
inductive IdentAnswer where
  /-- it answers with its capability grade and capacity and reports a file system the part can read -/
  | card (capability : Grade) (capacity : Nat)
  /-- it answers with an error -/
  | error
  /-- it answers, but its file system cannot be read -/
  | noFileSystem
  deriving DecidableEq, Repr

/-- The six parts of a capture stamp as found in a header, each where present (R51, R58). -/
structure StampParts where
  year : Option Nat
  month : Option Nat
  day : Option Nat
  hour : Option Nat
  minute : Option Nat
  second : Option Nat
  deriving DecidableEq, Repr

/-- The optional header fields found so far (R51). -/
structure HeaderFields where
  width : Option Nat
  height : Option Nat
  orientation : Option Nat
  stamp : StampParts
  deriving DecidableEq, Repr

/-- A file as the walk gives it (3.7): its name, its size in bytes, its first bytes, and whether the walk has a further
file after it. -/
structure FileRecord where
  name : List Byte
  size : Nat
  first : List Byte
  more : Bool
  deriving DecidableEq, Repr

/-- What a good block read brought to the unit it was made for. -/
inductive BlockContent where
  /-- bytes of the file for an image read, from where the read stands (none for a block that only locates the data);
  for a scan step, a block after which the step needs a further one -/
  | data (bytes : List Byte)
  /-- the directory record and the first bytes of the file at the next ordinal are complete (R50 step 1) -/
  | file (f : FileRecord)
  /-- the walk has no further file (R50) -/
  | endOfWalk
  /-- header fields found, and whether the header reading is finished (R51) -/
  | header (fields : HeaderFields) (finished : Bool)
  deriving DecidableEq, Repr

/-- How a card answers a block read (R47). -/
inductive BlockAnswer where
  | good (content : BlockContent)
  | error
  deriving DecidableEq, Repr

/-- The media kinds of a printer (8.2). -/
inductive MediaKind where
  | media6 | media8
  deriving DecidableEq, Repr

/-- The reasons of a STATUS that reports ERROR (8.3). -/
inductive ErrorReason where
  | jam | mediaOut | ribbonOut | headFault
  deriving DecidableEq, Repr

/-- The reasons of a FAIL (8.3). -/
inductive FailReason where
  | jam | mediaOut | ribbonOut | headFault | dataError
  deriving DecidableEq, Repr

/-- The state a printer reports in a STATUS (8.3). -/
inductive PrinterReport where
  | ready | busy | cooling
  | error (reason : ErrorReason)
  deriving DecidableEq, Repr

/-- The commands of the part, in the order of spec/opcode_table.json. -/
inductive Instr where
  | powerOn (straps : Straps)
  | loadEnd (reads : List StoreRead) (first : FirstSamples)
  | frameReceived (bytes : List Byte)
  | interByteTimeout
  | frameSent
  | identify (tag : Byte)
  | status (tag : Byte)
  | sessionOpen (tag : Byte)
  | sessionClose (tag : Byte)
  | sessionResume (tag : Byte)
  | sessionQuery (tag : Byte)
  | idleTimerExpiry (record : Fin 8)
  | imageRead (tag : Byte)
  | slotQuery (tag : Byte)
  | slotSample (slot : Fin 4) (present : Bool)
  | catalogueRemovalFreeing
  | orphanMarking
  | probeDue (slot : Fin 4)
  | probeAnswer (exchange : Exchange)
  | probeTimeout (slot : Fin 4)
  | identificationAnswer (exchange : Exchange) (answer : IdentAnswer)
  | identificationTimeout (slot : Fin 4)
  | blockReadAnswer (exchange : Exchange) (answer : BlockAnswer)
  | blockReadTimeout (slot : Fin 4)
  | catalogueAdmission (slot : Fin 4)
  | catalogueList (tag : Byte)
  | orderOpen (tag : Byte)
  | lineAdd (tag : Byte)
  | lineChange (tag : Byte)
  | lineRemove (tag : Byte)
  | orderQuote (tag : Byte)
  | orderCommit (tag : Byte)
  | orderCancel (tag : Byte)
  | orderQuery (tag : Byte)
  | gateOpen (tag : Byte)
  | gateClose (tag : Byte)
  | challengeAnswer (tag : Byte)
  | challengeIssue
  | slipTake (tag : Byte)
  | refundTake (tag : Byte)
  | tillQuery (tag : Byte)
  | tillRoll (tag : Byte)
  | coin (unit : Fin 2) (code : Byte)
  | billHeld (unit : Fin 2) (code : Byte)
  | billStacked (unit : Fin 2)
  | billReturned (unit : Fin 2)
  | jam (unit : Fin 2)
  | boxFull (unit : Fin 2)
  | boxOut (unit : Fin 2)
  | boxIn (unit : Fin 2)
  | cashHeartbeat (unit : Fin 2)
  | cashUnitSilence (unit : Fin 2)
  | escrowTimeout (unit : Fin 2)
  | approved (ref : BitVec 16) (amount : BitVec 32) (approvalCode : List Byte)
  | declined (ref : BitVec 16) (reason : Byte)
  | cancelled (ref : BitVec 16)
  | terminalHeartbeat
  | terminalSilence
  | authLimit
  | cancelLimit
  | rasterOpen (tag : Byte)
  | rasterData (tag : Byte)
  | writeEnd
  | rasterAbort (tag : Byte)
  | rasterQuery (tag : Byte)
  | spoolQuery (tag : Byte)
  | readTransferEnd (port : Fin 3)
  | rasterBytesTaken (port : Fin 3) (count : Nat)
  | statusReport (port : Fin 3) (report : PrinterReport) (kind : MediaKind)
  | done (port : Fin 3) (copyId : BitVec 16)
  | fail (port : Fin 3) (copyId : BitVec 16) (reason : FailReason)
  | printerCorruptFrame (port : Fin 3)
  | printerSilence (port : Fin 3)
  | feedLimit (port : Fin 3)
  | printLimit (port : Fin 3)
  | printerHold (tag : Byte)
  | printerRelease (tag : Byte)
  | mediaLoaded (tag : Byte)
  | printerQuery (tag : Byte)
  | printQueueQuery (tag : Byte)
  | doorSample (isOpen : Bool)
  | supplySample (fault : Bool)
  | presenceSample (asserted : Bool)
  | setMode (tag : Byte)
  | conditionClear (tag : Byte)
  | maskSet (tag : Byte)
  | serviceRestore (tag : Byte)
  | conditionQuery (tag : Byte)
  | settingGet (tag : Byte)
  | settingPut (tag : Byte)
  | pricesPublish (tag : Byte)
  | storeSave (tag : Byte)
  | saveEnd (readBack : StoreRead)
  | storeCheck (tag : Byte)
  | checkEnd (read : StoreRead)
  | storeReload (tag : Byte)
  | quiesce (tag : Byte)
  | resume (tag : Byte)
  | kioskReset (tag : Byte)
  | lengthAbove4096 (bytes : List Byte)
  deriving DecidableEq, Repr

end Sys2Proof
end

