-- ==== Sys2Proof/Config.lean ====
section
/-! DEFINITION. What is fixed for the part: its sizes, its identity and its time limits, each with the rule that gives it.
The spec leaves no value of an outcome open that a command computes, so there is no free value here. -/

namespace Sys2Proof.Config

/-- SYNC, the first byte of every frame (1.1). -/
def sync : Byte := 0xA5#8
/-- The longest payload (1.1, R2). -/
def maxLength : Nat := 4096
/-- Entries of the request table (1.3). -/
def tableSize : Nat := 8
/-- Places of the outbound queue (1.4). -/
def queuePlaces : Nat := 48
/-- Most notices in the outbound queue (R8). -/
def maxNotices : Nat := 40
/-- Largest link error count (R4). -/
def maxLinkErrors : Nat := 65535

/-- Identity reported by IDENTIFY (R14). -/
def vendorCode : Nat := 0x4356
def partCode : Nat := 0x0240
def siliconRevision : Nat := 3

/-- Committed orders of a session (R24). -/
def maxCommitted : Nat := 4
/-- Reads in a slot's read queue (R49). -/
def maxReads : Nat := 8
/-- Copies of an order (R77). -/
def maxCopies : Nat := 400
/-- Slips in the slip log (R123), records in the card refund log (R124). -/
def slipLogSize : Nat := 16
def refundLogSize : Nat := 16
/-- Bytes of a spool block (7.1) and of a read transfer (R137). -/
def blockBytes : Nat := 262144
def transferBytes : Nat := 4096
/-- Data bytes of a RASTER_DATA (R133). -/
def maxRasterData : Nat := 4088
/-- Bytes of an IMAGE_READ (R53) and of a card block (R47). -/
def maxImageRead : Nat := 4000
def cardBlockBytes : Nat := 512
/-- Bytes of a file from which its header is read (R51). -/
def headerBytes : Nat := 65536
/-- The byte sent while no frame is being sent and none waits (R10). -/
def fillByte : Byte := 0x00#8
/-- Read attempts of a load (R180). -/
def loadAttempts : Nat := 8
/-- Positions of a probe window (R59) and of the catalogue table (4.1). -/
def windowSize : Nat := 16
def positions : Nat := 2048

/-- Readings that confirm a change: detect switch (R38), card bus (R39), the 10 ms inputs (R162). -/
def staticRun : Nat := 15
def cyclicRun : Nat := 2
def inputRun : Nat := 8

/-- Time limits, in ms. -/
def interByteGap : Nat := 50            -- R3
def probeActive : Nat := 500            -- R39
def probeStandby : Nat := 2000          -- R39
def probeAnswer : Nat := 100            -- R39
def identificationLimit : Nat := 1000   -- R41
def blockReadLimit : Nat := 250         -- R47
def cashSilence : Nat := 2000           -- R103
def escrowLimit : Nat := 10000          -- R112
def challengePeriod : Nat := 2000       -- R116
def terminalSilence : Nat := 5000       -- R118
def authLimit : Nat := 90000            -- R120
def cancelLimit : Nat := 10000          -- R121
def printerSilence : Nat := 3000        -- R146
def feedLimit : Nat := 30000            -- R150
def printLimit : Nat := 120000          -- R152

/-- What a byte of the spool DRAM that nothing has written reads as. The spec gives none and says that it is never read
(R129). DESIGN CHOICE 0, log 7; unsafe. -/
def unwrittenByte : Byte := 0#8

/-- The first challenge token (R116). -/
def firstToken : Byte := 0x3C#8

end Sys2Proof.Config
end

