-- ==== Sys2Proof/WellFormed.lean ====
section
/-! DEFINITION. Which commands are well formed: the bounds the spec sets on what comes from outside. A command that is not
well formed is one that no sender of the spec makes; the meanings are total on it all the same. -/

namespace Sys2Proof

/-- A load is made of 1 to 8 read attempts (R180); the attempts after those a command names are clean reads (log 5). -/
def readsWellFormed (reads : List StoreRead) : Bool :=
  1 ≤ reads.length && reads.length ≤ 8

/-- A block read brings at most 512 bytes (R47); a file has a name (4.1) and a size of 32 bits (R186). -/
def contentWellFormed : BlockContent → Bool
  | .data bytes => bytes.length ≤ Config.cardBlockBytes
  | .file f => f.name ≠ [] && f.size < 2 ^ 32
  | .endOfWalk => true
  | .header _ _ => true

/-- The bounds on a command's operands. -/
def Instr.wellFormed : Instr → Bool
  | .loadEnd reads _ => readsWellFormed reads
  | .frameReceived bytes => bytes ≠ []
  | .lengthAbove4096 bytes => bytes ≠ []
  | .blockReadAnswer _ (.good content) => contentWellFormed content
  | .identificationAnswer _ (.card _ capacity) => capacity < 2 ^ 32
  | .rasterBytesTaken _ count => 0 < count
  | _ => true

end Sys2Proof
end

