-- ==== Sys2Proof/Decode.lean ====
section
/-! DEFINITION. The command a word spells by the opcode table's bits. No row of this hardware's table gives bits (every row's
"fields" is empty and none has "fixed"), so no word spells a command. -/

namespace Sys2Proof

/-- The command a table word spells: none, since no row of spec/opcode_table.json gives bits. -/
def decodeTableWord (_nbits _w : Nat) : Option Instr :=
  none

end Sys2Proof
end

