-- ==== Sys2Proof/Machine/State.lean ====
section
/-! DEFINITION. Everything the spec gives the part, block by block, as plain data; the part after power-on; the reasons a
step can stop. Amounts are counts of minor units, times are ms of the part's timebase. -/

namespace Sys2Proof.Machine

/-! ### Names and handles (1.6) -/

/-- A session handle: record and generation (R12). -/
structure SessionHandle where
  record : Fin 8
  gen : Byte
  deriving DecidableEq, Repr

/-- An order handle: record and generation (R12). -/
structure OrderHandle where
  record : Fin 16
  gen : Byte
  deriving DecidableEq, Repr

/-- A catalogue handle: position and generation (R12). -/
structure CatHandle where
  position : Fin 2048
  gen : Byte
  deriving DecidableEq, Repr

/-- The stations (2.1). -/
inductive Station where
  | a | b
  deriving DecidableEq, Repr

/-- The profiles (2.1). -/
inductive Profile where
  | solo | duo | duoCard | soloCard
  deriving DecidableEq, Repr

/-! ### The command link (01) -/

/-- The requests, in the order of 11.2. -/
inductive RequestCode where
  | identify | status
  | sessionOpen | sessionClose | sessionResume | sessionQuery
  | imageRead | slotQuery
  | catalogueList
  | orderOpen | lineAdd | lineChange | lineRemove | orderQuote | orderCommit | orderCancel | orderQuery
  | gateOpen | gateClose | challengeAnswer | slipTake | refundTake | tillQuery | tillRoll
  | rasterOpen | rasterData | rasterAbort | rasterQuery | spoolQuery
  | printerHold | printerRelease | mediaLoaded | printerQuery | printQueueQuery
  | setMode | conditionClear | maskSet | serviceRestore | conditionQuery
  | settingGet | settingPut | pricesPublish | storeSave | storeCheck | storeReload
  | quiesce | resume | kioskReset
  deriving DecidableEq, Repr

/-- TYPE of a frame (1.1). -/
inductive FrameType where
  | request | reply | notice
  deriving DecidableEq, Repr

/-- A frame waiting to leave the part. Its SYNC, TYPE, LENGTH and CRC bytes follow from these fields (R1). -/
structure Frame where
  kind : FrameType
  tag : Byte
  code : Byte
  payload : List Byte
  deriving DecidableEq, Repr

/-- A held entry of the request table (1.3). The owner follows from the code; `taken` is set when the owner has taken the
request (R7). -/
structure Entry where
  tag : Byte
  code : RequestCode
  payload : List Byte
  taken : Bool
  deriving DecidableEq, Repr

/-- The Link Interface. `held` are the bytes of the frame being assembled, its SYNC first; empty in HUNTING (1.2). `sending`
counts the bytes of the oldest queued frame already sent, 0 while no frame is being sent (R10). -/
structure Link where
  held : List Byte
  lastByte : Nat
  errors : Nat
  table : List Entry
  queue : List Frame
  sending : Nat
  dropped : Bool
  deriving DecidableEq, Repr

/-! ### Stations and sessions (02) -/

/-- The session states (2.2). -/
inductive SessionState where
  | idle | active | suspended | closing | draining | settling
  deriving DecidableEq, Repr

/-- An idle timer: running since a time, or stopped at a count, in ms (R35). -/
inductive Timer where
  | running (since : Nat)
  | stopped (count : Nat)
  deriving DecidableEq, Repr

/-- The totals at close of a record, but for `paid`, which the paid totals give (R31). -/
structure Totals where
  earned : Nat
  refunded : Nat
  slipAmount : Nat
  slipNumber : Option (BitVec 16)
  deriving DecidableEq, Repr

/-- A session record (2.2). The front flag is a view of the station table and the bound set a view of the slots (log 17).
`closedOrder` is the uncommitted order that was freed in CLOSING, until the record goes to IDLE (log 39). -/
structure SessionRecord where
  state : SessionState
  gen : Byte
  station : Option Station
  uncommitted : Option OrderHandle
  committed : List OrderHandle
  timer : Timer
  totals : Totals
  closedOrder : Option OrderHandle
  deriving DecidableEq, Repr

/-- The Session Manager: the records, the front session of each station (R17), the settling queue (R30). -/
structure Sessions where
  records : Vector SessionRecord 8
  fronts : Vector (Option SessionHandle) 2
  settling : List (Fin 8)
  deriving DecidableEq, Repr

/-! ### Card slots (03) -/

/-- The slot states (3.1). -/
inductive SlotState where
  | empty | settling | mounting | mounted | scanning | ready | left | fault
  deriving DecidableEq, Repr

/-- The causes of FAULT in a slot (3.1). -/
inductive SlotFault where
  | unreadable | mediaErrors
  deriving DecidableEq, Repr

/-- The card identity: capability grade and capacity in blocks (3.1). -/
structure CardIdentity where
  capability : Grade
  capacity : Nat
  deriving DecidableEq, Repr

/-- A read of the read queue (R49, R53): its request's tag, its entry's handle and what it asks for. `length` is already
min(length, size - offset) (R54). -/
structure Read where
  tag : Byte
  image : CatHandle
  offset : Nat
  length : Nat
  deriving DecidableEq, Repr

/-- The scan record (R50). -/
structure Scan where
  next : Nat
  admitted : Nat
  skippedKind : Nat
  skippedSize : Nat
  skippedRoom : Nat
  truncated : Bool
  deriving DecidableEq, Repr

/-- How far a scan step has come (R50, R51). -/
inductive StepPhase where
  /-- reading the directory record and the first bytes -/
  | directory
  /-- reading the header of a file that passed the tests: its blocks read and the fields found so far -/
  | header (file : FileRecord) (blocks : Nat) (found : HeaderFields)
  /-- the file is handed to the Catalogue, whose answer is awaited -/
  | handed (more : Bool)
  deriving DecidableEq, Repr

/-- What the slot's arbiter is serving (R49): the read at the head of the queue with the bytes got so far, or a scan step. -/
inductive Serving where
  | read (got : List Byte)
  | step (phase : StepPhase)
  deriving DecidableEq, Repr

/-- A command on a card bus (R49). -/
inductive CardCommand where
  | probe | identification | blockRead
  deriving DecidableEq, Repr

/-- A slot record (3.1) with the state of its card bus. `exchange` numbers the commands put on the bus: the number of the last one
(log 13). -/
structure Slot where
  state : SlotState
  faultCause : Option SlotFault
  present : Bool
  run : Nat
  insertionOwner : Option SessionHandle
  bound : Option SessionHandle
  identity : Option CardIdentity
  grade : Option Grade
  errors : Nat
  reads : List Read
  scan : Option Scan
  serving : Option Serving
  inFlight : Option CardCommand
  exchange : Nat
  issuedAt : Nat
  lastOutcome : Nat
  probeInterval : Nat
  mountedAt : Nat
  deriving DecidableEq, Repr

/-! ### The image catalogue (04) -/

/-- The kinds of picture (3.7). -/
inductive ImageKind where
  | jpeg | png
  deriving DecidableEq, Repr

/-- A capture stamp all of whose parts lie in their ranges (R58). -/
structure Stamp where
  year : Nat
  month : Nat
  day : Nat
  hour : Nat
  minute : Nat
  second : Nat
  deriving DecidableEq, Repr

/-- An entry of the catalogue (4.1). -/
structure CatEntry where
  owner : SessionHandle
  slot : Fin 4
  ordinal : Nat
  name : List Byte
  size : Nat
  kind : ImageKind
  dims : Option (Nat × Nat)
  orientation : Option Nat
  stamp : Option Stamp
  refs : Nat
  deriving DecidableEq, Repr

/-- A position of the catalogue table: its generation, and its entry when held (4.1). -/
structure Position where
  gen : Byte
  entry : Option CatEntry
  deriving DecidableEq, Repr

/-- A file a scan step has handed to the Catalogue (R51). -/
structure HandOff where
  owner : SessionHandle
  slot : Fin 4
  ordinal : Nat
  name : List Byte
  size : Nat
  kind : ImageKind
  fields : HeaderFields
  deriving DecidableEq, Repr

/-- A confirmed removal the Catalogue has not yet taken (R44 step 4). -/
structure Removal where
  owner : SessionHandle
  slot : Fin 4
  deriving DecidableEq, Repr

/-- The Catalogue. `handOffs` and `removals` wait, oldest first, until it takes them (log 15). -/
structure Catalogue where
  table : Vector Position 2048
  lists : Vector (List (Fin 2048)) 8
  handOffs : List HandOff
  removals : List Removal
  deriving DecidableEq, Repr

/-! ### Orders and pricing (05) -/

/-- The print sizes (5.2). -/
inductive Size where
  | p1 | p2 | p3 | p4
  deriving DecidableEq, Repr

/-- The finishes (5.2). -/
inductive Finish where
  | gloss | matte | lustre
  deriving DecidableEq, Repr

/-- The raster state of a line (R75). -/
inductive RasterState where
  | none | writing | complete | orphaned
  deriving DecidableEq, Repr

/-- The copy counters of a line (5.9). -/
structure Counters where
  queued : Nat
  inFlight : Nat
  retryPending : Nat
  delivered : Nat
  finalFailed : Nat
  deriving DecidableEq, Repr

/-- A line of an order (5.2). Its quote fields stand in the order's quote. -/
structure Line where
  image : CatHandle
  size : Size
  finish : Finish
  quantity : Nat
  raster : RasterState
  copies : Counters
  deriving DecidableEq, Repr

/-- The quote fields of a line (R83). -/
structure LinePrice where
  tier : Fin 4
  base : Nat
  surcharge : Nat
  unit : Nat
  amount : Nat
  deriving DecidableEq, Repr

/-- A quote (R83, R84). -/
structure Quote where
  lines : Vector (Option LinePrice) 16
  subtotal : Nat
  rate : Nat
  tax : Nat
  total : Nat
  revision : BitVec 16
  deriving DecidableEq, Repr

/-- The states of an order in use (5.1). -/
inductive OrderState where
  | editing | quoted | authorising | committed
  deriving DecidableEq, Repr

/-- The order record of an order in use (5.1). -/
structure Order where
  session : SessionHandle
  state : OrderState
  lines : Vector (Option Line) 16
  quote : Option Quote
  collected : Nat
  paidCredit : Nat
  paidCard : Nat
  termRef : Option (BitVec 16)
  refundedBase : Nat
  refundedTax : Nat
  refunded : Nat
  creditRefunded : Nat
  cancel : Bool
  deriving DecidableEq, Repr

/-- An order record: its generation, and its order when in use (R74). -/
structure OrderRecord where
  gen : Byte
  body : Option Order
  deriving DecidableEq, Repr

/-- The Catalogue's report of one freeing: the session, and each freed entry with the count it held (R70). -/
structure FreedReport where
  owner : SessionHandle
  slot : Fin 4
  entries : List (CatHandle × Nat)
  deriving DecidableEq, Repr

/-- The Order Unit. `reports` wait, oldest first, until it takes them (R44 steps 5 and 6, log 15). -/
structure Orders where
  records : Vector OrderRecord 16
  reports : List FreedReport
  deriving DecidableEq, Repr

/-! ### Credit, cash and card payment (06) -/

/-- The amounts of a session record (6.1). -/
structure Account where
  credit : Nat
  cashPaid : Nat
  cardPaid : Nat
  deriving DecidableEq, Repr

/-- An escrow record (6.5). -/
inductive Escrow where
  | none
  | held (code : Byte) (value : Nat) (session : SessionHandle)
  | stacking (code : Byte) (value : Nat) (session : SessionHandle) (since : Nat)
  | returning (code : Byte) (value : Nat) (session : Option SessionHandle) (since : Nat)
  deriving DecidableEq, Repr

/-- A late-stack record (R112). -/
structure LateStack where
  code : Byte
  value : Nat
  session : Option SessionHandle
  deriving DecidableEq, Repr

/-- A cash unit's port, gate, escrow, box and counts (6.2 to 6.6). The port state is a view (R103). -/
structure CashUnit where
  heard : Bool
  silent : Bool
  lastHeard : Nat
  jammed : Bool
  gateOpen : Bool
  coinSet : BitVec 16
  billSet : BitVec 16
  coins : BitVec 32
  bills : BitVec 32
  escrow : Escrow
  late : Option LateStack
  boxIn : Bool
  boxCount : Nat
  fullFlag : Bool
  deriving DecidableEq, Repr

/-- The till counters (R125). -/
structure Till where
  cashIn : BitVec 32
  cardIn : BitVec 32
  earned : BitVec 32
  slipsIssued : BitVec 32
  cardRefundsIssued : BitVec 32
  unlogged : BitVec 32
  overage : BitVec 32
  deriving DecidableEq, Repr

/-- The causes of a slip (R123). -/
inductive SlipCause where
  | settlement | lateBill
  deriving DecidableEq, Repr

/-- A slip (R123). -/
structure Slip where
  number : BitVec 16
  session : Option SessionHandle
  amount : Nat
  cause : SlipCause
  deriving DecidableEq, Repr

/-- The causes of a card refund record (R124). -/
inductive RefundCause where
  | refund | mismatch | late | stray
  deriving DecidableEq, Repr

/-- A card refund record (R124). -/
structure CardRefund where
  session : Option SessionHandle
  order : Option OrderHandle
  ref : BitVec 16
  amount : Nat
  cause : RefundCause
  deriving DecidableEq, Repr

/-- The gate challenge (6.7): whether it runs, the token last issued and whether it is pending, when it was issued, the
error count. -/
structure Challenge where
  running : Bool
  token : Byte
  pending : Bool
  since : Nat
  errors : Nat
  deriving DecidableEq, Repr

/-- An authorisation (6.8). -/
structure Auth where
  order : OrderHandle
  session : SessionHandle
  amount : Nat
  ref : BitVec 16
  deriving DecidableEq, Repr

/-- The terminal port (6.8). In CANCELLING the authorisation is present while it is outstanding (a cancel was asked), and
absent when it has ended at the 90 s limit or at a kiosk reset. -/
inductive TerminalState where
  | absent
  | idle
  | busy (auth : Auth) (since : Nat)
  | cancelling (ref : BitVec 16) (auth : Option Auth) (since : Nat)
  | lost
  deriving DecidableEq, Repr

/-- The port's last ended authorisation (R120). -/
structure LastEnded where
  ref : BitVec 16
  session : Option SessionHandle
  order : Option OrderHandle
  deriving DecidableEq, Repr

/-- The terminal port, its queue and the reference counter (6.8). -/
structure Terminal where
  state : TerminalState
  lastHeard : Nat
  waiting : List Auth
  refCounter : BitVec 16
  lastEnded : Option LastEnded
  deriving DecidableEq, Repr

/-- The Money Unit. -/
structure Money where
  accounts : Vector Account 8
  units : Vector CashUnit 2
  till : Till
  slips : List Slip
  slipCounter : BitVec 16
  refunds : List CardRefund
  challenge : Challenge
  terminal : Terminal
  deriving DecidableEq, Repr

/-! ### The raster spool (07) -/

/-- A raster record (7.2). The length follows from the size. -/
structure Raster where
  order : OrderHandle
  line : Fin 16
  size : Size
  blocks : List Nat
  written : Nat
  accepted : Nat
  complete : Bool
  charged : Option SessionHandle
  deriving DecidableEq, Repr

/-- An accepted write (R133). -/
structure Write where
  tag : Byte
  order : OrderHandle
  line : Fin 16
  offset : Nat
  data : List Byte
  deriving DecidableEq, Repr

/-- A printer reader (R137): the raster it is started on, its next offset, whether it asks for a transfer, and the bytes it
has put on the printer link that the link has not yet taken. -/
structure Reader where
  job : Option (OrderHandle × Fin 16)
  next : Nat
  asks : Bool
  untaken : Nat
  deriving DecidableEq, Repr

/-- The requesters of the spool port (7.7). -/
inductive Requester where
  | writer
  | reader (port : Fin 3)
  deriving DecidableEq, Repr

/-- The contents of the spool DRAM: (address, byte), addresses strictly rising, no byte equal to what an unwritten one
reads as. -/
abbrev Memory := List Host.Cell

/-- The Spool Unit. -/
structure Spool where
  free : List Nat
  rasters : List Raster
  writes : List Write
  readers : Vector Reader 3
  granted : Option Requester
  last : Requester
  mem : Memory
  deriving DecidableEq, Repr

/-! ### Print dispatch (08) -/

/-- The states of a printer port (8.2). -/
inductive PortState where
  | absent | ready | feeding | printing | cooling | fault | offline | held
  deriving DecidableEq, Repr

/-- The failure and fault reasons, in the order of 11.6. -/
inductive Reason where
  | jam | mediaOut | ribbonOut | headFault | dataError | mediaMismatch | linkLost | timeout
  deriving DecidableEq, Repr

/-- The attempt of a port (8.2). -/
structure Attempt where
  copyId : BitVec 16
  order : OrderHandle
  line : Fin 16
  second : Bool
  need : Nat
  deriving DecidableEq, Repr

/-- A task of the print queue (8.1): its other fields are views of the order's line (log 17). -/
structure Task where
  order : OrderHandle
  line : Fin 16
  deriving DecidableEq, Repr

/-- A port record (8.2). `limitSince` is when the feed or print limit last started. -/
structure Port where
  state : PortState
  fault : Option Reason
  kind : Option MediaKind
  units : Nat
  errors : Nat
  hold : Bool
  run : Nat
  attempt : Option Attempt
  last : Option (PrinterReport × MediaKind)
  heardAt : Nat
  limitSince : Nat
  deriving DecidableEq, Repr

/-- The Print Dispatcher. -/
structure Prints where
  queue : List Task
  ports : Vector Port 3
  copyId : BitVec 16
  deriving DecidableEq, Repr

/-! ### Conditions, masks and service mode (09) -/

/-- The actions, in the order of 00 "Terms"; `unset` is the action of a clear bit (R165). -/
inductive Action where
  | unset | status | hold | notify | suspend | lockout
  deriving DecidableEq, Repr

/-- A condition set of `n` bits with its mask and recorded actions (R160, R164, R165). -/
structure CondSet (n : Nat) where
  bits : BitVec n
  mask : BitVec n
  recorded : Vector Action n
  deriving DecidableEq, Repr

/-- The kiosk modes (9.3). -/
inductive Mode where
  | customer | service
  deriving DecidableEq, Repr

/-- A sampled input: its confirmed state and its run count (R162). -/
structure Input where
  confirmed : Bool
  run : Nat
  deriving DecidableEq, Repr

/-- The Condition Unit. -/
structure Conditions where
  kiosk : CondSet 16
  sessions : Vector (CondSet 8) 8
  mode : Mode
  inService : Bool
  door : Input
  supply : Input
  deriving DecidableEq, Repr

/-! ### Settings store and power (10) -/

/-- The working copy of A0, A1 and A3 to A7, each area by its setting numbers (11.2). -/
structure WorkingCopy where
  a0 : Vector Nat 1
  a1 : Vector Nat 12
  a3 : Vector Nat 66
  a4 : Vector Nat 2
  a5 : Vector Nat 3
  a6 : Vector Nat 2
  a7 : Vector Nat 1
  deriving DecidableEq, Repr

/-- A price table, by the setting numbers 0 to 36 of A2 (11.2). -/
abbrev PriceTable := Vector Nat 37

/-- The store operation state, with the tag of the request that began it (R175). -/
inductive StoreOp where
  | idle
  | saving (tag : Byte)
  | checking (tag : Byte)
  | loading (tag : Byte)
  deriving DecidableEq, Repr

/-- The Settings Store. `image` is what the nonvolatile store holds. -/
structure Store where
  image : List Byte
  working : WorkingCopy
  protection : BitVec 7
  draft : PriceTable
  modified : Bool
  published : PriceTable
  revision : BitVec 16
  valid : Bool
  loaded : Bool
  op : StoreOp
  deriving DecidableEq, Repr

/-- The Power Controller. `starting` is set from power-on until start-up has queued START (R181). The latches are bit 0
CARD, bit 1 PRESENCE, bit 2 DOOR. -/
structure Power where
  standby : Bool
  latches : BitVec 3
  presence : Input
  profile : Profile
  afterReset : Bool
  starting : Bool
  deriving DecidableEq, Repr

/-! ### What the part puts on its links -/

/-- What the part has sent (log 22): a byte to the host, a numbered command on a card bus, a message to a cash unit, to the
terminal or to a printer. -/
inductive Sent where
  | host (byte : Byte)
  | card (slot : Fin 4) (exchange : Nat) (command : CardCommand)
  | enable (unit : Fin 2) (coins bills : BitVec 16)
  | inhibit (unit : Fin 2)
  | stack (unit : Fin 2)
  | giveBack (unit : Fin 2)
  | auth (ref : BitVec 16) (amount : Nat)
  | cancelAuth (ref : BitVec 16)
  | job (port : Fin 3) (copyId : BitVec 16) (size : Size) (finish : Finish)
  | raster (port : Fin 3) (bytes : List Byte)
  | rasterEnd (port : Fin 3)
  | cancelCopy (port : Fin 3) (copyId : BitVec 16)
  | sleep (port : Fin 3)
  deriving DecidableEq, Repr

/-- The state of the part. `sent` and `now` are the model's own record of its outputs and of its timebase (logs 22, 1);
`pending` is the queue of commands, first in, first out. -/
structure State where
  link : Link
  sessions : Sessions
  slots : Vector Slot 4
  catalogue : Catalogue
  orders : Orders
  money : Money
  spool : Spool
  prints : Prints
  conds : Conditions
  store : Store
  power : Power
  sent : List Sent
  now : Nat
  pending : List Instr
  deriving DecidableEq, Repr

/-- The reasons a step can stop with a fault: none. The spec gives every command an effect and describes no event that stops
the part (log 24). -/
inductive Fault where
  deriving DecidableEq, Repr

/-- The reasons a step can be refused. -/
inductive Refusal where
  /-- Raised by an arm of `exec` that has no meaning yet (no arm has: every command is modelled). Safe: the model stops. -/
  | notModelled (mnemonic : String)
  deriving DecidableEq, Repr

/-! ### Power-on -/

/-- No totals. -/
def Totals.zero : Totals := { earned := 0, refunded := 0, slipAmount := 0, slipNumber := none }

/-- A session record after power-on (R37). -/
def SessionRecord.reset : SessionRecord :=
  { state := .idle, gen := 0, station := none, uncommitted := none, committed := [], timer := .stopped 0,
    totals := Totals.zero, closedOrder := none }

/-- A slot after power-on (R56). -/
def Slot.reset : Slot :=
  { state := .empty, faultCause := none, present := false, run := 0, insertionOwner := none, bound := none,
    identity := none, grade := none, errors := 0, reads := [], scan := none, serving := none, inFlight := none,
    exchange := 0, issuedAt := 0, lastOutcome := 0, probeInterval := Config.probeActive, mountedAt := 0 }

/-- An account with nothing in it. -/
def Account.zero : Account := { credit := 0, cashPaid := 0, cardPaid := 0 }

/-- A cash unit after power-on (R128). -/
def CashUnit.reset : CashUnit :=
  { heard := false, silent := false, lastHeard := 0, jammed := false, gateOpen := false, coinSet := 0, billSet := 0,
    coins := 0, bills := 0, escrow := .none, late := none, boxIn := true, boxCount := 0, fullFlag := false }

/-- The till after power-on (R128). -/
def Till.zero : Till :=
  { cashIn := 0, cardIn := 0, earned := 0, slipsIssued := 0, cardRefundsIssued := 0, unlogged := 0, overage := 0 }

/-- The challenge, stopped with count 0 (R128). -/
def Challenge.reset : Challenge := { running := false, token := 0, pending := false, since := 0, errors := 0 }

/-- A stopped printer reader (R140). -/
def Reader.stopped : Reader := { job := none, next := 0, asks := false, untaken := 0 }

/-- A printer port after power-on (R159). -/
def Port.reset : Port :=
  { state := .absent, fault := none, kind := none, units := 0, errors := 0, hold := false, run := 0, attempt := none,
    last := none, heardAt := 0, limitSince := 0 }

/-- A clear condition set with the given mask. -/
def CondSet.clear {n : Nat} (mask : BitVec n) : CondSet n :=
  { bits := 0#n, mask := mask, recorded := Vector.replicate n .unset }

/-- An input after power-on, before its first sample (log 8). -/
def Input.reset : Input := { confirmed := false, run := 0 }

/-- The defaults of 10.1: sense modes STATIC (0), grades G3 (3), MEDIA_ERR_LIMIT 15, MIN_IMAGE 16 KiB, MAX_IMAGE 64 MiB,
CAT_QUOTA 1000, IDLE_LIMIT 180, coin and bill values 0, CREDIT_MAX 20000, BOX_CAPACITY 600, PRN_ERR_LIMIT 31,
MEDIA_LOW_MARK 20, masks and wake enables all enabled, SPOOL_SHARE 512, SPOOL_RESERVE 64, protection clear. -/
def WorkingCopy.defaults : WorkingCopy :=
  { a0 := #v[180]
    a1 := #v[0, 0, 0, 0, 3, 3, 3, 3, 15, 16384, 67108864, 1000]
    a3 := put (put (Vector.replicate 66 0) 64 20000) 65 600
    a4 := #v[31, 20]
    a5 := #v[0xFFFF, 0xFF, 7]
    a6 := #v[512, 64]
    a7 := #v[0] }

/-- The default price table of 10.1: tier 0 thresholds 1 (settings 0, 4, 8, 12), order total limit 100,000 (setting 36), all
else 0. -/
def PriceTable.defaults : PriceTable :=
  put (put (put (put (put (Vector.replicate 37 0) 0 1) 4 1) 8 1) 12 1) 36 100000

/-- The profile the straps select (2.1). -/
def profileOf : Straps → Profile
  | ⟨false, false⟩ => .solo
  | ⟨false, true⟩ => .duo
  | ⟨true, false⟩ => .duoCard
  | ⟨true, true⟩ => .soloCard

/-- The Link Interface after power-on (R16). -/
def Link.reset : Link :=
  { held := [], lastByte := 0, errors := 0, table := [], queue := [], sending := 0, dropped := false }

/-- The Session Manager after power-on (R37). -/
def Sessions.reset : Sessions :=
  { records := Vector.replicate 8 SessionRecord.reset, fronts := Vector.replicate 2 none, settling := [] }

/-- The Catalogue after power-on (R73). -/
def Catalogue.reset : Catalogue :=
  { table := Vector.replicate 2048 { gen := 0, entry := none }, lists := Vector.replicate 8 [], handOffs := [],
    removals := [] }

/-- The Order Unit after power-on (R100). -/
def Orders.reset : Orders := { records := Vector.replicate 16 { gen := 0, body := none }, reports := [] }

/-- The terminal port after power-on (R128). -/
def Terminal.reset : Terminal :=
  { state := .absent, lastHeard := 0, waiting := [], refCounter := 0, lastEnded := none }

/-- The Money Unit after power-on (R128). -/
def Money.reset : Money :=
  { accounts := Vector.replicate 8 Account.zero, units := Vector.replicate 2 CashUnit.reset, till := Till.zero,
    slips := [], slipCounter := 1, refunds := [], challenge := Challenge.reset, terminal := Terminal.reset }

/-- The Spool Unit after power-on (R140); the DRAM lists nothing (log 7). -/
def Spool.reset : Spool :=
  { free := List.range 1024, rasters := [], writes := [], readers := Vector.replicate 3 Reader.stopped, granted := none,
    last := .reader 2, mem := [] }

/-- The Print Dispatcher after power-on (R159). -/
def Prints.reset : Prints := { queue := [], ports := Vector.replicate 3 Port.reset, copyId := 1 }

/-- The Condition Unit after power-on, with the default masks before the load (R174, log 6). -/
def Conditions.reset : Conditions :=
  { kiosk := CondSet.clear 0xFFFF, sessions := Vector.replicate 8 (CondSet.clear 0xFF), mode := .customer,
    inService := true, door := Input.reset, supply := Input.reset }

/-- The Settings Store after power-on, its load still to end: the nonvolatile image stays, all else is at its default
(R175, log 6). -/
def Store.powerOn (image : List Byte) : Store :=
  { image := image, working := WorkingCopy.defaults, protection := 0, draft := PriceTable.defaults, modified := false,
    published := PriceTable.defaults, revision := 0, valid := false, loaded := false, op := .idle }

/-- The Power Controller after power-on, with the profile the straps select (R181, R184). -/
def Power.powerOn (straps : Straps) : Power :=
  { standby := false, latches := 0, presence := Input.reset, profile := profileOf straps, afterReset := false,
    starting := true }

/-- The part after power-on with the given straps and store image: every block holds the values its chapter gives for
power-on, and the load of the store is still to end (R181). -/
def State.powerOn (straps : Straps) (image : List Byte) : State :=
  { link := Link.reset, sessions := Sessions.reset, slots := Vector.replicate 4 Slot.reset,
    catalogue := Catalogue.reset, orders := Orders.reset, money := Money.reset, spool := Spool.reset,
    prints := Prints.reset, conds := Conditions.reset, store := Store.powerOn image, power := Power.powerOn straps,
    sent := [], now := 0, pending := [] }

/-- The part right after power-on. The straps and the store's contents come from outside: straps 00 and an empty store are
the model's choice (logs 4, 5). -/
def State.reset : State :=
  State.powerOn { prof1 := false, prof0 := false } []

end Sys2Proof.Machine
end

