-- ==== Sys2Proof/Machine/Ops.lean ====
section
/-! DEFINITION. The operations every meaning is written over: one update per field of State, the field encodings (11.1) and
code tables (11.2 to 11.4), frames and their CRC, the queue of frames (R7, R8), what the part sends on its device links, the
spool memory (R129, R130), and the values the blocks read from the working copy. -/

namespace Sys2Proof.Machine

/-! ### One update per field of State -/

def State.setLink (s : State) (x : Link) : State := { s with link := x }
def State.setSessions (s : State) (x : Sessions) : State := { s with sessions := x }
def State.setSlots (s : State) (x : Vector Slot 4) : State := { s with slots := x }
def State.setCatalogue (s : State) (x : Catalogue) : State := { s with catalogue := x }
def State.setOrders (s : State) (x : Orders) : State := { s with orders := x }
def State.setMoney (s : State) (x : Money) : State := { s with money := x }
def State.setSpool (s : State) (x : Spool) : State := { s with spool := x }
def State.setPrints (s : State) (x : Prints) : State := { s with prints := x }
def State.setConds (s : State) (x : Conditions) : State := { s with conds := x }
def State.setStore (s : State) (x : Store) : State := { s with store := x }
def State.setPower (s : State) (x : Power) : State := { s with power := x }
def State.setSent (s : State) (x : List Sent) : State := { s with sent := x }
def State.setNow (s : State) (x : Nat) : State := { s with now := x }
def State.setPending (s : State) (x : List Instr) : State := { s with pending := x }

/-! ### One update per record of a table -/

/-- Session record `r` and its replacement. -/
def State.record (s : State) (r : Fin 8) : SessionRecord := s.sessions.records.get r
def State.setRecord (s : State) (r : Fin 8) (x : SessionRecord) : State :=
  s.setSessions { s.sessions with records := put s.sessions.records r x }

/-- Slot record `n` and its replacement. -/
def State.slot (s : State) (n : Fin 4) : Slot := s.slots.get n
def State.setSlot (s : State) (n : Fin 4) (x : Slot) : State := s.setSlots (put s.slots n x)

/-- The account of session record `r` and its replacement. -/
def State.account (s : State) (r : Fin 8) : Account := s.money.accounts.get r
def State.setAccount (s : State) (r : Fin 8) (x : Account) : State :=
  s.setMoney { s.money with accounts := put s.money.accounts r x }

/-- Cash unit `u` and its replacement. -/
def State.unit (s : State) (u : Fin 2) : CashUnit := s.money.units.get u
def State.setUnit (s : State) (u : Fin 2) (x : CashUnit) : State :=
  s.setMoney { s.money with units := put s.money.units u x }

/-- The till, the challenge and the terminal port replaced. -/
def State.setTill (s : State) (x : Till) : State := s.setMoney { s.money with till := x }
def State.setChallenge (s : State) (x : Challenge) : State := s.setMoney { s.money with challenge := x }
def State.setTerminal (s : State) (x : Terminal) : State := s.setMoney { s.money with terminal := x }

/-- Order record `o` and its replacement. -/
def State.orderRecord (s : State) (o : Fin 16) : OrderRecord := s.orders.records.get o
def State.setOrderRecord (s : State) (o : Fin 16) (x : OrderRecord) : State :=
  s.setOrders { s.orders with records := put s.orders.records o x }

/-- The order in use in record `o`, replaced (the record's generation is kept). -/
def State.setOrder (s : State) (o : Fin 16) (x : Order) : State :=
  s.setOrderRecord o { s.orderRecord o with body := some x }

/-- Printer port `p` and its replacement. -/
def State.port (s : State) (p : Fin 3) : Port := s.prints.ports.get p
def State.setPort (s : State) (p : Fin 3) (x : Port) : State :=
  s.setPrints { s.prints with ports := put s.prints.ports p x }

/-- Printer reader `p` and its replacement. -/
def State.reader (s : State) (p : Fin 3) : Reader := s.spool.readers.get p
def State.setReader (s : State) (p : Fin 3) (x : Reader) : State :=
  s.setSpool { s.spool with readers := put s.spool.readers p x }

/-- The condition set of session record `r` and its replacement. -/
def State.sessionSet (s : State) (r : Fin 8) : CondSet 8 := s.conds.sessions.get r
def State.setSessionSet (s : State) (r : Fin 8) (x : CondSet 8) : State :=
  s.setConds { s.conds with sessions := put s.conds.sessions r x }
def State.setKioskSet (s : State) (x : CondSet 16) : State := s.setConds { s.conds with kiosk := x }

/-! ### Field encodings (R186) -/

/-- A number in 1, 2 and 4 bytes, little-endian. -/
def le1 (n : Nat) : List Byte := [BitVec.ofNat 8 n]
def le2 (n : Nat) : List Byte := [BitVec.ofNat 8 n, BitVec.ofNat 8 (n / 256)]
def le4 (n : Nat) : List Byte :=
  [BitVec.ofNat 8 n, BitVec.ofNat 8 (n / 256), BitVec.ofNat 8 (n / 65536), BitVec.ofNat 8 (n / 16777216)]

/-- A flag: 0 clear, 1 set. -/
def flagByte (b : Bool) : List Byte := le1 (if b then 1 else 0)

/-- An optional field: its presence flag, then the field or zero bytes of its full width. -/
def optField {α : Type} (width : Nat) (enc : α → List Byte) : Option α → List Byte
  | none => flagByte false ++ List.replicate width 0
  | some a => flagByte true ++ enc a

def SessionHandle.bytes (h : SessionHandle) : List Byte := le1 h.record.val ++ [h.gen]
def OrderHandle.bytes (h : OrderHandle) : List Byte := le1 h.record.val ++ [h.gen]
def CatHandle.bytes (h : CatHandle) : List Byte := le2 h.position.val ++ [h.gen]

/-- A session or order handle, or "none": record 0xFF, generation 0. -/
def sessionBytes : Option SessionHandle → List Byte
  | some h => h.bytes
  | none => [0xFF, 0]
def orderBytes : Option OrderHandle → List Byte
  | some h => h.bytes
  | none => [0xFF, 0]

/-- A field of 1 byte in a notice: 0xFF where it has no value (11.3, log 10). -/
def noticeField {α : Type} (enc : α → Nat) : Option α → List Byte
  | none => [0xFF]
  | some a => le1 (enc a)

/-- A name: its length, then the bytes. -/
def nameBytes (name : List Byte) : List Byte := le1 name.length ++ name

/-- A slip number: 0 when absent. -/
def slipNumberBytes : Option (BitVec 16) → List Byte
  | some n => le2 n.toNat
  | none => [0, 0]

/-! ### Enumerated values: the position in the list or table that first gives them (R186) -/

def Station.code : Station → Nat
  | .a => 0
  | .b => 1
def Profile.code : Profile → Nat
  | .solo => 0
  | .duo => 1
  | .duoCard => 2
  | .soloCard => 3
def SessionState.code : SessionState → Nat
  | .idle => 0
  | .active => 1
  | .suspended => 2
  | .closing => 3
  | .draining => 4
  | .settling => 5
def SlotState.code : SlotState → Nat
  | .empty => 0
  | .settling => 1
  | .mounting => 2
  | .mounted => 3
  | .scanning => 4
  | .ready => 5
  | .left => 6
  | .fault => 7
def SlotFault.code : SlotFault → Nat
  | .unreadable => 0
  | .mediaErrors => 1
def gradeCode : Grade → Nat
  | .g0 => 0
  | .g1 => 1
  | .g2 => 2
  | .g3 => 3
def ImageKind.code : ImageKind → Nat
  | .jpeg => 0
  | .png => 1
def Size.code : Size → Nat
  | .p1 => 0
  | .p2 => 1
  | .p3 => 2
  | .p4 => 3
def Finish.code : Finish → Nat
  | .gloss => 0
  | .matte => 1
  | .lustre => 2
def RasterState.code : RasterState → Nat
  | .none => 0
  | .writing => 1
  | .complete => 2
  | .orphaned => 3
def OrderState.code : OrderState → Nat
  | .editing => 0
  | .quoted => 1
  | .authorising => 2
  | .committed => 3
def Escrow.code : Escrow → Nat
  | .none => 0
  | .held .. => 1
  | .stacking .. => 2
  | .returning .. => 3
def TerminalState.code : TerminalState → Nat
  | .absent => 0
  | .idle => 1
  | .busy .. => 2
  | .cancelling .. => 3
  | .lost => 4
def SlipCause.code : SlipCause → Nat
  | .settlement => 0
  | .lateBill => 1
def RefundCause.code : RefundCause → Nat
  | .refund => 0
  | .mismatch => 1
  | .late => 2
  | .stray => 3
def PortState.code : PortState → Nat
  | .absent => 0
  | .ready => 1
  | .feeding => 2
  | .printing => 3
  | .cooling => 4
  | .fault => 5
  | .offline => 6
  | .held => 7
def Reason.code : Reason → Nat
  | .jam => 0
  | .mediaOut => 1
  | .ribbonOut => 2
  | .headFault => 3
  | .dataError => 4
  | .mediaMismatch => 5
  | .linkLost => 6
  | .timeout => 7
def kindCode : MediaKind → Nat
  | .media6 => 0
  | .media8 => 1
def Action.code : Action → Nat
  | .unset => 0xFF
  | .status => 0
  | .hold => 1
  | .notify => 2
  | .suspend => 3
  | .lockout => 4
def Mode.code : Mode → Nat
  | .customer => 0
  | .service => 1

/-- The wake causes (R184): CARD, PRESENCE, DOOR. -/
inductive WakeCause where
  | card | presence | door
  deriving DecidableEq, Repr

def WakeCause.bit : WakeCause → Fin 3
  | .card => 0
  | .presence => 1
  | .door => 2

/-! ### Status codes (11.4) -/

/-- The statuses of a reply. -/
inductive Status where
  | ok | clamped
  | tagBusy | busy | unknownRequest | malformed | standby | aborted
  | staleHandle | accessDenied | badValue | badState | suspended | outOfService | notService | conditionPending
  | doorClosed | isProtected | priceTableInvalid | storeError
  | stationBusy | noSession | badRange | mediaFault | mediaGone | mediaError | noPrices | noLine | noOrder
  | tooManyOrders | lineLimit | copyLimit
  | emptyOrder | orderLimit | quoteStale | orphanLine | rasterIncomplete | noPrinter | shortCredit
  | noCashUnit | challengeFail | unitFault | logEmpty | moneyHeld
  | rasterExists | noSpool | shareExceeded | badOffset | noRaster
  deriving DecidableEq, Repr

def Status.code : Status → Byte
  | .ok => 0x00
  | .clamped => 0x01
  | .tagBusy => 0x10
  | .busy => 0x11
  | .unknownRequest => 0x12
  | .malformed => 0x13
  | .standby => 0x14
  | .aborted => 0x15
  | .staleHandle => 0x20
  | .accessDenied => 0x21
  | .badValue => 0x22
  | .badState => 0x23
  | .suspended => 0x24
  | .outOfService => 0x25
  | .notService => 0x26
  | .conditionPending => 0x27
  | .doorClosed => 0x28
  | .isProtected => 0x29
  | .priceTableInvalid => 0x2A
  | .storeError => 0x2B
  | .stationBusy => 0x30
  | .noSession => 0x31
  | .badRange => 0x32
  | .mediaFault => 0x33
  | .mediaGone => 0x34
  | .mediaError => 0x35
  | .noPrices => 0x36
  | .noLine => 0x37
  | .noOrder => 0x38
  | .tooManyOrders => 0x39
  | .lineLimit => 0x3A
  | .copyLimit => 0x3B
  | .emptyOrder => 0x40
  | .orderLimit => 0x41
  | .quoteStale => 0x42
  | .orphanLine => 0x43
  | .rasterIncomplete => 0x44
  | .noPrinter => 0x45
  | .shortCredit => 0x46
  | .noCashUnit => 0x50
  | .challengeFail => 0x51
  | .unitFault => 0x52
  | .logEmpty => 0x53
  | .moneyHeld => 0x54
  | .rasterExists => 0x60
  | .noSpool => 0x61
  | .shareExceeded => 0x62
  | .badOffset => 0x63
  | .noRaster => 0x64

/-! ### Requests (11.2) -/

/-- The owners of requests (11.2). -/
inductive Owner where
  | link | sessions | slots | catalogue | orders | money | spool | prints | conds | store | power
  deriving DecidableEq, Repr

/-- The code byte, the owner and the shortest payload of each request (11.2). -/
def RequestCode.row : RequestCode → Byte × Owner × Nat
  | .identify => (0x01, .link, 0)
  | .status => (0x02, .link, 0)
  | .sessionOpen => (0x10, .sessions, 1)
  | .sessionClose => (0x11, .sessions, 2)
  | .sessionResume => (0x12, .sessions, 2)
  | .sessionQuery => (0x13, .sessions, 2)
  | .imageRead => (0x20, .slots, 11)
  | .slotQuery => (0x21, .slots, 1)
  | .catalogueList => (0x28, .catalogue, 5)
  | .orderOpen => (0x30, .orders, 2)
  | .lineAdd => (0x31, .orders, 8)
  | .lineChange => (0x32, .orders, 6)
  | .lineRemove => (0x33, .orders, 3)
  | .orderQuote => (0x34, .orders, 2)
  | .orderCommit => (0x35, .orders, 3)
  | .orderCancel => (0x36, .orders, 2)
  | .orderQuery => (0x37, .orders, 2)
  | .gateOpen => (0x40, .money, 2)
  | .gateClose => (0x41, .money, 2)
  | .challengeAnswer => (0x42, .money, 2)
  | .slipTake => (0x43, .money, 0)
  | .refundTake => (0x44, .money, 0)
  | .tillQuery => (0x45, .money, 0)
  | .tillRoll => (0x46, .money, 0)
  | .rasterOpen => (0x50, .spool, 3)
  | .rasterData => (0x51, .spool, 8)
  | .rasterAbort => (0x52, .spool, 3)
  | .rasterQuery => (0x53, .spool, 3)
  | .spoolQuery => (0x54, .spool, 0)
  | .printerHold => (0x60, .prints, 1)
  | .printerRelease => (0x61, .prints, 1)
  | .mediaLoaded => (0x62, .prints, 4)
  | .printerQuery => (0x63, .prints, 1)
  | .printQueueQuery => (0x64, .prints, 2)
  | .setMode => (0x70, .conds, 1)
  | .conditionClear => (0x71, .conds, 5)
  | .maskSet => (0x72, .conds, 5)
  | .serviceRestore => (0x73, .conds, 0)
  | .conditionQuery => (0x74, .conds, 0)
  | .settingGet => (0x80, .store, 3)
  | .settingPut => (0x81, .store, 7)
  | .pricesPublish => (0x82, .store, 0)
  | .storeSave => (0x83, .store, 0)
  | .storeCheck => (0x84, .store, 0)
  | .storeReload => (0x85, .store, 0)
  | .quiesce => (0x90, .power, 0)
  | .resume => (0x91, .power, 0)
  | .kioskReset => (0x92, .power, 0)

def RequestCode.byte (c : RequestCode) : Byte := c.row.1
def RequestCode.owner (c : RequestCode) : Owner := c.row.2.1
def RequestCode.shortest (c : RequestCode) : Nat := c.row.2.2

/-- Every request. -/
def RequestCode.all : List RequestCode :=
  [.identify, .status, .sessionOpen, .sessionClose, .sessionResume, .sessionQuery, .imageRead, .slotQuery,
   .catalogueList, .orderOpen, .lineAdd, .lineChange, .lineRemove, .orderQuote, .orderCommit, .orderCancel, .orderQuery,
   .gateOpen, .gateClose, .challengeAnswer, .slipTake, .refundTake, .tillQuery, .tillRoll, .rasterOpen, .rasterData,
   .rasterAbort, .rasterQuery, .spoolQuery, .printerHold, .printerRelease, .mediaLoaded, .printerQuery,
   .printQueueQuery, .setMode, .conditionClear, .maskSet, .serviceRestore, .conditionQuery, .settingGet, .settingPut,
   .pricesPublish, .storeSave, .storeCheck, .storeReload, .quiesce, .resume, .kioskReset]

/-- The request a code byte names, if any (R6). -/
def requestOf (b : Byte) : Option RequestCode := RequestCode.all.find? (fun c => c.byte = b)

/-- The requests that are taken in STANDBY (R6). -/
def RequestCode.inStandby : RequestCode → Bool
  | .identify => true
  | .status => true
  | .resume => true
  | .conditionQuery => true
  | _ => false

/-! ### Frames (R1) -/

/-- One bit of the CRC division under 0x1021. -/
def crcBit (crc : BitVec 16) : BitVec 16 :=
  if crc.msb then (crc <<< 1) ^^^ 0x1021#16 else crc <<< 1

/-- One byte taken into the CRC register, most significant bit first. -/
def crcByte (crc : BitVec 16) (b : Byte) : BitVec 16 :=
  crcBit (crcBit (crcBit (crcBit (crcBit (crcBit (crcBit (crcBit (crc ^^^ (b.setWidth 16 <<< 8)))))))))

/-- The CRC of R1 over bytes. -/
def crc16 (bytes : List Byte) : BitVec 16 := bytes.foldl crcByte 0xFFFF#16

/-- The two CRC bytes, high byte first. -/
def crcBytes (bytes : List Byte) : List Byte :=
  le1 ((crc16 bytes).toNat / 256) ++ le1 (crc16 bytes).toNat

/-- The TYPE byte (1.1). -/
def FrameType.code : FrameType → Byte
  | .request => 1
  | .reply => 2
  | .notice => 3

/-- TYPE through PAYLOAD. -/
def Frame.body (f : Frame) : List Byte :=
  [f.kind.code, f.tag, f.code] ++ le2 f.payload.length ++ f.payload

/-- The bytes of a frame on the link (R1). -/
def Frame.bytes (f : Frame) : List Byte := Config.sync :: (f.body ++ crcBytes f.body)

/-! ### The outbound queue and the request table (R7, R8) -/

/-- Notices in the queue. -/
def Link.notices (l : Link) : Nat := l.queue.countP (fun f => f.kind = .notice)

/-- Free places: neither queued nor reserved (1.4). -/
def Link.free (l : Link) : Nat := Config.queuePlaces - (l.queue.length + l.table.length)

/-- A notice: queued where R8 has room for it, else dropped. -/
def Link.notice (l : Link) (code : Byte) (payload : List Byte) : Link :=
  if 0 < l.free ∧ l.notices < Config.maxNotices then
    { l with queue := l.queue ++ [{ kind := .notice, tag := 0, code := code, payload := payload }] }
  else { l with dropped := true }

/-- A reply given at once (R5, R6): it takes a free place. -/
def Link.answerAtOnce (l : Link) (tag code : Byte) (status : Status) : Link :=
  { l with queue := l.queue ++ [{ kind := .reply, tag := tag, code := code, payload := [status.code] }] }

/-- An owner's reply (R7): it takes the place of the entry with that tag, which is released; with no such entry it is
discarded. -/
def Link.reply (l : Link) (tag : Byte) (payload : List Byte) : Link :=
  match l.table.find? (fun e => e.tag = tag) with
  | none => l
  | some e =>
    { l with
      table := l.table.filter (fun x => x.tag ≠ tag)
      queue := l.queue ++ [{ kind := .reply, tag := tag, code := e.code.byte, payload := payload }] }

/-- The link error count rises by one, held at 65535 (R4). -/
def Link.countError (l : Link) : Link := { l with errors := min Config.maxLinkErrors (l.errors + 1) }

/-- A block gives a notice. -/
def State.notify (s : State) (code : Byte) (payload : List Byte) : State := s.setLink (s.link.notice code payload)

/-- An owner gives a reply with fields. -/
def State.replyWith (s : State) (tag : Byte) (status : Status) (fields : List Byte) : State :=
  s.setLink (s.link.reply tag (status.code :: fields))

/-- An owner gives the reply OK with fields. -/
def State.ok (s : State) (tag : Byte) (fields : List Byte) : State := s.replyWith tag .ok fields

/-- An owner refuses: the STATUS byte alone (R187). -/
def State.refuse (s : State) (tag : Byte) (status : Status) : State := s.replyWith tag status []

/-- The first entry of an owner that it has not taken (R7: each owner takes its requests in order of arrival). -/
def Link.firstUntaken (l : Link) (o : Owner) : Option Entry :=
  l.table.find? (fun e => e.code.owner = o ∧ e.taken = false)

/-- The entry with a tag marked as taken. -/
def Link.markTaken (l : Link) (tag : Byte) : Link :=
  { l with table := l.table.map (fun e => if e.tag = tag then { e with taken := true } else e) }

/-- An owner takes the request held under `tag`, whose code is `c`, and acts on its payload. Nothing is taken before start-up
has queued START (R7), out of the owner's order, or where no such request waits (log 2). In STANDBY a request of another code
is refused with STANDBY (R183), but SESSION_OPEN, whose own check has its place in R20. -/
def State.take (s : State) (c : RequestCode) (tag : Byte) (act : State → List Byte → State) : State :=
  if s.power.starting then s
  else
    match s.link.firstUntaken c.owner with
    | none => s
    | some e =>
      if e.tag = tag ∧ e.code = c then
        let t := s.setLink (s.link.markTaken tag)
        if s.power.standby ∧ c.inStandby = false ∧ c ≠ .sessionOpen then t.refuse tag .standby
        else act t e.payload
      else s

/-- A device event, which the part hears only once start-up has started sensing (R181, log 20). -/
def State.heard (s : State) (act : State → State) : State :=
  if s.power.starting then s else act s

/-! ### What the part puts on its device links (log 22) -/

/-- One thing sent. -/
def State.send (s : State) (x : Sent) : State := s.setSent (s.sent ++ [x])

/-! ### The spool memory (R129, R130) -/

/-- What address `a` holds. -/
def Memory.read (m : Memory) (a : Nat) : Byte :=
  match m with
  | [] => Config.unwrittenByte
  | (b, v) :: rest => if b = a then v else Memory.read rest a

/-- The byte at `a` written. -/
def Memory.write (m : Memory) (a : Nat) (v : Byte) : Memory :=
  match m with
  | [] => if v = Config.unwrittenByte then [] else [(a, v)]
  | (b, w) :: rest =>
    if a < b then (if v = Config.unwrittenByte then (b, w) :: rest else (a, v) :: (b, w) :: rest)
    else if a = b then (if v = Config.unwrittenByte then rest else (a, v) :: rest)
    else (b, w) :: Memory.write rest a v

/-- The canonical form: addresses strictly rising, no byte that an unlisted address reads as. -/
def Memory.wf : Memory → Bool
  | [] => true
  | (a, v) :: rest => decide (v ≠ Config.unwrittenByte) && rest.all (fun c => decide (a < c.1)) && Memory.wf rest

/-- The address of byte `k` of a raster: block at place k div 262,144 of its block list, offset k mod 262,144 (R130). None
past the end of the block list. -/
def rasterAddress (blocks : List Nat) (k : Nat) : Option Nat :=
  (blocks[k / Config.blockBytes]?).map (fun b => b * Config.blockBytes + k % Config.blockBytes)

/-- The bytes of a write stored at their places from byte `k` on. -/
def Memory.storeRaster (m : Memory) (blocks : List Nat) (k : Nat) : List Byte → Memory
  | [] => m
  | v :: rest =>
    match rasterAddress blocks k with
    | some a => Memory.storeRaster (Memory.write m a v) blocks (k + 1) rest
    | none => Memory.storeRaster m blocks (k + 1) rest

/-- `n` bytes of a raster from byte `k` on. -/
def Memory.readRaster (m : Memory) (blocks : List Nat) (k n : Nat) : List Byte :=
  (List.range n).map (fun i =>
    match rasterAddress blocks (k + i) with
    | some a => m.read a
    | none => Config.unwrittenByte)

/-! ### The sizes (5.2) -/

/-- Raster bytes, spool blocks and media units of a size. -/
def Size.rasterBytes : Size → Nat
  | .p1 => 6480000
  | .p2 => 9450000
  | .p3 => 12960000
  | .p4 => 21600000
def Size.blocks : Size → Nat
  | .p1 => 25
  | .p2 => 37
  | .p3 => 50
  | .p4 => 83
def Size.need : Size → Nat
  | .p1 => 1
  | _ => 2

/-- The sizes a media kind supports (8.2). -/
def supports : MediaKind → Size → Bool
  | .media6, .p4 => false
  | _, _ => true

/-! ### Settings as the blocks read them (10.1, 11.2) -/

def State.idleLimit (s : State) : Nat := s.store.working.a0.get 0
/-- The sense mode of slot n: 0 STATIC, 1 CYCLIC. -/
def State.cyclic (s : State) (n : Fin 4) : Bool := s.store.working.a1.get ⟨n.val, by omega⟩ = 1
def gradeOf (n : Nat) : Grade :=
  match n with
  | 0 => .g0
  | 1 => .g1
  | 2 => .g2
  | _ => .g3
def State.maxGrade (s : State) (n : Fin 4) : Grade := gradeOf (s.store.working.a1.get ⟨4 + n.val, by omega⟩)
def State.mediaErrLimit (s : State) : Nat := s.store.working.a1.get 8
def State.minImage (s : State) : Nat := s.store.working.a1.get 9
def State.maxImage (s : State) : Nat := s.store.working.a1.get 10
def State.catQuota (s : State) : Nat := s.store.working.a1.get 11
/-- The value of coin and bill codes at a unit; a code above 15 is of value 0 (R103). -/
def State.coinValue (s : State) (u : Fin 2) (code : Nat) : Nat :=
  if h : code < 16 then s.store.working.a3.get ⟨32 * u.val + code, by omega⟩ else 0
def State.billValue (s : State) (u : Fin 2) (code : Nat) : Nat :=
  if h : code < 16 then s.store.working.a3.get ⟨32 * u.val + 16 + code, by omega⟩ else 0
def State.creditMax (s : State) : Nat := s.store.working.a3.get 64
def State.boxCapacity (s : State) : Nat := s.store.working.a3.get 65
def State.prnErrLimit (s : State) : Nat := s.store.working.a4.get 0
def State.mediaLowMark (s : State) : Nat := s.store.working.a4.get 1
def State.defaultKioskMask (s : State) : BitVec 16 := BitVec.ofNat 16 (s.store.working.a5.get 0)
def State.defaultSessionMask (s : State) : BitVec 8 := BitVec.ofNat 8 (s.store.working.a5.get 1)
def State.wakeEnables (s : State) : BitVec 3 := BitVec.ofNat 3 (s.store.working.a5.get 2)
def State.spoolShare (s : State) : Nat := s.store.working.a6.get 0
def State.spoolReserve (s : State) : Nat := s.store.working.a6.get 1

/-! ### Stations under each profile (2.1, R17) -/

/-- Station B exists under DUO and DUO-CARD only. -/
def Profile.hasStation : Profile → Station → Bool
  | .duo, .b => true
  | .duoCard, .b => true
  | _, .b => false
  | _, .a => true

def Profile.stations : Profile → Nat
  | .solo => 1
  | .soloCard => 1
  | .duo => 2
  | .duoCard => 2

/-- The station of a slot: with one station all are A's, with two 0 and 1 are A's, 2 and 3 are B's. -/
def Profile.stationOfSlot (p : Profile) (n : Fin 4) : Station :=
  if p.hasStation .b ∧ 2 ≤ n.val then .b else .a

/-- A used cash unit: CU0 under SOLO, both under DUO, none under the card profiles. -/
def Profile.usesUnit : Profile → Fin 2 → Bool
  | .solo, u => u = 0
  | .duo, _ => true
  | _, _ => false

def Profile.unitCount : Profile → Nat
  | .solo => 1
  | .duo => 2
  | _ => 0

def Station.index : Station → Fin 2
  | .a => 0
  | .b => 1

/-- The station a cash unit serves, and the cash unit of a station where it has one. -/
def unitStation (u : Fin 2) : Station := if u = 0 then .a else .b
def Profile.unitOf (p : Profile) (st : Station) : Option (Fin 2) :=
  if p.usesUnit st.index then some st.index else none

/-- The front session of a station (R18). -/
def State.front (s : State) (st : Station) : Option SessionHandle := s.sessions.fronts.get st.index
def State.setFront (s : State) (st : Station) (h : Option SessionHandle) : State :=
  s.setSessions { s.sessions with fronts := put s.sessions.fronts st.index h }

/-- The handle of record `r` as it stands. -/
def State.handleOf (s : State) (r : Fin 8) : SessionHandle := { record := r, gen := (s.record r).gen }

/-- A session handle is current: its record is in use with its generation (R13). -/
def State.current (s : State) (h : SessionHandle) : Bool :=
  (s.record h.record).state ≠ .idle ∧ (s.record h.record).gen = h.gen

/-- The slots bound to a session, in slot order (R22, log 17). -/
def State.boundSlots (s : State) (h : SessionHandle) : List (Fin 4) :=
  (allFin 4).filter (fun n => (s.slot n).bound = some h)

/-- A list of items handled one after another. -/
def State.each {α : Type} (s : State) (xs : List α) (f : State → α → State) : State := xs.foldl f s

end Sys2Proof.Machine
end

