-- ==== Sys2Proof/Machine/Operands.lean ====
section
/-! DEFINITION. The fields of a request's payload (11.2), and the handle and session checks that stand before an owner's own
checks (R13, R23), with the restart of the idle timer that goes with them (R35). -/

namespace Sys2Proof.Machine

/-! ### Numbers in a payload -/

def byteAt (p : List Byte) (k : Nat) : Nat := (p.getD k 0).toNat
def num2At (p : List Byte) (k : Nat) : Nat := byteAt p k + 256 * byteAt p (k + 1)
def num4At (p : List Byte) (k : Nat) : Nat := num2At p k + 65536 * num2At p (k + 2)

/-- A number as an item of a table of `n`, where it lies in it. -/
def fin? (n k : Nat) : Option (Fin n) := if h : k < n then some ⟨k, h⟩ else none

/-! ### Enumerated values in a payload -/

def stationAt (p : List Byte) (k : Nat) : Option Station :=
  match byteAt p k with
  | 0 => some .a
  | 1 => some .b
  | _ => none
def sizeAt (p : List Byte) (k : Nat) : Option Size :=
  match byteAt p k with
  | 0 => some .p1
  | 1 => some .p2
  | 2 => some .p3
  | 3 => some .p4
  | _ => none
def finishAt (p : List Byte) (k : Nat) : Option Finish :=
  match byteAt p k with
  | 0 => some .gloss
  | 1 => some .matte
  | 2 => some .lustre
  | _ => none
def kindAt (p : List Byte) (k : Nat) : Option MediaKind :=
  match byteAt p k with
  | 0 => some .media6
  | 1 => some .media8
  | _ => none
def modeAt (p : List Byte) (k : Nat) : Option Mode :=
  match byteAt p k with
  | 0 => some .customer
  | 1 => some .service
  | _ => none
/-- The scope of CONDITION_CLEAR and MASK_SET: false KIOSK, true session (11.2). -/
def scopeAt (p : List Byte) (k : Nat) : Option Bool :=
  match byteAt p k with
  | 0 => some false
  | 1 => some true
  | _ => none
def flagAt (p : List Byte) (k : Nat) : Option Bool :=
  match byteAt p k with
  | 0 => some false
  | 1 => some true
  | _ => none

/-! ### Handles (R13) -/

/-- The session a handle at `k` names: BAD_VALUE beyond record 7, STALE_HANDLE where the record is IDLE or of another
generation. -/
def State.sessionAt (s : State) (p : List Byte) (k : Nat) : Except Status SessionHandle :=
  match fin? 8 (byteAt p k) with
  | none => .error .badValue
  | some r =>
    let h : SessionHandle := { record := r, gen := p.getD (k + 1) 0 }
    if s.current h then .ok h else .error .staleHandle

/-- The order handle at `k`: none beyond record 15. -/
def orderHandleAt (p : List Byte) (k : Nat) : Option OrderHandle :=
  (fin? 16 (byteAt p k)).map (fun r => { record := r, gen := p.getD (k + 1) 0 })

/-- The order in use that a handle names. -/
def State.order? (s : State) (h : OrderHandle) : Option Order :=
  if (s.orderRecord h.record).gen = h.gen then (s.orderRecord h.record).body else none

/-- The order a handle at `k` names: BAD_VALUE beyond record 15, STALE_HANDLE where the record is free or of another
generation (R13, R74). -/
def State.orderAt (s : State) (p : List Byte) (k : Nat) : Except Status (OrderHandle × Order) :=
  match fin? 16 (byteAt p k) with
  | none => .error .badValue
  | some r =>
    let h : OrderHandle := { record := r, gen := p.getD (k + 1) 0 }
    match s.order? h with
    | some o => .ok (h, o)
    | none => .error .staleHandle

/-- The catalogue handle at `k`: none beyond position 2047. -/
def catHandleAt (p : List Byte) (k : Nat) : Option CatHandle :=
  (fin? 2048 (num2At p k)).map (fun q => { position := q, gen := p.getD (k + 2) 0 })

/-! ### The idle timer (R35) -/

/-- The count of an idle timer, in ms. -/
def Timer.count (t : Timer) (now : Nat) : Nat :=
  match t with
  | .running since => now - since
  | .stopped c => c

/-- The idle timer of record `r` restarts at 0 where it runs, that is while the session is ACTIVE. -/
def State.touch (s : State) (r : Fin 8) : State :=
  match (s.record r).timer with
  | .running _ => s.setRecord r { s.record r with timer := .running s.now }
  | .stopped _ => s

/-- The same for the session a handle names, where the handle is current. -/
def State.touchHandle (s : State) (h : SessionHandle) : State :=
  if s.current h then s.touch h.record else s

/-! ### The session table (R23) -/

/-- The requests a SUSPENDED session takes, and those that CLOSING, DRAINING and SETTLING take (R23). -/
def RequestCode.inSuspended : RequestCode → Bool
  | .sessionQuery => true
  | .sessionResume => true
  | .sessionClose => true
  | .catalogueList => true
  | .conditionClear => true
  | .maskSet => true
  | _ => false
def RequestCode.inLater : RequestCode → Bool
  | .sessionQuery => true
  | .conditionClear => true
  | .maskSet => true
  | _ => false

/-- The refusal of R23 for a session state, if any. An IDLE record is never current. -/
def sessionRefusal (c : RequestCode) : SessionState → Option Status
  | .idle => some .staleHandle
  | .active => none
  | .suspended => if c.inSuspended then none else some .suspended
  | .closing => if c.inLater then none else some .badState
  | .draining => if c.inLater then none else some .badState
  | .settling => if c.inLater then none else some .badState

/-- A request that names a session at `k`: R13, the idle timer, R23, then its own part, which meets the timer restarted (for
SESSION_QUERY log 48). -/
def State.withSession (s : State) (c : RequestCode) (tag : Byte) (p : List Byte) (k : Nat)
    (act : State → SessionHandle → State) : State :=
  match s.sessionAt p k with
  | .error e => s.refuse tag e
  | .ok h =>
    let t := s.touch h.record
    match sessionRefusal c (t.record h.record).state with
    | some e => t.refuse tag e
    | none => act t h

/-- A request that names an order at `k` and is taken in every state of its session: R13, the idle timer, its own part. -/
def State.withAnyOrder (s : State) (tag : Byte) (p : List Byte) (k : Nat)
    (act : State → OrderHandle → Order → State) : State :=
  match s.orderAt p k with
  | .error e => s.refuse tag e
  | .ok (h, o) => act (s.touchHandle o.session) h o

/-- The order a handle names was freed while its session, not yet gone to IDLE, was CLOSING, and its record has not been taken anew. -/
def State.closedOver (s : State) (h : OrderHandle) : Bool :=
  decide (s.orderRecord h.record = { gen := h.gen, body := none }) && (allFin 8).any (fun r =>
    decide ((s.record r).closedOrder = some h ∧ (s.record r).state ∈ [.closing, .draining, .settling]))

/-- A request that R23 refuses by its session's state meets the order its session's close has freed: BAD_STATE, before the handle
check (R23, R72, log 39). Once the record is taken anew, the handle's generation is another's and R13 answers STALE_HANDLE. -/
def State.unlessClosed (s : State) (tag : Byte) (p : List Byte) (k : Nat) (act : State) : State :=
  if (orderHandleAt p k).any s.closedOver then s.refuse tag .badState else act

/-- A request that names an order at `k`: R13, the idle timer, R23 for the owning session, its own part. -/
def State.withOrder (s : State) (c : RequestCode) (tag : Byte) (p : List Byte) (k : Nat)
    (act : State → OrderHandle → Order → State) : State :=
  s.unlessClosed tag p k (s.withAnyOrder tag p k (fun t h o =>
    match sessionRefusal c (t.record o.session.record).state with
    | some e => t.refuse tag e
    | none => act t h o))

/-- The request is refused with the first check that fails, each with its status; otherwise it goes on. -/
def State.checked (s : State) (tag : Byte) (checks : List (Bool × Status)) (act : State) : State :=
  match checks.find? (fun c => !c.1) with
  | some c => s.refuse tag c.2
  | none => act

end Sys2Proof.Machine
end

