-- ==== Sys2Proof/Machine/Flags.lean ====
section
/-! DEFINITION. The condition bits: their kinds, their resolution by mask and mode, what a change of action causes (9.1, 9.5),
and the ATTN line (9.8). The actions SUSPEND and LOCKOUT reach other blocks; they enter here as `susp` and `lock`. -/

namespace Sys2Proof.Machine

/-! ### The tables of R160 and R165 -/

/-- The level conditions of the kiosk set (R160); the others, and every session condition, are event conditions. -/
def kioskLevel (i : Fin 16) : Bool :=
  match i.val with
  | 0 => true
  | 1 => true
  | 3 => true
  | 4 => true
  | 7 => true
  | 8 => true
  | 9 => true
  | 10 => true
  | 11 => true
  | 13 => true
  | 15 => true
  | _ => false

/-- What an enabled kiosk bit resolves to (R165). -/
def kioskTable (i : Fin 16) (m : Mode) : Action :=
  match i.val, m with
  | 0, .customer => .lockout
  | 0, .service => .notify
  | 1, .customer => .lockout
  | 1, .service => .status
  | 12, .customer => .lockout
  | 12, .service => .notify
  | 13, .customer => .notify
  | 13, .service => .status
  | 15, .customer => .lockout
  | 15, .service => .notify
  | _, _ => .notify

/-- What an enabled session bit resolves to (R165). -/
def sessionTable (i : Fin 8) (m : Mode) : Action :=
  match i.val, m with
  | 5, .customer => .suspend
  | 5, .service => .notify
  | 6, _ => .suspend
  | _, _ => .notify

/-- NOTIFY, SUSPEND and LOCKOUT are the acting actions. -/
def Action.acting : Action → Bool
  | .notify => true
  | .suspend => true
  | .lockout => true
  | _ => false

/-- The resolved action of bit `i` (R165). -/
def CondSet.resolved {n : Nat} (c : CondSet n) (table : Fin n → Mode → Action) (m : Mode) (i : Fin n) : Action :=
  if c.bits.getLsbD i.val = false then .unset
  else if c.mask.getLsbD i.val = false then .hold
  else table i m

def CondSet.record {n : Nat} (c : CondSet n) (i : Fin n) (a : Action) : CondSet n :=
  { c with recorded := put c.recorded i a }
def CondSet.set {n : Nat} (c : CondSet n) (i : Fin n) : CondSet n := { c with bits := setBit c.bits i }

/-- A bit cleared, its recorded action unset (R165). -/
def CondSet.unset {n : Nat} (c : CondSet n) (i : Fin n) : CondSet n :=
  { bits := clearBit c.bits i, mask := c.mask, recorded := put c.recorded i .unset }

def State.kioskResolved (s : State) (i : Fin 16) : Action := s.conds.kiosk.resolved kioskTable s.conds.mode i
def State.sessionResolved (s : State) (r : Fin 8) (i : Fin 8) : Action :=
  (s.sessionSet r).resolved sessionTable s.conds.mode i

/-! ### Resolution and its consequences (R165, R166) -/

/-- What made a bit resolve (R166); a raise has its detail (R161). -/
inductive Trigger where
  | raised (detail : List Byte)
  | mask
  | mode
  | restore
  deriving DecidableEq, Repr

def Trigger.code : Trigger → Nat
  | .raised _ => 0
  | .mask => 1
  | .mode => 2
  | .restore => 3

/-- The detail packed into 5 bytes, zero when the trigger is not RAISED (11.3). -/
def Trigger.detail : Trigger → List Byte
  | .raised d => (d ++ List.replicate 5 0).take 5
  | _ => List.replicate 5 0

/-- The CONDITION notice (R166, 11.3). -/
def State.conditionNotice (s : State) (scope : Option SessionHandle) (n : Nat) (a : Action) (t : Trigger) : State :=
  s.notify 0xCC (flagByte scope.isSome ++ sessionBytes scope ++ le1 n ++ le1 a.code ++ le1 t.code ++ t.detail)

/-- Kiosk bit `i` resolved: the new action is recorded, a notice goes out where the bit begins to act, and a change to LOCKOUT
applies the lockout. -/
def State.resolveKiosk (lock : State → State) (t : Trigger) (s : State) (i : Fin 16) : State :=
  let old := s.conds.kiosk.recorded.get i
  let new := s.kioskResolved i
  let s1 := s.setKioskSet (s.conds.kiosk.record i new)
  let s2 := if new.acting && !old.acting then s1.conditionNotice none i.val new t else s1
  if new = .lockout ∧ old ≠ .lockout then lock s2 else s2

/-- Bit `i` of the set of session record `r` resolved; a change to SUSPEND applies the SUSPEND action. -/
def State.resolveSession (susp : State → Fin 8 → State) (t : Trigger) (r : Fin 8) (s : State) (i : Fin 8) : State :=
  let old := (s.sessionSet r).recorded.get i
  let new := s.sessionResolved r i
  let s1 := s.setSessionSet r ((s.sessionSet r).record i new)
  let s2 := if new.acting && !old.acting then s1.conditionNotice (some (s1.handleOf r)) i.val new t else s1
  if new = .suspend ∧ old ≠ .suspend then susp s2 r else s2

/-- Every set bit of every set resolved, the kiosk set first (log 18). -/
def State.resolveAll (lock : State → State) (susp : State → Fin 8 → State) (t : Trigger) (s : State) : State :=
  let s1 := s.each ((allFin 16).filter (fun i => s.conds.kiosk.bits.getLsbD i.val)) (State.resolveKiosk lock t)
  s1.each (allFin 8) (fun s2 r =>
    s2.each ((allFin 8).filter (fun i => (s2.sessionSet r).bits.getLsbD i.val)) (State.resolveSession susp t r))

/-! ### Raises and level reports (R161) -/

/-- A raise of a kiosk event bit. -/
def State.raiseKioskWith (lock : State → State) (s : State) (i : Fin 16) (detail : List Byte) : State :=
  if s.conds.kiosk.bits.getLsbD i.val then s
  else (s.setKioskSet (s.conds.kiosk.set i)).resolveKiosk lock (.raised detail) i

/-- A level report of a kiosk bit. -/
def State.reportLevelWith (lock : State → State) (s : State) (i : Fin 16) (present : Bool) : State :=
  if present then
    if s.conds.kiosk.bits.getLsbD i.val then s
    else (s.setKioskSet (s.conds.kiosk.set i)).resolveKiosk lock (.raised []) i
  else s.setKioskSet (s.conds.kiosk.unset i)

/-- A raise of a kiosk bit that no mode resolves to LOCKOUT (K2, K5, K6, K14). -/
def State.raiseKioskQuiet (s : State) (i : Fin 16) (detail : List Byte) : State :=
  State.raiseKioskWith id s i detail

/-- A level report of a bit that no mode resolves to LOCKOUT (K3, K4, K7 to K11, K13). -/
def State.reportLevelQuiet (s : State) (i : Fin 16) (present : Bool) : State :=
  State.reportLevelWith id s i present

/-- A raise on a session's set; discarded where the handle is not current. -/
def State.raiseSessionWith (susp : State → Fin 8 → State) (s : State) (h : SessionHandle) (i : Fin 8)
    (detail : List Byte) : State :=
  if s.current h then
    if (s.sessionSet h.record).bits.getLsbD i.val then s
    else
      (s.setSessionSet h.record ((s.sessionSet h.record).set i)).resolveSession susp (.raised detail) h.record i
  else s

/-! ### The lines (R10, R173, R184) -/

/-- TXRDY: a frame stands in the queue. -/
def State.txrdy (s : State) : Bool := !s.link.queue.isEmpty

/-- WAKE: a wake cause is latched. -/
def State.wake (s : State) : Bool := s.power.latches ≠ 0

/-- ATTN: some bit acts, or a wake cause is latched. -/
def State.attn (s : State) : Bool :=
  (allFin 16).any (fun i => (s.kioskResolved i).acting) ||
  (allFin 8).any (fun r => (allFin 8).any (fun i => (s.sessionResolved r i).acting)) ||
  s.wake

end Sys2Proof.Machine
end

