-- ==== Sys2Proof/Machine/CashOps.lean ====
section
/-! DEFINITION. The cash side of the Money Unit (6.1 to 6.7, 6.9): port state, headroom, enable sets, the opening and closing of
gates, the challenge's tokens, credit, the slip log and the card refund log. -/

namespace Sys2Proof.Machine

/-! ### Views of a cash unit -/

/-- The port states of a cash unit (R103). -/
inductive CashPort where
  | absent | lost | jammed | ready
  deriving DecidableEq, Repr

def CashPort.code : CashPort → Nat
  | .absent => 0
  | .lost => 1
  | .jammed => 2
  | .ready => 3

def CashUnit.port (c : CashUnit) : CashPort :=
  if c.heard = false then .absent else if c.silent then .lost else if c.jammed then .jammed else .ready

/-- The headroom of a credit (R102). -/
def State.headroom (s : State) (credit : Nat) : Nat := s.creditMax - credit

/-- The headroom of the front session a unit serves. -/
def State.unitHeadroom (s : State) (u : Fin 2) : Nat :=
  match s.front (unitStation u) with
  | some h => s.headroom (s.account h.record).credit
  | none => 0

/-- The box is full (R115); the box can take a bill while it is IN and not full. -/
def State.boxFull (s : State) (u : Fin 2) : Bool := s.boxCapacity ≤ (s.unit u).boxCount || (s.unit u).fullFlag
def State.boxOpen (s : State) (u : Fin 2) : Bool := (s.unit u).boxIn && !s.boxFull u

/-- The enable sets of an open gate (R107). -/
def State.coinSetOf (s : State) (u : Fin 2) : BitVec 16 :=
  bitsOf (fun i : Fin 16 => 0 < s.coinValue u i.val && s.coinValue u i.val ≤ s.unitHeadroom u)
def State.billSetOf (s : State) (u : Fin 2) : BitVec 16 :=
  bitsOf (fun i : Fin 16 => s.boxOpen u && 0 < s.billValue u i.val)

/-- The enable sets of an open gate computed again; ENABLE is sent where either has changed (R107). -/
def State.refreshGate (s : State) (u : Fin 2) : State :=
  if (s.unit u).gateOpen ∧ ((s.unit u).coinSet ≠ s.coinSetOf u ∨ (s.unit u).billSet ≠ s.billSetOf u) then
    (s.setUnit u { s.unit u with coinSet := s.coinSetOf u, billSet := s.billSetOf u }).send
      (.enable u (s.coinSetOf u) (s.billSetOf u))
  else s

def State.refreshGates (s : State) : State := (s.refreshGate 0).refreshGate 1

def State.anyGateOpen (s : State) : Bool := (s.unit 0).gateOpen || (s.unit 1).gateOpen

/-! ### The challenge's tokens (R116) -/

/-- The token after `t`. -/
def nextToken (t : Byte) : Byte := BitVec.ofNat 8 (t.toNat * 29 + 17)

/-- A token issued: it becomes the pending one, the issue timer restarts and a CHALLENGE notice goes out. -/
def State.issueToken (s : State) (t : Byte) : State :=
  (s.setChallenge { s.money.challenge with running := true, token := t, pending := true, since := s.now }).notify 0xC8 [t]

/-- The challenge stops: the pending token is discarded, the error count kept. -/
def State.stopChallenge (s : State) : State :=
  s.setChallenge { s.money.challenge with running := false, pending := false }

/-! ### Gates (R105, R106) -/

/-- The causes of a GATE notice (R127). -/
inductive GateCause where
  | suspended | closed | lockout | challengeFail | jam | reset
  deriving DecidableEq, Repr

def GateCause.code : GateCause → Nat
  | .suspended => 0
  | .closed => 1
  | .lockout => 2
  | .challengeFail => 3
  | .jam => 4
  | .reset => 5

/-- A HELD bill answered RETURN: the escrow goes to RETURNING and its limit starts (R106, R109). -/
def State.giveBackHeld (s : State) (u : Fin 2) : State :=
  match (s.unit u).escrow with
  | .held code value h =>
    (s.setUnit u { s.unit u with escrow := .returning code value (some h) s.now }).send (.giveBack u)
  | _ => s

/-- A gate closes (R106): INHIBIT, RETURN for a HELD bill, the challenge stops with the last open gate, and a GATE notice
unless GATE_CLOSE was the cause. A gate already CLOSED is not changed. -/
def State.closeGate (s : State) (u : Fin 2) (cause : Option GateCause) : State :=
  if (s.unit u).gateOpen then
    let s1 := (s.setUnit u { s.unit u with gateOpen := false, coinSet := 0, billSet := 0 }).send (.inhibit u)
    let s2 := s1.giveBackHeld u
    let s3 := if s2.anyGateOpen then s2 else s2.stopChallenge
    match cause with
    | some c => s3.notify 0xC7 (le1 u.val ++ le1 c.code)
    | none => s3
  else s

/-- The gate of a station's cash unit closes, where the station has one. -/
def State.closeStationGate (s : State) (st : Option Station) (cause : Option GateCause) : State :=
  match st.bind s.power.profile.unitOf with
  | some u => s.closeGate u cause
  | none => s

/-- Every gate closes. -/
def State.closeGates (s : State) (cause : GateCause) : State :=
  (s.closeGate 0 (some cause)).closeGate 1 (some cause)

/-! ### Credit and till -/

/-- Credit of record `r` changed; the enable sets follow (R107). -/
def State.setCredit (s : State) (r : Fin 8) (credit : Nat) : State :=
  (s.setAccount r { s.account r with credit := credit }).refreshGates
def State.addCredit (s : State) (r : Fin 8) (v : Nat) : State := s.setCredit r ((s.account r).credit + v)

/-- Till counters risen; 32 bits, wrapping (R125). -/
def amount32 (v : Nat) : BitVec 32 := BitVec.ofNat 32 v
def State.tillCashIn (s : State) (v : Nat) : State :=
  s.setTill { s.money.till with cashIn := s.money.till.cashIn + amount32 v }
def State.tillCardIn (s : State) (v : Nat) : State :=
  s.setTill { s.money.till with cardIn := s.money.till.cardIn + amount32 v }
def State.tillEarned (s : State) (v : Nat) : State :=
  s.setTill { s.money.till with earned := s.money.till.earned + amount32 v }
def State.tillOverage (s : State) (v : Nat) : State :=
  s.setTill { s.money.till with
    cashIn := s.money.till.cashIn + amount32 v, overage := s.money.till.overage + amount32 v }

/-- The kinds of a CREDIT notice (R127). -/
inductive CreditKind where
  | coin | bill | lateBill
  deriving DecidableEq, Repr

def CreditKind.code : CreditKind → Nat
  | .coin => 0
  | .bill => 1
  | .lateBill => 2

/-- Cash of value `v` credited to a session (R108, R111, R113): credit, cash paid and cash_in rise, the idle timer restarts, a
CREDIT notice goes out, the enable sets follow. -/
def State.creditCash (s : State) (h : SessionHandle) (u : Fin 2) (kind : CreditKind) (v : Nat) : State :=
  let a := s.account h.record
  let s1 := (s.setAccount h.record { a with credit := a.credit + v, cashPaid := a.cashPaid + v }).tillCashIn v
  let s2 := s1.touch h.record
  (s2.notify 0xC6 (h.bytes ++ le1 u.val ++ le1 kind.code ++ le4 v ++ le4 (a.credit + v))).refreshGates

/-! ### The slip log (R123) -/

/-- Slip numbers run from 1 and wrap from 65535 to 1; copy ids likewise (R143). -/
def nextFromOne (n : BitVec 16) : BitVec 16 := if n = 0xFFFF then 1 else n + 1

def State.slipRoom (s : State) : Bool := s.money.slips.length < Config.slipLogSize

/-- A slip entered: it takes the next number, its amount joins slips_issued, a SLIP notice goes out. -/
def State.issueSlip (s : State) (h : Option SessionHandle) (amount : Nat) (cause : SlipCause) : State :=
  let n := s.money.slipCounter
  let s1 := s.setMoney { s.money with
    slips := s.money.slips ++ [{ number := n, session := h, amount := amount, cause := cause }]
    slipCounter := nextFromOne n
    till := { s.money.till with slipsIssued := s.money.till.slipsIssued + amount32 amount } }
  s1.notify 0xC9 (le2 n.toNat ++ sessionBytes h ++ le4 amount ++ le1 cause.code)

/-! ### The card refund log (R124) -/

/-- A card refund record made: its amount joins card_refunds_issued; it joins the log, or its amount the unlogged amount where
the log is full; a REFUND notice says which. -/
def State.makeRefund (s : State) (x : CardRefund) : State :=
  let logged := decide (s.money.refunds.length < Config.refundLogSize)
  let t := s.money.till
  let s1 := s.setMoney { s.money with
    refunds := if logged then s.money.refunds ++ [x] else s.money.refunds
    till := { t with
      cardRefundsIssued := t.cardRefundsIssued + amount32 x.amount
      unlogged := if logged then t.unlogged else t.unlogged + amount32 x.amount } }
  s1.notify 0xCA (sessionBytes x.session ++ orderBytes x.order ++ le2 x.ref.toNat ++ le4 x.amount ++ le1 x.cause.code ++
    flagByte logged)

end Sys2Proof.Machine
end

