-- ==== Sys2Proof/Machine/SessionOps.lean ====
section
/-! DEFINITION. The Session Manager's operations (02): suspension, the end of money in flight, settlement and the settling
queue. -/

namespace Sys2Proof.Machine

/-- The causes of a SESSION notice (R32). -/
inductive SessionCause where
  | suspendAction | lockout | closed | slipLogFull | queueWait | settled
  deriving DecidableEq, Repr

def SessionCause.code : SessionCause → Nat
  | .suspendAction => 0
  | .lockout => 1
  | .closed => 2
  | .slipLogFull => 3
  | .queueWait => 4
  | .settled => 5

/-- The SESSION notice for the state record `r` now has; `totals` follow at IDLE (R32, 11.3). -/
def State.sessionNotice (s : State) (r : Fin 8) (cause : SessionCause) (totals : List Byte) : State :=
  s.notify 0xC1 ((s.handleOf r).bytes ++ le1 (s.record r).state.code ++ le1 cause.code ++ totals)

/-! ### Suspension (R33) -/

/-- An ACTIVE session goes to SUSPENDED: its idle timer stops and its station's gate closes. Any other state is kept. -/
def State.suspendFor (s : State) (r : Fin 8) (cause : SessionCause) (gate : GateCause) : State :=
  let x := s.record r
  if x.state = .active then
    let s1 := s.setRecord r { x with state := .suspended, timer := .stopped (x.timer.count s.now) }
    (s1.sessionNotice r cause []).closeStationGate x.station (some gate)
  else s

/-- The SUSPEND action (R168). -/
def State.suspend (s : State) (r : Fin 8) : State := s.suspendFor r .suspendAction .suspended

/-- A raise on a session's condition set. -/
def State.raiseSession (s : State) (h : SessionHandle) (i : Fin 8) (detail : List Byte) : State :=
  State.raiseSessionWith State.suspend s h i detail

/-- An ACTIVE session's idle timer reaches its limit (R35): it restarts at 0 and IDLE_TIMEOUT (S5) is raised. -/
def State.idleExpires (s : State) (r : Fin 8) : State :=
  if (s.record r).state = .active then (s.touch r).raiseSession (s.handleOf r) 5 [] else s

/-! ### Money in flight (R27) -/

/-- An escrow holds a bill on a session's behalf. -/
def Escrow.isFor (e : Escrow) (h : SessionHandle) : Bool :=
  match e with
  | .none => false
  | .held _ _ x => x = h
  | .stacking _ _ x _ => x = h
  | .returning _ _ x _ => x = some h

/-- The authorisation that is outstanding at the port itself. -/
def TerminalState.outstanding : TerminalState → Option Auth
  | .busy a _ => some a
  | .cancelling _ a _ => a
  | _ => none

/-- A session has money in flight: a bill in escrow on its behalf, or an authorisation outstanding. -/
def State.moneyInFlight (s : State) (h : SessionHandle) : Bool :=
  (s.unit 0).escrow.isFor h || (s.unit 1).escrow.isFor h ||
  (s.money.terminal.state.outstanding.any (fun a => a.session = h)) ||
  s.money.terminal.waiting.any (fun a => a.session = h)

/-! ### Settlement (R29 to R31) -/

/-- A record goes to IDLE by settlement, with the slip issued for it, if any (R31). -/
def State.goIdle (s : State) (r : Fin 8) (slip : Option (Nat × BitVec 16)) : State :=
  let x := s.record r
  let a := s.account r
  let t : Totals := { x.totals with slipAmount := (slip.map (·.1)).getD 0, slipNumber := slip.map (·.2) }
  let s1 := s.setRecord r { x with
    state := .idle, station := none, uncommitted := none, committed := [], timer := .stopped 0, totals := t, closedOrder := none }
  let s2 := (s1.setAccount r { a with credit := 0 }).setSessionSet r (CondSet.clear s.defaultSessionMask)
  s2.sessionNotice r .settled
    (le4 (a.cashPaid + a.cardPaid) ++ le4 t.earned ++ le4 t.refunded ++ le4 t.slipAmount ++ slipNumberBytes t.slipNumber)

/-- The slip of a session's whole credit is issued and its record goes to IDLE. -/
def State.slipAndIdle (s : State) (r : Fin 8) : State :=
  let credit := (s.account r).credit
  let n := s.money.slipCounter
  (s.issueSlip (some (s.handleOf r)) credit .settlement).goIdle r (some (credit, n))

/-- Settlement (R29). -/
def State.settle (s : State) (r : Fin 8) : State :=
  if (s.account r).credit = 0 then s.goIdle r none
  else if s.sessions.settling = [] ∧ s.slipRoom then s.slipAndIdle r
  else
    let cause : SessionCause := if s.sessions.settling = [] then .slipLogFull else .queueWait
    let s1 := s.setRecord r { s.record r with state := .settling }
    (s1.setSessions { s1.sessions with settling := s1.sessions.settling ++ [r] }).sessionNotice r cause []

/-- A place fell free in the slip log: the head of the settling queue settles into it (R30). -/
def State.settleHead (s : State) : State :=
  match s.sessions.settling with
  | [] => s
  | r :: rest => (s.setSessions { s.sessions with settling := rest }).slipAndIdle r

/-! ### Leaving CLOSING and DRAINING (R27, R28) -/

/-- A session leaves CLOSING: its front flag clears, its station is free, and it goes to DRAINING or to settlement. -/
def State.leaveClosing (s : State) (r : Fin 8) : State :=
  let x := s.record r
  let s1 := match x.station with
    | some st => s.setFront st none
    | none => s
  let s2 := s1.setRecord r { x with station := none }
  if x.committed = [] then s2.settle r
  else (s2.setRecord r { s2.record r with state := .draining }).sessionNotice r .closed []

/-- The test at each end of an escrow or an authorisation, and at SESSION_CLOSE: a CLOSING session without money in flight
leaves CLOSING. -/
def State.closingExit (s : State) (r : Fin 8) : State :=
  if (s.record r).state = .closing ∧ s.moneyInFlight (s.handleOf r) = false then s.leaveClosing r else s

/-- The test for the session a handle names, where it is current. -/
def State.closingExitOf (s : State) (h : Option SessionHandle) : State :=
  match h with
  | some h => if s.current h then s.closingExit h.record else s
  | none => s

/-- A committed order leaves its session's list, with what it earned and refunded; an emptied list of a DRAINING session
settles it (R24, R28). -/
def State.orderLeft (s : State) (h : SessionHandle) (o : OrderHandle) (earned refunded : Nat) : State :=
  if s.current h then
    let x := s.record h.record
    let rest := x.committed.filter (fun c => c ≠ o)
    let t : Totals := { x.totals with earned := x.totals.earned + earned, refunded := x.totals.refunded + refunded }
    let s1 := s.setRecord h.record { x with committed := rest, totals := t }
    if x.state = .draining ∧ rest = [] then s1.settle h.record else s1
  else s

end Sys2Proof.Machine
end

