-- ==== Sys2Proof/Machine/SpoolOps.lean ====
section
/-! DEFINITION. The Spool Unit's operations (07): the spool port's arbiter, the readers, the share in use, the pressure, the
freeing of a raster. -/

namespace Sys2Proof.Machine

/-! ### The spool port (R137) -/

def Requester.index : Requester → Nat
  | .writer => 0
  | .reader p => p.val + 1

def requesterAt (n : Nat) : Requester :=
  match n % 4 with
  | 0 => .writer
  | 1 => .reader 0
  | 2 => .reader 1
  | _ => .reader 2

/-- A requester has a transfer waiting. -/
def Spool.waits (x : Spool) : Requester → Bool
  | .writer => !x.writes.isEmpty
  | .reader p => (x.readers.get p).job.isSome && (x.readers.get p).asks

/-- The requesters in cyclic order, from the one after that last granted. -/
def Spool.cycle (x : Spool) : List Requester :=
  [1, 2, 3, 4].map (fun k => requesterAt (x.last.index + k))

/-- An idle port is granted to the first waiting requester of the cycle. -/
def Spool.arbitrate (x : Spool) : Spool :=
  if x.granted = none then
    match x.cycle.find? x.waits with
    | some r => { x with granted := some r, last := r }
    | none => x
  else x

def State.grantSpool (s : State) : State := s.setSpool s.spool.arbitrate

/-- A reader started on a raster, from offset 0, asking for its first transfer. -/
def State.startReader (s : State) (p : Fin 3) (o : OrderHandle) (l : Fin 16) : State :=
  (s.setReader p { job := some (o, l), next := 0, asks := true, untaken := 0 }).grantSpool

/-- A transfer being served for `r` stops, if one is. -/
def Spool.release (x : Spool) (r : Requester) : Spool :=
  if x.granted = some r then { x with granted := none } else x

/-- A reader stopped; a transfer being served for it stops, and the port is granted anew. -/
def State.stopReader (s : State) (p : Fin 3) : State :=
  let s1 := s.setReader p Reader.stopped
  (s1.setSpool (s1.spool.release (.reader p))).grantSpool

/-! ### Raster records (R129 to R131) -/

def State.raster? (s : State) (o : OrderHandle) (l : Fin 16) : Option Raster :=
  s.spool.rasters.find? (fun x => x.order = o ∧ x.line = l)

/-- The record of a line changed. -/
def State.updateRaster (s : State) (o : OrderHandle) (l : Fin 16) (f : Raster → Raster) : State :=
  s.setSpool { s.spool with rasters := s.spool.rasters.map (fun y => if y.order = o ∧ y.line = l then f y else y) }

/-- The length of a record's raster. -/
def Raster.length (x : Raster) : Nat := x.size.rasterBytes

/-- The state of a record as a raster state. -/
def Raster.state (x : Raster) : RasterState := if x.complete then .complete else .writing

/-- The share in use of a session (R131). -/
def State.shareOf (s : State) (h : SessionHandle) : Nat :=
  ((s.spool.rasters.filter (fun x => x.charged = some h)).map (fun x => x.blocks.length)).sum

/-- The commit of an order takes its records off every share (R131). -/
def State.unchargeOrder (s : State) (o : OrderHandle) : State :=
  s.setSpool { s.spool with
    rasters := s.spool.rasters.map (fun x => if x.order = o then { x with charged := none } else x) }

/-! ### Pressure (R138) -/

/-- SPOOL_PRESSURE evaluated: present while the free blocks are fewer than SPOOL_RESERVE. K13 never locks out. -/
def State.evalPressure (s : State) : State :=
  s.reportLevelQuiet 13 (decide (s.spool.free.length < s.spoolReserve))

/-! ### Freeing (R135) -/

/-- The write belongs to the record of line `l` of order `o`. -/
def Write.isOf (w : Write) (o : OrderHandle) (l : Fin 16) : Bool := w.order = o ∧ w.line = l

/-- A raster record freed: its writes are answered NO_RASTER, a transfer being served for one stops, its blocks join the tail
of the free list, the record goes, SPOOL_PRESSURE is evaluated. Without a record nothing happens. -/
def State.freeRaster (s : State) (o : OrderHandle) (l : Fin 16) : State :=
  match s.raster? o l with
  | none => s
  | some x =>
    let mine := s.spool.writes.filter (fun w => w.isOf o l)
    let s1 := s.each mine (fun t w => t.refuse w.tag .noRaster)
    let served := s.spool.writes.head?.any (fun w => w.isOf o l)
    let sp := if served then s.spool.release .writer else s.spool
    let s2 := s1.setSpool { sp with
      free := sp.free ++ x.blocks
      rasters := sp.rasters.eraseP (fun y => y.order = o ∧ y.line = l)
      writes := sp.writes.filter (fun w => !w.isOf o l) }
    s2.grantSpool.evalPressure

end Sys2Proof.Machine
end

