-- ==== Sys2Proof/Machine/CatalogueOps.lean ====
section
/-! DEFINITION. The Catalogue's operations (04): the probe window, the lookup, the admission, reference counts, freeing, and the
layout of an entry (11.5). -/

namespace Sys2Proof.Machine

/-! ### Keys and windows (R59, R60) -/

/-- The home position of a key. -/
def homeOf (record : Fin 8) (slot : Fin 4) (ordinal : Nat) : Nat :=
  (ordinal * 37 + slot.val * 521 + record.val * 1031) % 2048

/-- Position `n` of the table, counted past 2047 from 0. -/
def positionAt (n : Nat) : Fin 2048 := ⟨n % 2048, Nat.mod_lt _ (by decide)⟩

/-- The probe window of a key, in window order. -/
def windowOf (record : Fin 8) (slot : Fin 4) (ordinal : Nat) : List (Fin 2048) :=
  (List.range Config.windowSize).map (fun k => positionAt (homeOf record slot ordinal + k))

/-- The entry at a position has the key. -/
def Position.hasKey (p : Position) (record : Fin 8) (slot : Fin 4) (ordinal : Nat) : Bool :=
  p.entry.any (fun e => e.owner.record = record ∧ e.slot = slot ∧ e.ordinal = ordinal)

/-- The lookup of a key: the first held position of its window with that key. It passes over free positions. -/
def Catalogue.lookup (c : Catalogue) (record : Fin 8) (slot : Fin 4) (ordinal : Nat) : Option (Fin 2048) :=
  (windowOf record slot ordinal).find? (fun q => (c.table.get q).hasKey record slot ordinal)

/-- The first free position of a key's window. -/
def Catalogue.place (c : Catalogue) (record : Fin 8) (slot : Fin 4) (ordinal : Nat) : Option (Fin 2048) :=
  (windowOf record slot ordinal).find? (fun q => (c.table.get q).entry = none)

/-! ### Optional fields (R58) -/

def inRange (lo hi : Nat) (n : Option Nat) : Option Nat := n.filter (fun k => lo ≤ k && k ≤ hi)

/-- Width and height, recorded when both were found and both lie in 1..65535. -/
def dimsOf (f : HeaderFields) : Option (Nat × Nat) :=
  match inRange 1 65535 f.width, inRange 1 65535 f.height with
  | some w, some h => some (w, h)
  | _, _ => none

/-- The capture stamp, recorded when all six parts were found and each lies in its range. -/
def stampOf (f : StampParts) : Option Stamp :=
  match inRange 1900 2099 f.year, inRange 1 12 f.month, inRange 1 31 f.day, inRange 0 23 f.hour, inRange 0 59 f.minute,
    inRange 0 59 f.second with
  | some y, some mo, some d, some h, some mi, some sec =>
    some { year := y, month := mo, day := d, hour := h, minute := mi, second := sec }
  | _, _, _, _, _, _ => none

/-! ### Admission (R61) -/

/-- The Catalogue's answers to a hand-off. -/
inductive Admission where
  | admitted | noRoom | alreadyHeld
  deriving DecidableEq, Repr

/-- The entry a hand-off makes. -/
def HandOff.entry (f : HandOff) : CatEntry :=
  { owner := f.owner, slot := f.slot, ordinal := f.ordinal, name := f.name, size := f.size, kind := f.kind
    dims := dimsOf f.fields, orientation := inRange 1 8 f.fields.orientation, stamp := stampOf f.fields.stamp, refs := 0 }

/-- The admission of a file under a quota: lookup, quota, placement, entry (R61 steps 2 to 5). -/
def Catalogue.admission (c : Catalogue) (quota : Nat) (f : HandOff) : Catalogue × Admission :=
  let r := f.owner.record
  match c.lookup r f.slot f.ordinal with
  | some _ => (c, .alreadyHeld)
  | none =>
    if quota ≤ (c.lists.get r).length then (c, .noRoom)
    else
      match c.place r f.slot f.ordinal with
      | none => (c, .noRoom)
      | some q =>
        ({ c with
            table := put c.table q { gen := (c.table.get q).gen + 1, entry := some f.entry }
            lists := put c.lists r (c.lists.get r ++ [q]) }, .admitted)

/-! ### Handles and reference counts (R64, R66) -/

/-- The entry a handle names, where the handle is current. -/
def Catalogue.entry? (c : Catalogue) (h : CatHandle) : Option CatEntry :=
  if (c.table.get h.position).gen = h.gen then (c.table.get h.position).entry else none

/-- The handle of a held position. -/
def Catalogue.handleAt (c : Catalogue) (q : Fin 2048) : CatHandle := { position := q, gen := (c.table.get q).gen }

/-- The reference count of a current entry changed; with a stale handle nothing happens. -/
def Catalogue.count (c : Catalogue) (h : CatHandle) (f : Nat → Nat) : Catalogue :=
  match c.entry? h with
  | some e => { c with table := put c.table h.position { gen := h.gen, entry := some { e with refs := f e.refs } } }
  | none => c

def State.refRises (s : State) (h : CatHandle) : State := s.setCatalogue (s.catalogue.count h (· + 1))
def State.refFalls (s : State) (h : CatHandle) : State := s.setCatalogue (s.catalogue.count h (· - 1))

/-- The handle check (R64): the entry a handle at `k` names, for a session. -/
def State.imageFor (s : State) (session : SessionHandle) (p : List Byte) (k : Nat) : Except Status (CatHandle × CatEntry) :=
  match catHandleAt p k with
  | none => .error .badValue
  | some h =>
    match s.catalogue.entry? h with
    | none => .error .staleHandle
    | some e => if e.owner = session then .ok (h, e) else .error .accessDenied

/-- A request refused by the handle check; on ACCESS_DENIED, ACCESS_VIOLATION (S6) is raised on the named session with the
misused handle. -/
def State.refuseImage (s : State) (tag : Byte) (session : SessionHandle) (p : List Byte) (k : Nat) (e : Status) : State :=
  let s1 := if e = .accessDenied then s.raiseSession session 6 [p.getD k 0, p.getD (k + 1) 0, p.getD (k + 2) 0] else s
  s1.refuse tag e

/-! ### Freeing (R69) -/

/-- The entries of a session's list whose entry satisfies `p`, freed all at once: their positions become free and keep their
generations, and leave the list. -/
def Catalogue.freeWhere (c : Catalogue) (r : Fin 8) (p : CatEntry → Bool) : Catalogue :=
  let gone := (c.lists.get r).filter (fun q => (c.table.get q).entry.any p)
  { c with
    table := gone.foldl (fun t q => put t q { gen := (t.get q).gen, entry := none }) c.table
    lists := put c.lists r ((c.lists.get r).filter (fun q => !(c.table.get q).entry.any p)) }

/-- What a freeing reports: each freed entry's handle and the count it held, in list order (R70). -/
def Catalogue.freed (c : Catalogue) (r : Fin 8) (p : CatEntry → Bool) : List (CatHandle × Nat) :=
  (c.lists.get r).filterMap (fun q =>
    match (c.table.get q).entry with
    | some e => if p e then some (c.handleAt q, e.refs) else none
    | none => none)

/-! ### The layout of an entry (11.5) -/

/-- The stamp's seven bytes. -/
def stampBytes : Option Stamp → List Byte
  | some t => le2 t.year ++ le1 t.month ++ le1 t.day ++ le1 t.hour ++ le1 t.minute ++ le1 t.second
  | none => List.replicate 7 0

/-- An entry of a CATALOGUE_LIST reply. -/
def entryBytes (h : CatHandle) (e : CatEntry) : List Byte :=
  let flags := (if e.dims.isSome then 1 else 0) + (if e.orientation.isSome then 2 else 0) +
    (if e.stamp.isSome then 4 else 0)
  h.bytes ++ le1 e.slot.val ++ le2 e.ordinal ++ le4 e.size ++ le1 e.kind.code ++ le1 flags ++
    le2 ((e.dims.map (·.1)).getD 0) ++ le2 ((e.dims.map (·.2)).getD 0) ++ le1 (e.orientation.getD 0) ++
    stampBytes e.stamp ++ le1 e.refs ++ nameBytes e.name

end Sys2Proof.Machine
end

