-- ==== Sys2Proof/Machine/OrderOps.lean ====
section
/-! DEFINITION. The Order Unit's operations (05) and the terminal's queue (6.8): pricing, the cancel of an uncommitted order, the
end of an authorisation, copies, refunds, finishing. -/

namespace Sys2Proof.Machine

/-! ### Lines -/

/-- The lines in use, in index order. -/
def Order.used (o : Order) : List (Fin 16 × Line) :=
  (allFin 16).filterMap (fun k => (o.lines.get k).map (fun l => (k, l)))

/-- The order's copies: the sum of the quantities of its lines (R77). -/
def Order.copyCount (o : Order) : Nat := (o.used.map (fun x => x.2.quantity)).sum

/-- Line `k` replaced. -/
def Order.setLine (o : Order) (k : Fin 16) (l : Option Line) : Order := { o with lines := put o.lines k l }

/-- The order is EDITING or QUOTED. -/
def Order.editable (o : Order) : Bool := o.state = .editing ∨ o.state = .quoted

def Counters.zero : Counters := { queued := 0, inFlight := 0, retryPending := 0, delivered := 0, finalFailed := 0 }

/-- A line's copies are all final (R97). -/
def Line.final (l : Line) : Bool := l.copies.queued = 0 ∧ l.copies.inFlight = 0 ∧ l.copies.retryPending = 0

/-- The raster state of a line of the order a handle names, set (R75). -/
def State.setLineRaster (s : State) (h : OrderHandle) (k : Fin 16) (r : RasterState) : State :=
  match s.order? h with
  | none => s
  | some o =>
    match o.lines.get k with
    | none => s
    | some l => s.setOrder h.record (o.setLine k (some { l with raster := r }))

/-- The raster state an uncommitted line takes when its raster is freed: NONE while its image handle is current, ORPHANED when
it is not (R75). -/
def State.afterFreeing (s : State) (image : CatHandle) : RasterState :=
  if (s.catalogue.entry? image).isSome then .none else .orphaned

/-! ### Pricing (R83, R84) -/

/-- Parts of a price table by the setting numbers of A2 (11.2). -/
def PriceTable.threshold (t : PriceTable) (z : Size) (k : Fin 4) : Nat :=
  t.get ⟨4 * z.code + k.val, by cases z <;> simp [Size.code] <;> omega⟩
def PriceTable.price (t : PriceTable) (z : Size) (k : Fin 4) : Nat :=
  t.get ⟨16 + 4 * z.code + k.val, by cases z <;> simp [Size.code] <;> omega⟩
def PriceTable.surcharge (t : PriceTable) (f : Finish) : Nat :=
  t.get ⟨32 + f.code, by cases f <;> simp [Finish.code]⟩
def PriceTable.rate (t : PriceTable) : Nat := t.get 35
def PriceTable.limit (t : PriceTable) : Nat := t.get 36

/-- The quantity of a size in the whole order (R83 stage 1). -/
def Order.quantityOf (o : Order) (z : Size) : Nat :=
  ((o.used.filter (fun x => x.2.size = z)).map (fun x => x.2.quantity)).sum

/-- A tier is used: tier 0 always, the others where their threshold is not 0 (5.5). -/
def PriceTable.usesTier (t : PriceTable) (z : Size) (k : Fin 4) : Bool := k = 0 ∨ t.threshold z k ≠ 0

/-- The highest used tier whose threshold is at most `q`; tier 0 where none is (R83 stage 2). -/
def PriceTable.tier (t : PriceTable) (z : Size) (q : Nat) : Fin 4 :=
  (([3, 2, 1] : List (Fin 4)).find? (fun k => t.usesTier z k && decide (t.threshold z k ≤ q))).getD 0

/-- The price of a line (R83 stage 3). -/
def PriceTable.priceLine (t : PriceTable) (o : Order) (l : Line) : LinePrice :=
  let k := t.tier l.size (o.quantityOf l.size)
  let u := t.price l.size k
  let f := t.surcharge l.finish
  { tier := k, base := u, surcharge := f, unit := u + f, amount := l.quantity * (u + f) }

/-- The tax on a sum (R84 stage 5, R94). -/
def taxOn (sum rate : Nat) : Nat := (sum * rate + 5000) / 10000

/-- The quote of an order under a table and its revision (R83, R84). -/
def PriceTable.quote (t : PriceTable) (revision : BitVec 16) (o : Order) : Quote :=
  let prices := o.lines.map (fun l => l.map (t.priceLine o))
  let subtotal := (o.used.map (fun x => (t.priceLine o x.2).amount)).sum
  let tax := taxOn subtotal t.rate
  { lines := prices, subtotal := subtotal, rate := t.rate, tax := tax, total := subtotal + tax, revision := revision }

/-- The published table is valid and its revision is the quote's (R81, R85). -/
def State.quoteFresh (s : State) (q : Quote) : Bool := s.store.valid && decide (q.revision = s.store.revision)

/-! ### Notices (R98) -/

/-- The causes of an ORDER notice. -/
inductive OrderCause where
  | approved | declined | mismatch | timeout | terminalLost | lockout | cancelled | closed | finished
  deriving DecidableEq, Repr

def OrderCause.code : OrderCause → Nat
  | .approved => 0
  | .declined => 1
  | .mismatch => 2
  | .timeout => 3
  | .terminalLost => 4
  | .lockout => 5
  | .cancelled => 6
  | .closed => 7
  | .finished => 8

/-- FINISHED and CANCELLED in a notice: the places after the four states of an order in use. -/
def finishedCode : Nat := 4
def cancelledCode : Nat := 5

/-- The ORDER notice; `amounts` follow at FINISHED. -/
def State.orderNotice (s : State) (h : OrderHandle) (session : SessionHandle) (state : Nat) (cause : OrderCause)
    (amounts : List Byte) : State :=
  s.notify 0xC4 (h.bytes ++ session.bytes ++ le1 state ++ le1 cause.code ++ amounts)

/-! ### The end of an order before its commit (R89) -/

/-- A session's uncommitted order field cleared (R24), its order `o` being freed; a session in CLOSING keeps its handle for the check of
requests behind the close (R23, R72, log 39). -/
def State.clearUncommitted (s : State) (h : SessionHandle) (o : OrderHandle) : State :=
  if s.current h then
    let x := s.record h.record
    s.setRecord h.record { x with uncommitted := none, closedOrder := if x.state = .closing then some o else x.closedOrder }
  else s

/-- An uncommitted order cancelled: its rasters are freed in line index order (log 41), its references fall, its session's field is
cleared and its record is freed, keeping its generation (R74, R89). -/
def State.cancelOrder (s : State) (h : OrderHandle) (o : Order) : State :=
  let s1 := s.each o.used (fun t x => t.freeRaster h x.1)
  let s2 := s1.each o.used (fun t x => t.refFalls x.2.image)
  (s2.clearUncommitted o.session h).setOrderRecord h.record { gen := h.gen, body := none }

/-! ### The terminal's queue (R119 to R121) -/

/-- The terminal handed to the oldest waiting authorisation, where the port is IDLE (R119). -/
def State.handTerminal (s : State) : State :=
  let t := s.money.terminal
  match t.state, t.waiting with
  | .idle, a :: rest =>
    (s.setTerminal { t with state := .busy a s.now, waiting := rest }).send (.auth a.ref a.amount)
  | _, _ => s

/-- The port moves to IDLE, and the next waiting authorisation is handed out. -/
def State.terminalIdle (s : State) : State :=
  (s.setTerminal { s.money.terminal with state := .idle }).handTerminal

/-- An authorisation ends without approval, at its order and its session (R88, R90, R27): paid_credit returns to credit; the
order goes back to QUOTED, or is cancelled where its cancel flag is set; the idle timer restarts; a CLOSING session is
tested. -/
def State.endUnapproved (s : State) (a : Auth) (cause : OrderCause) : State :=
  match s.order? a.order with
  | none => s
  | some o =>
    let s1 := (s.addCredit o.session.record o.paidCredit).touchHandle o.session
    let s2 :=
      if o.cancel then
        (s1.cancelOrder a.order o).orderNotice a.order o.session cancelledCode .cancelled []
      else
        (s1.setOrder a.order.record { o with state := .quoted, paidCredit := 0, termRef := none }).orderNotice
          a.order o.session OrderState.quoted.code cause []
    s2.closingExitOf (some o.session)

/-- A cancel was asked for the authorisation's order. -/
def State.cancelAsked (s : State) (a : Auth) : Bool := (s.order? a.order).any (fun o => o.cancel)

/-- An authorisation that ends without approval at the port becomes the last ended one (R120). -/
def State.setLastEnded (s : State) (a : Auth) : State :=
  s.setTerminal { s.money.terminal with
    lastEnded := some { ref := a.ref, session := some a.session, order := some a.order } }

/-- The detail of S1 and S2: the order handle and the terminal reference (R161). -/
def Auth.detail (a : Auth) : List Byte := a.order.bytes ++ le2 a.ref.toNat

/-- An authorisation ends without approval with a condition (S1 or S2), which is not raised where its cancel was asked
(R121). -/
def State.endWithCondition (s : State) (a : Auth) (cause : OrderCause) (i : Fin 8) : State :=
  let s1 := s.endUnapproved a cause
  if s.cancelAsked a then s1 else s1.raiseSession a.session i a.detail

/-- The cancel of an order's authorisation, by where it stands (R121): waiting, it leaves the queue and ends at once; in BUSY,
CANCEL is sent and the port goes to CANCELLING; already ended, nothing is done. -/
def State.cancelAuth (s : State) (h : OrderHandle) : State :=
  let t := s.money.terminal
  match t.waiting.find? (fun a => a.order = h) with
  | some a =>
    (s.setTerminal { t with waiting := t.waiting.filter (fun x => x.order ≠ h) }).endUnapproved a .cancelled
  | none =>
    match t.state with
    | .busy a _ =>
      if a.order = h then
        (s.setTerminal { t with state := .cancelling a.ref (some a) s.now }).send (.cancelAuth a.ref)
      else s
    | _ => s

/-! ### Copies and refunds (R92 to R97) -/

/-- A refund of `base` on an order (R94 to R96): the order's new amounts, the increment, its credit part and its card part. -/
def Order.refund (o : Order) (base : Nat) : Order × Nat × Nat × Nat :=
  let newBase := o.refundedBase + base
  let rate := (o.quote.map (fun q => q.rate)).getD 0
  let tax := (o.quote.map (fun q => q.tax)).getD 0
  let newTax := min tax (taxOn newBase rate)
  let inc := (newBase - o.refundedBase) + (newTax - o.refundedTax)
  let toCredit := min inc (o.paidCredit - o.creditRefunded)
  ({ o with
      refundedBase := newBase, refundedTax := newTax, refunded := o.refunded + inc
      creditRefunded := o.creditRefunded + toCredit },
    inc, toCredit, inc - toCredit)

/-- The three amounts of a refund in a COPY notice. -/
def refundBytes (inc toCredit toCard : Nat) : List Byte := le4 inc ++ le4 toCredit ++ le4 toCard

/-- Copies of a summed unit price refunded (R95, R96): the order's amounts move, the credit part joins the session's credit,
the rest becomes one card refund record. Answers the bytes of the amounts. -/
def State.refundCopies (s : State) (h : OrderHandle) (o : Order) (base : Nat) : State × List Byte :=
  let (o', inc, toCredit, toCard) := o.refund base
  let s1 := s.setOrder h.record o'
  let s2 := s1.addCredit o.session.record toCredit
  let s3 :=
    if 0 < toCard then
      s2.makeRefund { session := some o.session, order := some h, ref := o.termRef.getD 0, amount := toCard,
                      cause := .refund }
    else s2
  (s3, refundBytes inc toCredit toCard)

/-- The unit of line `k` from the order's quote. -/
def Order.unitOf (o : Order) (k : Fin 16) : Nat :=
  ((o.quote.bind (fun q => q.lines.get k)).map (fun p => p.unit)).getD 0

/-- The COPY notice (11.6). The attempt, port and reason bytes are given by the caller. -/
def State.copyNotice (s : State) (h : OrderHandle) (session : SessionHandle) (k : Fin 16) (attempt outcome port reason : Nat)
    (c : Counters) (amounts : List Byte) : State :=
  s.notify 0xC5 (h.bytes ++ session.bytes ++ le1 k.val ++ le1 attempt ++ le1 outcome ++ le1 port ++ le1 reason ++
    le1 c.queued ++ le1 c.inFlight ++ le1 c.retryPending ++ le1 c.delivered ++ le1 c.finalFailed ++ amounts)

/-- An order finishes (R97): earned joins the till, the ORDER notice goes out, the order leaves its session's list, the record
is freed. -/
def State.finishOrder (s : State) (h : OrderHandle) (o : Order) : State :=
  let earned := o.collected - o.refunded
  let s1 := (s.tillEarned earned).orderNotice h o.session finishedCode .finished
    (le4 o.collected ++ le4 o.refunded ++ le4 earned)
  (s1.orderLeft o.session h earned o.refunded).setOrderRecord h.record { gen := h.gen, body := none }

/-- A line whose copies have come to be all final: its task leaves the print queue, its raster is freed, its raster state
becomes NONE (R97, R141). R141's last sentence keeps a task while its order has a copy in flight; that the line's own counts decide,
also while another line of a cancelled order is in flight, is the model's choice (log 46). -/
def State.finishLine (s : State) (h : OrderHandle) (k : Fin 16) : State :=
  let s1 := s.setPrints { s.prints with queue := s.prints.queue.filter (fun t => !(t.order = h ∧ t.line = k)) }
  (s1.freeRaster h k).setLineRaster h k .none

/-- What follows a move of copies of the given lines: each that is all final is finished, and the order with its last line
(R97). -/
def State.settleLines (s : State) (h : OrderHandle) (ks : List (Fin 16)) : State :=
  let s1 := s.each ks (fun t k =>
    match (t.order? h).bind (fun o => o.lines.get k) with
    | some l => if l.final then t.finishLine h k else t
    | none => t)
  match s1.order? h with
  | some o => if o.used.all (fun x => x.2.final) then s1.finishOrder h o else s1
  | none => s1

end Sys2Proof.Machine
end

