-- ==== Sys2Proof/Machine/ConditionOps.lean ====
section
/-! DEFINITION. The lockout (R167), the raises and reports that may lock out, the challenge's third error (R117), the wake causes
(R184). -/

namespace Sys2Proof.Machine

/-- The lockout (R167): the service state becomes OUT_OF_SERVICE; every ACTIVE session is suspended; every open gate closes;
every authorisation still waiting ends without approval, with no condition. -/
def State.lockout (s : State) : State :=
  let s1 := s.setConds { s.conds with inService := false }
  let s2 := s1.each (allFin 8) (fun t r => t.suspendFor r .lockout .lockout)
  let s3 := s2.closeGates .lockout
  let waiting := s3.money.terminal.waiting
  let s4 := s3.setTerminal { s3.money.terminal with waiting := [] }
  s4.each waiting (fun t a => t.endUnapproved a .lockout)

/-- A raise of a kiosk event bit. -/
def State.raiseKiosk (s : State) (i : Fin 16) (detail : List Byte) : State :=
  State.raiseKioskWith State.lockout s i detail

/-- A level report of a kiosk bit. -/
def State.reportLevel (s : State) (i : Fin 16) (present : Bool) : State :=
  State.reportLevelWith State.lockout s i present

/-- Every set bit resolved (R165). -/
def State.resolveSets (s : State) (t : Trigger) : State := State.resolveAll State.lockout State.suspend t s

/-- An error of the challenge (R117): the count rises; at 3 every gate closes and CHALLENGE_FAIL is raised. -/
def State.challengeError (s : State) : State :=
  let c := s.money.challenge
  let s1 := s.setChallenge { c with errors := min 3 (c.errors + 1) }
  if c.errors = 2 then (s1.closeGates .challengeFail).raiseKiosk 12 [] else s1

/-- The level causes of the cash boxes (R115). CASHBOX_FULL_0 and _1 are K3 and K4. -/
def State.evalBox (s : State) (u : Fin 2) : State :=
  s.reportLevelQuiet (if u = 0 then 3 else 4) (s.boxFull u)

/-- A wake cause reported (R184): in STANDBY, with its enable set and not yet latched, it is latched and a WAKE notice goes
out. -/
def State.wakeCause (s : State) (c : WakeCause) : State :=
  if s.power.standby ∧ s.wakeEnables.getLsbD c.bit.val ∧ s.power.latches.getLsbD c.bit.val = false then
    (s.setPower { s.power with latches := setBit s.power.latches c.bit }).notify 0xCD (le1 c.bit.val)
  else s

/-- One reading of a sampled input (R162): the input afterwards, and whether the reading confirmed a change. -/
def Input.reading (x : Input) (level : Bool) : Input × Bool :=
  if level = x.confirmed then ({ x with run := 0 }, false)
  else if x.run + 1 < Config.inputRun then ({ x with run := x.run + 1 }, false)
  else ({ confirmed := level, run := 0 }, true)

end Sys2Proof.Machine
end

