-- ==== Sys2Proof/Machine/PrintOps.lean ====
section
/-! DEFINITION. The Print Dispatcher's operations (08): takes and hand-outs, the outcome of an attempt with the Order Unit's
accounting of the copy (5.9), the level conditions, and the commit of an order (R87), which puts its tasks in the queue. -/

namespace Sys2Proof.Machine

/-! ### Views of a task (8.1, log 17) -/

/-- The order and line a task stands for. -/
def State.taskLine (s : State) (t : Task) : Option (Order × Line) :=
  (s.order? t.order).bind (fun o => (o.lines.get t.line).map (fun l => (o, l)))

/-- The states in which a port is able (8.2). -/
def PortState.able : PortState → Bool
  | .ready => true
  | .feeding => true
  | .printing => true
  | .cooling => true
  | _ => false

/-- A port is able for a size (R156). -/
def Port.ableFor (p : Port) (z : Size) : Bool := p.state.able && p.kind.any (fun k => supports k z)

/-- A task is eligible for a port (R148). -/
def State.eligible (s : State) (p : Fin 3) (t : Task) : Bool :=
  match s.taskLine t with
  | none => false
  | some (o, l) =>
    !o.cancel && decide (0 < l.copies.queued + l.copies.retryPending) &&
      (s.port p).kind.any (fun k => supports k l.size) && decide (l.size.need ≤ (s.port p).units)

/-! ### The level conditions (R156) -/

def PortState.faulty : PortState → Bool
  | .fault => true
  | .offline => true
  | _ => false

/-- MEDIA_LOW's cause. -/
def State.mediaLow (s : State) : Bool :=
  (allFin 3).any (fun p => decide ((s.port p).state ≠ .absent) && decide ((s.port p).units < s.mediaLowMark))

/-- PRINT_STALL's cause: the queue is not empty, and no task in it has an able port. -/
def State.printStall (s : State) : Bool :=
  !s.prints.queue.isEmpty &&
  s.prints.queue.all (fun t =>
    match s.taskLine t with
    | some (_, l) => (allFin 3).all (fun p => !(s.port p).ableFor l.size)
    | none => true)

/-- PRINTER_FAULT_0 to _2, MEDIA_LOW and PRINT_STALL evaluated, in that order, at the end of an event of the Print Dispatcher
(log 19). -/
def State.evalPrints (s : State) : State :=
  let s1 := s.reportLevelQuiet 8 (s.port 0).state.faulty
  let s2 := s1.reportLevelQuiet 9 (s1.port 1).state.faulty
  let s3 := s2.reportLevelQuiet 10 (s2.port 2).state.faulty
  let s4 := s3.reportLevelQuiet 11 s3.mediaLow
  s4.reportLevel 15 s4.printStall

/-! ### Hand-out (R148, R149) -/

/-- A copy of a task's line handed out: from retry pending where there is one, else from queued. -/
def Counters.handOut (c : Counters) : Counters :=
  if 0 < c.retryPending then { c with retryPending := c.retryPending - 1, inFlight := c.inFlight + 1 }
  else { c with queued := c.queued - 1, inFlight := c.inFlight + 1 }

/-- The hand-out of a copy of a task to a port (R149). -/
def State.handOut (s : State) (p : Fin 3) (t : Task) (o : Order) (l : Line) : State :=
  let id := s.prints.copyId
  let s1 := s.setPrints { s.prints with copyId := nextFromOne id }
  let s2 := s1.setOrder t.order.record (o.setLine t.line (some { l with copies := l.copies.handOut }))
  let a : Attempt :=
    { copyId := id, order := t.order, line := t.line, second := decide (0 < l.copies.retryPending), need := l.size.need }
  let s3 := s2.setPort p { s2.port p with
    state := .feeding, units := (s2.port p).units - l.size.need, attempt := some a, limitSince := s.now }
  (s3.send (.job p id l.size l.finish)).startReader p t.order t.line

/-- A take by a port (R148): a READY port with its hold flag clear is given a copy of the first eligible task. -/
def State.portTake (s : State) (p : Fin 3) : State :=
  if (s.port p).state = .ready ∧ (s.port p).hold = false then
    match s.prints.queue.find? (s.eligible p) with
    | none => s
    | some t =>
      match s.taskLine t with
      | some (o, l) => s.handOut p t o l
      | none => s
  else s

/-- A take by every READY port, P0 first (log 18). -/
def State.takeAll (s : State) : State := ((s.portTake 0).portTake 1).portTake 2

/-- A port that entered READY, or whose media changed in READY, takes; where that hands out a copy, the other READY ports take again (R148). -/
def State.takeOnEntry (s : State) (p : Fin 3) : State :=
  let s1 := s.portTake p
  if (s.port p).state = .ready ∧ (s1.port p).state ≠ .ready then s1.takeAll else s1

/-! ### Notices (R157, 11.3) -/

/-- The causes of a PRINTER notice. -/
inductive PrinterCause where
  | reason (r : Reason)
  | status | done | silence | errors | recovered | mediaLoaded | hold | release | reset
  deriving DecidableEq, Repr

def PrinterCause.code : PrinterCause → Nat
  | .reason r => r.code
  | .status => 8
  | .done => 9
  | .silence => 10
  | .errors => 11
  | .recovered => 12
  | .mediaLoaded => 13
  | .hold => 14
  | .release => 15
  | .reset => 16

/-- The PRINTER notice for a port as it stands. -/
def State.printerNotice (s : State) (p : Fin 3) (cause : PrinterCause) : State :=
  let x := s.port p
  s.notify 0xCB (le1 p.val ++ le1 x.state.code ++ noticeField Reason.code x.fault ++
    noticeField kindCode x.kind ++ le2 x.units ++ le1 x.errors ++ flagByte x.hold ++ le1 cause.code)

/-- A port's change of state with its notice. -/
def State.movePort (s : State) (p : Fin 3) (state : PortState) (fault : Option Reason) (cause : PrinterCause) : State :=
  (s.setPort p { s.port p with state := state, fault := fault }).printerNotice p cause

/-- READY, or HELD where the hold flag is set (8.2). -/
def Port.readyOrHeld (x : Port) : PortState := if x.hold then .held else .ready

/-! ### Outcomes (R92, R151, R152) -/

/-- The counters of a line whose attempt failed: retry pending, or final-failed. -/
def Counters.failed (c : Counters) (retry : Bool) : Counters :=
  if retry then { c with inFlight := c.inFlight - 1, retryPending := c.retryPending + 1 }
  else { c with inFlight := c.inFlight - 1, finalFailed := c.finalFailed + 1 }

def attemptCode (second : Bool) : Nat := if second then 2 else 1

/-- The Order Unit's part of a delivered copy (R92, R97), whose COPY notice has no reason (11.3, log 10). Discarded where the order is
gone or the line has no copy in flight. -/
def State.copyDelivered (s : State) (p : Fin 3) (a : Attempt) : State :=
  match s.taskLine { order := a.order, line := a.line } with
  | none => s
  | some (o, l) =>
    if l.copies.inFlight = 0 then s
    else
      let c := { l.copies with inFlight := l.copies.inFlight - 1, delivered := l.copies.delivered + 1 }
      let s1 := s.setOrder a.order.record (o.setLine a.line (some { l with copies := c }))
      (s1.copyNotice a.order o.session a.line (attemptCode a.second) 0 p.val 0xFF c (refundBytes 0 0 0)).settleLines
        a.order [a.line]

/-- The Order Unit's part of a failed attempt (R92 to R97): retry pending, or final-failed with its refund and PRINT_FAILED. -/
def State.copyFailed (s : State) (p : Fin 3) (a : Attempt) (reason : Reason) : State :=
  match s.taskLine { order := a.order, line := a.line } with
  | none => s
  | some (o, l) =>
    if l.copies.inFlight = 0 then s
    else
      let retry := !a.second && !o.cancel
      let c := l.copies.failed retry
      let o1 := o.setLine a.line (some { l with copies := c })
      if retry then
        (s.setOrder a.order.record o1).copyNotice a.order o.session a.line (attemptCode a.second) 1 p.val reason.code c
          (refundBytes 0 0 0)
      else
        let (s1, amounts) := s.refundCopies a.order o1 (o.unitOf a.line)
        let s2 := s1.copyNotice a.order o.session a.line (attemptCode a.second) 2 p.val reason.code c amounts
        let s3 := s2.raiseSession o.session 3 (a.order.bytes ++ le1 a.line.val ++ le1 p.val ++ le1 reason.code)
        s3.settleLines a.order [a.line]

/-- An attempt fails (R152), but for the port's own state: the reader stops, CANCEL goes out on LINK_LOST and TIMEOUT and in
FEEDING, and the copy moves. -/
def State.failAttempt (s : State) (p : Fin 3) (a : Attempt) (feeding : Bool) (reason : Reason) : State :=
  let s1 := (s.setPort p { s.port p with attempt := none }).stopReader p
  let s2 :=
    if feeding ∨ reason = .linkLost ∨ reason = .timeout then s1.send (.cancelCopy p a.copyId) else s1
  s2.copyFailed p a reason

/-- The state a port goes to after a failed attempt (R153). -/
def Reason.after : Reason → PortState
  | .dataError => .cooling
  | .timeout => .cooling
  | .linkLost => .offline
  | _ => .fault

/-- An attempt in FEEDING or PRINTING fails for a reason other than LINK_LOST: the copy moves, then the port (R153), then every
READY port takes, and the conditions are evaluated. -/
def State.attemptFails (s : State) (p : Fin 3) (reason : Reason) : State :=
  match (s.port p).attempt with
  | none => s
  | some a =>
    let s1 := s.failAttempt p a (decide ((s.port p).state = PortState.feeding)) reason
    let s2 := if reason = .mediaOut then s1.setPort p { s1.port p with units := 0 } else s1
    let s3 := s2.movePort p reason.after (if reason.after = .fault then some reason else none) (.reason reason)
    s3.takeAll.evalPrints

/-- A port goes OFFLINE (R146), from every state but ABSENT and OFFLINE; its attempt fails with LINK_LOST. -/
def State.goOffline (s : State) (p : Fin 3) (cause : PrinterCause) : State :=
  let x := s.port p
  if x.state = .absent ∨ x.state = .offline then s
  else
    let s1 := (s.setPort p { x with run := 0 }).movePort p .offline none cause
    let s2 := match x.attempt with
      | some a => s1.failAttempt p a (decide (x.state = PortState.feeding)) .linkLost
      | none => s1
    s2.takeAll.evalPrints

/-! ### The commit (R87) -/

/-- An order's record at the commit, paid by `card` from the terminal. -/
def Order.committed (o : Order) (card : Nat) : Order :=
  { o with
    state := .committed
    collected := (o.quote.map (fun q => q.total)).getD 0
    paidCard := card
    termRef := if 0 < card then o.termRef else none
    refundedBase := 0, refundedTax := 0, refunded := 0, creditRefunded := 0
    cancel := false
    lines := o.lines.map (fun l => l.map (fun x => { x with copies := { Counters.zero with queued := x.quantity } })) }

/-- An order commits (R87): its record, the falls of its references, its rasters off the share, its session's fields, its tasks
at the tail of the queue. -/
def State.commitOrder (s : State) (h : OrderHandle) (o : Order) (card : Nat) : State :=
  let s1 := s.setOrder h.record (o.committed card)
  let s2 := s1.each o.used (fun t x => t.refFalls x.2.image)
  let s3 := s2.unchargeOrder h
  let s4 :=
    if s3.current o.session then
      let x := s3.record o.session.record
      s3.setRecord o.session.record { x with uncommitted := none, committed := x.committed ++ [h] }
    else s3
  s4.setPrints { s4.prints with queue := s4.prints.queue ++ o.used.map (fun x => { order := h, line := x.1 }) }

/-- What follows the joining of tasks: the READY ports take and the conditions are evaluated (R148, R156). -/
def State.tasksJoined (s : State) : State := s.takeAll.evalPrints

end Sys2Proof.Machine
end

