-- ==== Sys2Proof/Machine/SlotOps.lean ====
section
/-! DEFINITION. The Slot Controller's operations (03): readings of presence, the card bus and its arbiter, mounting, binding,
removal, the scan, the media error counter, the close of a slot. -/

namespace Sys2Proof.Machine

/-! ### Notices (R52, R55) -/

/-- The causes of a SLOT notice, in the order of R55. -/
inductive SlotCause where
  | inserted | identified | unreadable | bound | scanEnd | mediaErrors | closed | removed | degraded | gradeLimit
  deriving DecidableEq, Repr

def SlotCause.code : SlotCause → Nat
  | .inserted => 0
  | .identified => 1
  | .unreadable => 2
  | .bound => 3
  | .scanEnd => 4
  | .mediaErrors => 5
  | .closed => 6
  | .removed => 7
  | .degraded => 8
  | .gradeLimit => 9

/-- The SLOT notice for a slot as it stands. -/
def State.slotNotice (s : State) (n : Fin 4) (cause : SlotCause) : State :=
  let x := s.slot n
  s.notify 0xC2 (le1 n.val ++ le1 x.state.code ++ sessionBytes x.bound ++ noticeField gradeCode x.grade ++
    noticeField SlotFault.code x.faultCause ++ le1 cause.code)

/-- The outcomes of a SCAN notice (R52): the five ends, and PROGRESS. -/
inductive ScanOutcome where
  | complete | truncated | fault | removed | closed | progress
  deriving DecidableEq, Repr

def ScanOutcome.code : ScanOutcome → Nat
  | .complete => 0
  | .truncated => 1
  | .fault => 2
  | .removed => 3
  | .closed => 4
  | .progress => 5

def Scan.start : Scan :=
  { next := 0, admitted := 0, skippedKind := 0, skippedSize := 0, skippedRoom := 0, truncated := false }

def Scan.bytes (x : Scan) : List Byte :=
  le4 x.next ++ le4 x.admitted ++ le4 x.skippedKind ++ le4 x.skippedSize ++ le4 x.skippedRoom ++ flagByte x.truncated

/-- The SCAN notice for a slot's scan record as it stands. -/
def State.scanNotice (s : State) (n : Fin 4) (outcome : ScanOutcome) : State :=
  let x := s.slot n
  s.notify 0xC3 (le1 n.val ++ sessionBytes x.bound ++ (x.scan.getD Scan.start).bytes ++ le1 outcome.code)

/-! ### The card bus (R39, R49) -/

/-- A command put on a slot's bus, under the next exchange number. -/
def State.issue (s : State) (n : Fin 4) (c : CardCommand) : State :=
  let k := (s.slot n).exchange + 1
  (s.setSlot n { s.slot n with inFlight := some c, exchange := k, issuedAt := s.now }).send (.card n k c)

/-- An exchange is that of the command in flight on its bus, a `c`. The answer to any other, an abandoned one, is ignored (R43, R44,
R56, log 13). -/
def State.awaits (s : State) (x : Exchange) (c : CardCommand) : Bool :=
  (s.slot x.slot).inFlight = some c && (s.slot x.slot).exchange = x.number

/-- The probe interval of the power state (R39). -/
def State.probeIntervalNow (s : State) : Nat := if s.power.standby then Config.probeStandby else Config.probeActive

/-- A command's outcome: the bus is free and the probe interval restarts. -/
def State.busOutcome (s : State) (n : Fin 4) : State :=
  s.setSlot n { s.slot n with inFlight := none, lastOutcome := s.now, probeInterval := s.probeIntervalNow }

/-- What the arbiter does with a free bus and no unit being served (R49): in MOUNTING the identification, in SCANNING the
oldest read or else the next scan step, in READY the oldest read. -/
def State.serveNext (s : State) (n : Fin 4) : State :=
  let x := s.slot n
  if x.inFlight.isSome ∨ x.serving.isSome then s
  else
    match x.state with
    | .mounting => s.issue n .identification
    | .scanning =>
      let unit : Serving := if x.reads = [] then .step .directory else .read []
      (s.setSlot n { x with serving := some unit }).issue n .blockRead
    | .ready => if x.reads = [] then s else (s.setSlot n { x with serving := some (.read []) }).issue n .blockRead
    | _ => s

/-- The states whose bus carries probes (R49). -/
def SlotState.probing : SlotState → Bool
  | .empty => true
  | .settling => true
  | .mounted => true
  | .left => true
  | .fault => true
  | _ => false

/-! ### Binding (R22, R42, R50) -/

/-- The front session of a slot's station where it is ACTIVE or SUSPENDED. -/
def State.takingFront (s : State) (n : Fin 4) : Option SessionHandle :=
  (s.front (s.power.profile.stationOfSlot n)).filter (fun h =>
    let st := (s.record h.record).state
    decide (st = .active ∨ st = .suspended))

/-- A slot bound to a session goes to SCANNING and its scan starts. A file of the slot that an ended scan handed on and the
Catalogue has not taken can make no entry any more (R61 step 1, log 15). -/
def State.bindSlot (s : State) (n : Fin 4) (h : SessionHandle) (cause : SlotCause) : State :=
  let s1 := s.setSlot n { s.slot n with
    state := .scanning, bound := some h, insertionOwner := none, scan := some Scan.start, serving := none }
  let s2 := s1.setCatalogue { s1.catalogue with handOffs := s1.catalogue.handOffs.filter (fun f => f.slot ≠ n) }
  (s2.slotNotice n cause).serveNext n

/-! ### Confirmed changes of presence (R40, R43, R44) -/

/-- A confirmed insertion (R40): MOUNTING with its insertion owner, the identification started, the wake cause CARD. -/
def State.insertionConfirmed (s : State) (n : Fin 4) : State :=
  let s1 := s.setSlot n { s.slot n with
    state := .mounting, present := true, run := 0, insertionOwner := s.takingFront n, mountedAt := s.now }
  ((s1.slotNotice n .inserted).serveNext n).wakeCause .card

/-- What an emptied slot holds. -/
def Slot.emptied (x : Slot) : Slot :=
  { x with
    state := .empty, faultCause := none, present := false, run := 0, insertionOwner := none, bound := none
    identity := none, grade := none, errors := 0, reads := [], scan := none, serving := none, inFlight := none }

/-- A confirmed removal (R43, R44 steps 1 to 3): the reads are answered MEDIA_GONE, a scan in progress ends REMOVED, the slot
goes to EMPTY; from a bound slot the removal goes on to the Catalogue (step 4). -/
def State.removalConfirmed (s : State) (n : Fin 4) : State :=
  let x := s.slot n
  let s1 := s.each x.reads (fun t r => t.refuse r.tag .mediaGone)
  let s2 := if x.state = .scanning then s1.scanNotice n .removed else s1
  let s3 := (s2.setSlot n (s2.slot n).emptied).slotNotice n .removed
  match x.bound with
  | some h => s3.setCatalogue { s3.catalogue with
      removals := s3.catalogue.removals ++ [{ owner := h, slot := n }] }
  | none => s3

/-- One reading of a slot's presence, with the run that confirms a change (R38, R39). -/
def State.slotReading (s : State) (n : Fin 4) (level : Bool) (limit : Nat) : State :=
  let x := s.slot n
  if level = x.present then
    s.setSlot n { x with run := 0, state := if x.state = .settling then .empty else x.state }
  else if x.run + 1 < limit then
    s.setSlot n { x with run := x.run + 1, state := if x.state = .empty then .settling else x.state }
  else if level then s.insertionConfirmed n
  else s.removalConfirmed n

/-- A reading given by a card command, which counts in CYCLIC mode only (R38, R39). -/
def State.busReading (s : State) (n : Fin 4) (level : Bool) : State :=
  if s.cyclic n then s.slotReading n level Config.cyclicRun else s

/-! ### Identification (R41, R42) -/

/-- The lower of two grades. -/
def minGrade (a b : Grade) : Grade := if gradeCode a ≤ gradeCode b then a else b

/-- The grade one slower. -/
def lowerGrade : Grade → Grade
  | .g3 => .g2
  | .g2 => .g1
  | _ => .g0

/-- A failed identification. -/
def State.unreadable (s : State) (n : Fin 4) : State :=
  (s.setSlot n { s.slot n with
    state := .fault, faultCause := some .unreadable, insertionOwner := none, inFlight := none }).slotNotice n .unreadable

/-- A successful identification: the card's identity and grade, then the first case of R42 that applies. -/
def State.identified (s : State) (n : Fin 4) (capability : Grade) (capacity : Nat) : State :=
  let x := s.slot n
  let x1 := { x with
    identity := some { capability := capability, capacity := capacity }
    grade := some (minGrade capability (s.maxGrade n)), errors := 0, insertionOwner := none }
  let gone := x.insertionOwner.any (fun h =>
    !(s.current h && decide ((s.record h.record).state = .active ∨ (s.record h.record).state = .suspended)))
  if gone then (s.setSlot n { x1 with state := .left }).slotNotice n .identified
  else
    match s.takingFront n with
    | some h => (s.setSlot n x1).bindSlot n h .identified
    | none => (s.setSlot n { x1 with state := .mounted }).slotNotice n .identified

/-! ### The scan (R50 to R52) -/

/-- A scan ends with the walk complete or truncated: the slot goes to READY, CATALOGUE_FULL is raised where a file was skipped
for room, and the bus goes on with the reads. -/
def State.endScan (s : State) (n : Fin 4) (outcome : ScanOutcome) : State :=
  let x := s.slot n
  let s1 := (s.setSlot n { x with state := .ready, serving := none }).scanNotice n outcome
  let s2 := s1.slotNotice n .scanEnd
  let full := x.scan.any (fun k => decide (0 < k.skippedRoom))
  let s3 := match x.bound with
    | some h => if full then s2.raiseSession h 4 (le1 n.val) else s2
    | none => s2
  s3.serveNext n

/-- A scan step finishes (R50 step 3): the next ordinal rises; the scan ends COMPLETE where the walk has no further file,
TRUNCATED past ordinal 65535, else the arbiter goes on. -/
def State.finishStep (s : State) (n : Fin 4) (more : Bool) : State :=
  let x := s.slot n
  let k := x.scan.getD Scan.start
  let k1 := { k with next := k.next + 1 }
  if !more then (s.setSlot n { x with scan := some k1 }).endScan n .complete
  else if k.next = 65535 then
    (s.setSlot n { x with scan := some { k1 with truncated := true } }).endScan n .truncated
  else (s.setSlot n { x with scan := some k1, serving := none }).serveNext n

/-- The counts of the scan record changed. -/
def State.countScan (s : State) (n : Fin 4) (f : Scan → Scan) : State :=
  s.setSlot n { s.slot n with scan := (s.slot n).scan.map f }

/-- The picture kind a file's first bytes give (3.7). -/
def kindOfFile (first : List Byte) : Option ImageKind :=
  if first.take 3 = [0xFF, 0xD8, 0xFF] then some .jpeg
  else if first.take 8 = [0x89, 0x50, 0x4E, 0x47, 0x0D, 0x0A, 0x1A, 0x0A] then some .png
  else none

def HeaderFields.none : HeaderFields :=
  { width := Option.none, height := Option.none, orientation := Option.none
    stamp := { year := Option.none, month := Option.none, day := Option.none, hour := Option.none,
               minute := Option.none, second := Option.none } }

/-- Header fields found so far, joined by those of a further block. -/
def mergeFields (a b : HeaderFields) : HeaderFields :=
  { width := a.width.or b.width, height := a.height.or b.height, orientation := a.orientation.or b.orientation
    stamp := { year := a.stamp.year.or b.stamp.year, month := a.stamp.month.or b.stamp.month
               day := a.stamp.day.or b.stamp.day, hour := a.stamp.hour.or b.stamp.hour
               minute := a.stamp.minute.or b.stamp.minute, second := a.stamp.second.or b.stamp.second } }

/-- The blocks from which a file's header is read: those of its first 64 KiB (R51). -/
def headerBlocks (f : FileRecord) : Nat :=
  (min Config.headerBytes f.size + Config.cardBlockBytes - 1) / Config.cardBlockBytes

/-- The next block read of the unit being served, in phase `unit`. -/
def State.nextBlock (s : State) (n : Fin 4) (unit : Serving) : State :=
  (s.setSlot n { s.slot n with serving := some unit }).issue n .blockRead

/-- The file at the next ordinal is known: the tests of R51, then the header. -/
def State.fileFound (s : State) (n : Fin 4) (f : FileRecord) : State :=
  match kindOfFile f.first with
  | none => (s.countScan n (fun k => { k with skippedKind := k.skippedKind + 1 })).finishStep n f.more
  | some _ =>
    if f.size < s.minImage ∨ s.maxImage < f.size then
      (s.countScan n (fun k => { k with skippedSize := k.skippedSize + 1 })).finishStep n f.more
    else s.nextBlock n (.step (.header f 0 HeaderFields.none))

/-- A file handed to the Catalogue with the header fields found (R51); the step waits for the answer. -/
def State.handOff (s : State) (n : Fin 4) (f : FileRecord) (found : HeaderFields) : State :=
  let x := s.slot n
  match x.bound, kindOfFile f.first with
  | some h, some kind =>
    let file : HandOff :=
      { owner := h, slot := n, ordinal := (x.scan.getD Scan.start).next, name := f.name.take 64, size := f.size,
        kind := kind, fields := found }
    (s.setSlot n { x with serving := some (.step (.handed f.more)) }).setCatalogue
      { s.catalogue with handOffs := s.catalogue.handOffs ++ [file] }
  | _, _ => s

/-! ### Reads (R54) -/

/-- The read at the head of the queue ends with a reply; the arbiter goes on once `after` is done. -/
def State.readEnds (s : State) (n : Fin 4) (payload : Read → Status × List Byte) (after : State → State) : State :=
  let x := s.slot n
  match x.reads with
  | [] => s
  | r :: rest =>
    let s1 := s.setSlot n { x with reads := rest, serving := none }
    (after (s1.replyWith r.tag (payload r).1 (payload r).2)).serveNext n

/-- The reply OK of a read: the catalogue handle, the offset, the count and the bytes. -/
def Read.okFields (r : Read) (bytes : List Byte) : List Byte :=
  r.image.bytes ++ le4 r.offset ++ le2 bytes.length ++ bytes

/-! ### The media error counter (R47, R48) -/

/-- The slot goes to FAULT with cause MEDIA_ERRORS (R48): a scan in progress ends FAULT, every read still queued is answered
MEDIA_FAULT, SLOT_FAULT (K14) is raised. -/
def State.mediaFault (s : State) (n : Fin 4) : State :=
  let x := s.slot n
  let s1 := if x.state = .scanning then s.scanNotice n .fault else s
  let full := x.scan.any (fun k => decide (0 < k.skippedRoom))
  let s2 := match x.bound with
    | some h => if x.state = SlotState.scanning ∧ full then s1.raiseSession h 4 (le1 n.val) else s1
    | none => s1
  let s3 := s2.each x.reads (fun t r => t.refuse r.tag .mediaFault)
  let s4 := s3.setSlot n { s3.slot n with
    state := .fault, faultCause := some .mediaErrors, reads := [], serving := none, inFlight := none }
  (s4.slotNotice n .mediaErrors).raiseKioskQuiet 14 (le1 n.val)

/-- A failed block read at the counter: it rises, or there is an overflow: a fall of the grade, or at G0 the slot's FAULT. -/
def State.blockFailed (s : State) (n : Fin 4) : State :=
  let x := s.slot n
  if x.errors + 1 ≤ s.mediaErrLimit then s.setSlot n { x with errors := x.errors + 1 }
  else if x.grade.getD .g0 = .g0 then s.mediaFault n
  else
    (s.setSlot n { x with errors := 0, grade := x.grade.map lowerGrade }).slotNotice n .degraded

/-- A good block read at the counter. -/
def State.blockGood (s : State) (n : Fin 4) : State :=
  s.setSlot n { s.slot n with errors := (s.slot n).errors - 1 }

/-- The unit being served goes on after a good block (R50, R51, R54). The header reading ends with the last block of the file's
first 64 KiB, finished or not. A content that does not belong to the unit brings it nothing (log 14). -/
def State.goodBlock (s : State) (n : Fin 4) (content : BlockContent) : State :=
  match (s.slot n).serving, content with
  | some (.read got), .data bytes =>
    let all := got ++ bytes.take Config.cardBlockBytes
    if ((s.slot n).reads.head?.any (fun r => decide (r.length ≤ all.length))) then
      s.readEnds n (fun r => (.ok, r.okFields (all.take r.length))) id
    else s.nextBlock n (.read all)
  | some (.step .directory), .file f => s.fileFound n f
  | some (.step .directory), .endOfWalk => s.endScan n .complete
  | some (.step (.header f blocks found)), .header fields finished =>
    let found := mergeFields found fields
    if finished ∨ headerBlocks f ≤ blocks + 1 then s.handOff n f found
    else s.nextBlock n (.step (.header f (blocks + 1) found))
  | some unit, _ => s.nextBlock n unit
  | none, _ => s

/-- The unit being served after a failed block (R47, R48, R50, R51, R54): a read ends MEDIA_ERROR; a directory read is made
again; a header read hands the file on with what was found. -/
def State.failedBlock (s : State) (n : Fin 4) : State :=
  match (s.slot n).serving with
  | some (.read _) => s.readEnds n (fun _ => (.mediaError, [])) (fun t => t.blockFailed n)
  | some (.step .directory) =>
    let s1 := s.blockFailed n
    if (s1.slot n).state = SlotState.scanning then s1.nextBlock n (.step .directory) else s1
  | some (.step (.header f _ found)) =>
    let s1 := s.blockFailed n
    if (s1.slot n).state = SlotState.scanning then s1.handOff n f found else s1
  | _ => s

/-! ### The close of a slot (R45) and the kiosk reset (R56) -/

/-- A probe in flight stays, any other command is abandoned (log 13). -/
def probeOnly (c : Option CardCommand) : Option CardCommand := c.filter (fun x => x = .probe)

/-- The bound session closed: the reads are answered STALE_HANDLE, a scan in progress ends CLOSED, the slot goes to LEFT. -/
def State.closeSlot (s : State) (n : Fin 4) : State :=
  let x := s.slot n
  let s1 := s.each x.reads (fun t r => t.refuse r.tag .staleHandle)
  let s2 := if x.state = .scanning then s1.scanNotice n .closed else s1
  let s3 := s2.setSlot n { s2.slot n with
    state := .left, faultCause := none, bound := none, reads := [], serving := none
    inFlight := probeOnly (s2.slot n).inFlight }
  s3.slotNotice n .closed

/-- A slot after a kiosk reset, but for the restart of its identification (R56). The record of a scan that had already ended goes with that
of a running one; so R56's "every scan ends, its record discarded" is read against R52, the model's choice (log 49). -/
def Slot.afterReset (x : Slot) (max : Grade) (now : Nat) : Slot :=
  let y := { x with insertionOwner := none, bound := none, reads := [], scan := none, serving := none
                    inFlight := probeOnly x.inFlight }
  match x.state with
  | .empty => y
  | .settling => y
  | .mounting => { y with mountedAt := now }
  | .fault =>
    if x.faultCause = some .unreadable then
      { y with state := .mounting, faultCause := none, mountedAt := now }
    else
      { y with
        state := .mounted, faultCause := none, errors := 0
        grade := x.identity.map (fun c => minGrade c.capability max) }
  | _ =>
    { y with
      state := .mounted, faultCause := none, errors := 0
      grade := x.identity.map (fun c => minGrade c.capability max) }

/-- The slots at a kiosk reset: each goes on by its state; identification starts again where the slot is MOUNTING. -/
def State.resetSlots (s : State) : State :=
  s.each (allFin 4) (fun t n => (t.setSlot n ((t.slot n).afterReset (t.maxGrade n) t.now)).serveNext n)

end Sys2Proof.Machine
end

