-- ==== Sys2Proof/Machine/LinkInterface.lean ====
section
/-! DEFINITION. The Link Interface (01): reception, the arrival of requests, the sending of frames, IDENTIFY and STATUS. -/

namespace Sys2Proof.Machine

/-! ### Reception (R2, R3) and arrival (R5, R6, R9) -/

/-- A request arrives: discarded without a free place (R9), answered at once (R5, R6), or entered. -/
def Link.arrive (l : Link) (standby : Bool) (tag code : Byte) (payload : List Byte) : Link :=
  if l.free = 0 then l.countError
  else if l.table.any (fun e => e.tag = tag) then l.answerAtOnce tag code .tagBusy
  else if Config.tableSize ≤ l.table.length then l.answerAtOnce tag code .busy
  else
    match requestOf code with
    | none => l.answerAtOnce tag code .unknownRequest
    | some c =>
      if payload.length < c.shortest then l.answerAtOnce tag code .malformed
      else if standby && !c.inStandby then l.answerAtOnce tag code .standby
      else { l with table := l.table ++ [{ tag := tag, code := c, payload := payload, taken := false }] }

/-- The bytes held by the receiver examined: bytes before a SYNC are dropped; a frame is discarded or arrives as soon as the
byte that decides it is there; hunting resumes as R3 gives. `fuel` bounds the frames decided; one per held byte is enough. -/
def Link.examine (standby : Bool) (fuel : Nat) (l : Link) : Link :=
  match fuel with
  | 0 => l
  | fuel + 1 =>
    let held := l.held.dropWhile (fun b => b ≠ Config.sync)
    let length := num2At held 4
    if held.length < 6 then { l with held := held }
    else if Config.maxLength < length then
      Link.examine standby fuel { l.countError with held := held.drop 1 }
    else if held.length < length + 8 then { l with held := held }
    else
      let body := (held.drop 1).take (length + 5)
      let rest := held.drop (length + 8)
      if crcBytes body ≠ (held.drop (length + 6)).take 2 then
        Link.examine standby fuel { l.countError with held := held.drop 1 }
      else if held.getD 1 0 ≠ FrameType.request.code then
        Link.examine standby fuel { l.countError with held := rest }
      else
        Link.examine standby fuel
          (Link.arrive { l with held := rest } standby (held.getD 2 0) (held.getD 3 0) (body.drop 5))

/-- One byte taken in by the receiver: it joins the held bytes, which are examined. -/
def Link.receive (l : Link) (standby : Bool) (now : Nat) (b : Byte) : Link :=
  Link.examine standby (l.held.length + 2) { l with held := l.held ++ [b], lastByte := now }

/-! ### Clocking (1.1, R10) -/

/-- The byte the part sends on its output while the host clocks one byte: the next byte of the oldest queued frame, or fill. -/
def Link.output (l : Link) : Byte :=
  match l.queue with
  | [] => Config.fillByte
  | f :: _ => f.bytes.getD l.sending Config.fillByte

/-- The link once that byte is sent: a frame whose last CRC byte it was leaves the queue, and its place is free. -/
def Link.outputSent (l : Link) : Link :=
  match l.queue with
  | [] => l
  | f :: rest =>
    if l.sending + 1 < f.bytes.length then { l with sending := l.sending + 1 } else { l with queue := rest, sending := 0 }

/-- The host clocks one byte: one moves each way, and the part's own is sent before the host's is examined (log 26). -/
def State.clockByte (s : State) (b : Byte) : State :=
  (s.setLink (s.link.outputSent.receive s.power.standby s.now b)).send (.host s.link.output)

/-- Bytes clocked in by the host, one after another. -/
def State.receiveBytes (s : State) (bytes : List Byte) : State := bytes.foldl State.clockByte s

/-- FRAME_RECEIVED (R2, R10). -/
def execFrameReceived (bytes : List Byte) (s : State) : Host.Outcome State Fault Refusal :=
  .next (s.receiveBytes bytes)

/-- LENGTH_ABOVE_4096 (R2, R3, R10): bytes up to the second LENGTH byte of a frame too long; the receiver treats them like any
others, and discards the frame at that byte. -/
def execLengthAbove4096 (bytes : List Byte) (s : State) : Host.Outcome State Fault Refusal :=
  .next (s.receiveBytes bytes)

/-- INTER_BYTE_TIMEOUT (R3): more than 50 ms in ASSEMBLING; the held bytes are dropped. In HUNTING there is no such event. -/
def execInterByteTimeout (s : State) : Host.Outcome State Fault Refusal :=
  .next (if s.link.held = [] then s else s.setLink { s.link.countError with held := [] })

/-! ### Sending (R10) -/

/-- FRAME_SENT (R10): the rest of the oldest frame is clocked out, to its last CRC byte, and its place is free. With an empty queue
there is no frame to send and nothing changes. -/
def execFrameSent (s : State) : Host.Outcome State Fault Refusal :=
  .next (match s.link.queue with
    | [] => s
    | f :: rest =>
      (s.setLink { s.link with queue := rest, sending := 0 }).setSent
        (s.sent ++ (f.bytes.drop s.link.sending).map Sent.host))

/-! ### IDENTIFY and STATUS (R14, R15) -/

/-- The store state: VALID 0, DEFAULTED 1. The reset cause: POWER_ON 0, KIOSK_RESET 1. -/
def State.storeStateByte (s : State) : List Byte := le1 (if s.store.loaded then 0 else 1)
def State.resetCauseByte (s : State) : List Byte := le1 (if s.power.afterReset then 1 else 0)

/-- The service state: IN_SERVICE 0, OUT_OF_SERVICE 1. -/
def State.serviceByte (s : State) : List Byte := le1 (if s.conds.inService then 0 else 1)

/-- The START notice (R16, R181). -/
def State.startNotice (s : State) : State := s.notify 0xC0 (s.resetCauseByte ++ s.storeStateByte)

/-- The fields of the IDENTIFY reply. -/
def State.identifyFields (s : State) : List Byte :=
  le2 Config.vendorCode ++ le2 Config.partCode ++ le1 Config.siliconRevision ++ le1 s.power.profile.code ++
    le1 s.power.profile.stations ++ le1 4 ++ le1 s.power.profile.unitCount ++ le1 3 ++
    s.storeStateByte ++ s.resetCauseByte

/-- IDENTIFY (R14). -/
def execIdentify (tag : Byte) (s : State) : Host.Outcome State Fault Refusal :=
  .next (s.take .identify tag (fun t _ => t.ok tag t.identifyFields))

/-- The fields of the STATUS reply. The levels of ATTN and WAKE are flags, 1 asserted (log 37). -/
def State.statusFields (s : State) : List Byte :=
  le2 s.link.errors ++ flagByte s.link.dropped ++ le1 s.link.table.length ++ le1 s.link.notices ++
    flagByte s.power.standby ++ le1 s.conds.mode.code ++ s.serviceByte ++ flagByte s.attn ++ flagByte s.wake

/-- STATUS (R15): the values, and at the same moment the error count becomes 0 and the notices-dropped flag clear. -/
def execStatus (tag : Byte) (s : State) : Host.Outcome State Fault Refusal :=
  .next (s.take .status tag (fun t _ =>
    (t.setLink { t.link with errors := 0, dropped := false }).ok tag t.statusFields))

end Sys2Proof.Machine
end

