-- ==== Sys2Proof/Machine/SessionManager.lean ====
section
/-! DEFINITION. The Session Manager's commands (02). -/

namespace Sys2Proof.Machine

/-! ### SESSION_OPEN (R19 to R21) -/

/-- The lowest-numbered IDLE record (R19). -/
def State.idleRecord (s : State) : Option (Fin 8) := (allFin 8).find? (fun r => (s.record r).state = .idle)

/-- The MOUNTED slots of a station. -/
def State.mountedOf (s : State) (st : Station) : List (Fin 4) :=
  (allFin 4).filter (fun n => (s.slot n).state = .mounted ∧ s.power.profile.stationOfSlot n = st)

/-- A set of slots as a byte. -/
def slotsByte (ns : List (Fin 4)) : List Byte := le1 (bitsOf (fun n : Fin 4 => ns.contains n)).toNat

/-- A session opened into record `r` for a station (R21). -/
def State.openSession (s : State) (r : Fin 8) (st : Station) : State :=
  let h : SessionHandle := { record := r, gen := (s.record r).gen + 1 }
  let s1 := s.setRecord r
    { state := .active, gen := h.gen, station := some st, uncommitted := none, committed := [], timer := .running s.now,
      totals := Totals.zero, closedOrder := none }
  let s2 := (s1.setFront st (some h)).setAccount r Account.zero
  let s3 := s2.setSessionSet r (CondSet.clear s.defaultSessionMask)
  let s4 := s3.setCatalogue { s3.catalogue with lists := put s3.catalogue.lists r [] }
  s4.each (s.mountedOf st) (fun t n => t.bindSlot n h .bound)

/-- SESSION_OPEN (R20, R21). -/
def execSessionOpen (tag : Byte) (s : State) : Host.Outcome State Fault Refusal :=
  .next (s.take .sessionOpen tag (fun t p =>
    match (stationAt p 0).filter t.power.profile.hasStation with
    | none => t.refuse tag .badValue
    | some st =>
      t.checked tag
        [(t.conds.inService, .outOfService), (!t.power.standby, .standby), ((t.front st).isNone, .stationBusy)]
        (match t.idleRecord with
          | none => t.refuse tag .noSession
          | some r =>
            let t1 := t.openSession r st
            t1.ok tag ((t1.handleOf r).bytes ++ slotsByte (t1.boundSlots (t1.handleOf r))))))

/-! ### SESSION_CLOSE (R25, R26) -/

/-- The session's uncommitted order at a close: in EDITING or QUOTED it is cancelled with an ORDER notice; in AUTHORISING its
cancel is asked, once (R25 step 4, R26, R90). -/
def State.closeOrder (s : State) (h : OrderHandle) : State :=
  match s.order? h with
  | none => s
  | some o =>
    if o.editable then (s.cancelOrder h o).orderNotice h o.session cancelledCode .closed []
    else if o.cancel then s
    else (s.setOrder h.record { o with cancel := true }).cancelAuth h

/-- What SESSION_CLOSE does at its taking, up to the test for money in flight. -/
def State.closeSession (s : State) (h : SessionHandle) : State :=
  let x := s.record h.record
  let s1 := s.setRecord h.record { x with state := .closing, timer := .stopped (x.timer.count s.now) }
  let s2 := s1.closeStationGate x.station (some .closed)
  let s3 := s2.each (s2.boundSlots h) State.closeSlot
  let s4 := s3.setCatalogue (s3.catalogue.freeWhere h.record (fun _ => true))
  let s5 := match x.uncommitted with
    | some o => s4.closeOrder o
    | none => s4
  s5.closingExit h.record

/-- SESSION_CLOSE (R25). -/
def execSessionClose (tag : Byte) (s : State) : Host.Outcome State Fault Refusal :=
  .next (s.take .sessionClose tag (fun t p =>
    t.withSession .sessionClose tag p 0 (fun t h =>
      let t1 := t.closeSession h
      t1.ok tag (le1 (t1.record h.record).state.code))))

/-! ### SESSION_RESUME (R34) -/

/-- Some condition of the session's set resolves to SUSPEND. -/
def State.suspendPending (s : State) (r : Fin 8) : Bool :=
  (allFin 8).any (fun i => s.sessionResolved r i = .suspend)

/-- SESSION_RESUME (R34). -/
def execSessionResume (tag : Byte) (s : State) : Host.Outcome State Fault Refusal :=
  .next (s.take .sessionResume tag (fun t p =>
    t.withSession .sessionResume tag p 0 (fun t h =>
      let x := t.record h.record
      t.checked tag
        [(decide (x.state = .suspended), .badState),
         (!t.suspendPending h.record && t.conds.inService, .conditionPending)]
        ((t.setRecord h.record { x with state := .active, timer := .running t.now }).ok tag []))))

/-! ### SESSION_QUERY (R36) -/

/-- The set bits of a set, each with its number and its resolved action, after their count (log 10). -/
def actionList {n : Nat} (bits : BitVec n) (resolved : Fin n → Action) : List Byte :=
  let set := (allFin n).filter (fun i => bits.getLsbD i.val)
  le1 set.length ++ set.flatMap (fun i => le1 i.val ++ le1 (resolved i).code)

/-- The place in the settling queue, from 1. -/
def State.settlingPlace (s : State) (r : Fin 8) : Option Nat :=
  if s.sessions.settling.contains r then some ((s.sessions.settling.takeWhile (fun x => x ≠ r)).length + 1) else none

/-- The fields of the SESSION_QUERY reply. The idle timer's running is a flag (log 37); the states of the bound slots follow their set in
rising order (log 10). The idle timer's count goes out as a time of 4 bytes in ms, the model's choice (log 48). -/
def State.sessionFields (s : State) (h : SessionHandle) : List Byte :=
  let r := h.record
  let x := s.record r
  let a := s.account r
  let c := s.sessionSet r
  let front := x.station.any (fun st => s.front st = some h)
  let orderState := (x.uncommitted.bind s.order?).map (fun o => o.state.code)
  le1 x.state.code ++ optField 1 (fun st => le1 st.code) x.station ++ flagByte front ++
    slotsByte (s.boundSlots h) ++ (s.boundSlots h).flatMap (fun n => le1 (s.slot n).state.code) ++
    orderBytes x.uncommitted ++ optField 1 le1 orderState ++
    le1 x.committed.length ++ x.committed.flatMap OrderHandle.bytes ++
    le4 (x.timer.count s.now) ++ flagByte (decide (x.state = .active)) ++
    optField 1 le1 (s.settlingPlace r) ++
    le4 a.credit ++ le4 a.cashPaid ++ le4 a.cardPaid ++
    le1 c.bits.toNat ++ le1 c.mask.toNat ++ actionList c.bits (s.sessionResolved r) ++
    le2 (s.catalogue.lists.get r).length

/-- SESSION_QUERY (R36). The idle timer of an ACTIVE session restarts (R35) before its count is read, which is then 0; that order is the
model's choice (log 48). -/
def execSessionQuery (tag : Byte) (s : State) : Host.Outcome State Fault Refusal :=
  .next (s.take .sessionQuery tag (fun t p =>
    t.withSession .sessionQuery tag p 0 (fun t h => t.ok tag (t.sessionFields h))))

/-! ### IDLE_TIMER_EXPIRY (R35) -/

/-- IDLE_TIMER_EXPIRY (R35): there is none but in ACTIVE, where alone the timer runs. -/
def execIdleTimerExpiry (r : Fin 8) (s : State) : Host.Outcome State Fault Refusal :=
  .next (s.idleExpires r)

end Sys2Proof.Machine
end

