-- ==== Sys2Proof/Machine/SlotController.lean ====
section
/-! DEFINITION. The Slot Controller's commands (03). A device event that the state of the slot or of its bus does not admit
changes nothing (log 3). -/

namespace Sys2Proof.Machine

/-! ### IMAGE_READ (R53) -/

/-- IMAGE_READ past its handle check: the offset, the slot, the queue; then the read joins the queue. -/
def State.queueRead (s : State) (tag : Byte) (h : CatHandle) (e : CatEntry) (offset length : Nat) : State :=
  let x := s.slot e.slot
  s.checked tag
    [(decide (offset < e.size), .badRange), (decide (x.state ≠ .fault), .mediaFault),
     (decide (x.state = .scanning ∨ x.state = .ready), .mediaGone),
     (decide (x.reads.length < Config.maxReads), .busy)]
    ((s.setSlot e.slot { x with
        reads := x.reads ++ [{ tag := tag, image := h, offset := offset, length := min length (e.size - offset) }]
      }).serveNext e.slot)

/-- IMAGE_READ (R53). -/
def execImageRead (tag : Byte) (s : State) : Host.Outcome State Fault Refusal :=
  .next (s.take .imageRead tag (fun t p =>
    let length := num2At p 9
    t.checked tag [(decide (1 ≤ length ∧ length ≤ Config.maxImageRead), .badValue)]
      (t.withSession .imageRead tag p 0 (fun t session =>
        match t.imageFor session p 2 with
        | .error e => t.refuseImage tag session p 2 e
        | .ok (h, e) => t.queueRead tag h e (num4At p 5) length))))

/-! ### SLOT_QUERY (R55) -/

/-- The fields of the SLOT_QUERY reply. The confirmed presence is a flag (log 37). -/
def State.slotFields (s : State) (n : Fin 4) : List Byte :=
  let x := s.slot n
  le1 x.state.code ++ optField 1 (fun c => le1 c.code) x.faultCause ++ le1 (if s.cyclic n then 1 else 0) ++
    flagByte x.present ++
    optField 5 (fun c => le1 (gradeCode c.capability) ++ le4 c.capacity) x.identity ++
    optField 1 (fun g => le1 (gradeCode g)) x.grade ++ le1 x.errors ++ le1 x.reads.length ++
    sessionBytes x.bound ++ optField 21 Scan.bytes x.scan

/-- SLOT_QUERY (R55). -/
def execSlotQuery (tag : Byte) (s : State) : Host.Outcome State Fault Refusal :=
  .next (s.take .slotQuery tag (fun t p =>
    match fin? 4 (byteAt p 0) with
    | none => t.refuse tag .badValue
    | some n => t.ok tag (t.slotFields n)))

/-! ### Sensing (R38, R39) -/

/-- SLOT_SAMPLE (R38): a sample of the detect switch, which a slot in CYCLIC mode has not. -/
def execSlotSample (n : Fin 4) (present : Bool) (s : State) : Host.Outcome State Fault Refusal :=
  .next (s.heard (fun t => if t.cyclic n then t else t.slotReading n present Config.staticRun))

/-- PROBE_DUE (R39, R49): a probe, in CYCLIC mode, on an idle bus, in the states whose bus carries probes. -/
def execProbeDue (n : Fin 4) (s : State) : Host.Outcome State Fault Refusal :=
  .next (s.heard (fun t =>
    let x := t.slot n
    if t.cyclic n ∧ x.inFlight = none ∧ x.serving = none ∧ x.state.probing then t.issue n .probe else t))

/-- The end of a probe: its outcome, its reading, and the arbiter. -/
def State.probeEnds (s : State) (n : Fin 4) (level : Bool) : State := ((s.busOutcome n).busReading n level).serveNext n

/-- PROBE_ANSWER (R39). -/
def execProbeAnswer (x : Exchange) (s : State) : Host.Outcome State Fault Refusal :=
  .next (s.heard (fun t => if t.awaits x .probe then t.probeEnds x.slot true else t))

/-- PROBE_TIMEOUT (R39): 100 ms without an answer. -/
def execProbeTimeout (n : Fin 4) (s : State) : Host.Outcome State Fault Refusal :=
  .next (s.heard (fun t => if (t.slot n).inFlight = some .probe then t.probeEnds n false else t))

/-! ### Identification (R41, R42) -/

/-- IDENTIFICATION_ANSWER (R41): also a positive reading in CYCLIC mode (R39). The answer to an abandoned identification is
ignored (R43, R56). -/
def execIdentificationAnswer (x : Exchange) (answer : IdentAnswer) (s : State) : Host.Outcome State Fault Refusal :=
  .next (s.heard (fun t =>
    if t.awaits x .identification then
      let t1 := (t.busOutcome x.slot).busReading x.slot true
      match answer with
      | .card capability capacity => t1.identified x.slot capability capacity
      | .error => t1.unreadable x.slot
      | .noFileSystem => t1.unreadable x.slot
    else t))

/-- IDENTIFICATION_TIMEOUT (R41): 1 s has passed since the confirmed insertion; an identification in flight without an answer
is also a negative reading in CYCLIC mode (R39), which comes first, as at a block read (R47). -/
def execIdentificationTimeout (n : Fin 4) (s : State) : Host.Outcome State Fault Refusal :=
  .next (s.heard (fun t =>
    if (t.slot n).state = .mounting then
      if (t.slot n).inFlight = some .identification then
        let t1 := (t.busOutcome n).busReading n false
        if (t1.slot n).state = .mounting then t1.unreadable n else t1
      else t.unreadable n
    else t))

/-! ### Block reads (R47, R50, R51, R54) -/

/-- A block read of the unit being served is in flight. -/
def Slot.reading (x : Slot) : Bool := x.inFlight = some .blockRead && x.serving.isSome

/-- BLOCK_READ_ANSWER (R47): a positive reading in CYCLIC mode, whether good or an error (R39); then the counter and the
unit. -/
def execBlockReadAnswer (x : Exchange) (answer : BlockAnswer) (s : State) : Host.Outcome State Fault Refusal :=
  .next (s.heard (fun t =>
    if t.awaits x .blockRead ∧ (t.slot x.slot).reading then
      let t1 := (t.busOutcome x.slot).busReading x.slot true
      match answer with
      | .good content => (t1.blockGood x.slot).goodBlock x.slot content
      | .error => t1.failedBlock x.slot
    else t))

/-- BLOCK_READ_TIMEOUT (R47): 250 ms without an answer. In CYCLIC mode the negative reading comes first; where it confirms a
removal the failure is not counted. -/
def execBlockReadTimeout (n : Fin 4) (s : State) : Host.Outcome State Fault Refusal :=
  .next (s.heard (fun t =>
    if (t.slot n).reading then
      let t1 := (t.busOutcome n).busReading n false
      if (t1.slot n).state = .empty then t1 else t1.failedBlock n
    else t))

end Sys2Proof.Machine
end

