-- ==== Sys2Proof/Machine/CatalogueUnit.lean ====
section
/-! DEFINITION. The Catalogue's commands (04): admission, the freeing at a removal, the listing. -/

namespace Sys2Proof.Machine

/-! ### CATALOGUE_ADMISSION (R61) -/

/-- The session of a hand-off may still have entries from its slot: the slot is bound to it and SCANNING (R61 step 1), or was until a
removal whose freeing the Catalogue has still to take (R72, log 38). -/
def State.admits (s : State) (f : HandOff) : Bool :=
  let st := (s.record f.owner.record).state
  s.current f.owner && decide (st = .active ∨ st = .suspended) &&
    (decide ((s.slot f.slot).bound = some f.owner ∧ (s.slot f.slot).state = .scanning) ||
      s.catalogue.removals.contains { owner := f.owner, slot := f.slot })

/-- The scan step that awaits the Catalogue's answer takes it (R51, R52): the count, the PROGRESS notice at each multiple of
64, the end of the step. -/
def State.admissionAnswer (s : State) (n : Fin 4) (a : Admission) : State :=
  match (s.slot n).serving with
  | some (.step (.handed more)) =>
    match a with
    | .admitted =>
      let s1 := s.countScan n (fun k => { k with admitted := k.admitted + 1 })
      let count : Nat := ((s1.slot n).scan.map (fun k => k.admitted)).getD 0
      let s2 := if count % 64 = 0 then s1.scanNotice n .progress else s1
      s2.finishStep n more
    | .noRoom => (s.countScan n (fun k => { k with skippedRoom := k.skippedRoom + 1 })).finishStep n more
    | .alreadyHeld => s.finishStep n more
  | _ => s

/-- The oldest hand-off of a slot taken (R61). -/
def State.admitFrom (s : State) (n : Fin 4) : State :=
  match s.catalogue.handOffs.find? (fun f => f.slot = n) with
  | none => s
  | some f =>
    let s1 := s.setCatalogue { s.catalogue with handOffs := s.catalogue.handOffs.erase f }
    if s1.admits f then
      let (c, a) := s1.catalogue.admission s1.catQuota f
      (s1.setCatalogue c).admissionAnswer n a
    else s1

/-- CATALOGUE_ADMISSION (R61): where no file of the slot is handed on, nothing happens. -/
def execCatalogueAdmission (n : Fin 4) (s : State) : Host.Outcome State Fault Refusal :=
  .next (s.admitFrom n)

/-! ### CATALOGUE_REMOVAL_FREEING (R70, R44 step 4) -/

/-- The entries a removal frees. -/
def Removal.frees (x : Removal) (e : CatEntry) : Bool := e.owner = x.owner ∧ e.slot = x.slot

/-- The oldest removal the Catalogue has not taken: its entries are freed all at once and reported to the Order Unit. -/
def State.freeRemoved (s : State) : State :=
  match s.catalogue.removals with
  | [] => s
  | x :: rest =>
    let r := x.owner.record
    let report : FreedReport := { owner := x.owner, slot := x.slot, entries := s.catalogue.freed r x.frees }
    let s1 := s.setCatalogue { s.catalogue.freeWhere r x.frees with removals := rest }
    s1.setOrders { s1.orders with reports := s1.orders.reports ++ [report] }

/-- CATALOGUE_REMOVAL_FREEING (R70). -/
def execCatalogueRemovalFreeing (s : State) : Host.Outcome State Fault Refusal :=
  .next s.freeRemoved

/-! ### CATALOGUE_LIST (R68) -/

/-- The positions a listing returns. -/
def State.listed (s : State) (h : SessionHandle) (first count : Nat) : List (Fin 2048) :=
  ((s.catalogue.lists.get h.record).drop first).take count

/-- The fields of the CATALOGUE_LIST reply. -/
def State.listFields (s : State) (h : SessionHandle) (first count : Nat) : List Byte :=
  let qs := s.listed h first count
  le2 (s.catalogue.lists.get h.record).length ++ le1 qs.length ++
    qs.flatMap (fun q =>
      match (s.catalogue.table.get q).entry with
      | some e => entryBytes (s.catalogue.handleAt q) e
      | none => [])

/-- CATALOGUE_LIST (R68). -/
def execCatalogueList (tag : Byte) (s : State) : Host.Outcome State Fault Refusal :=
  .next (s.take .catalogueList tag (fun t p =>
    let count := byteAt p 4
    t.checked tag [(decide (1 ≤ count ∧ count ≤ 32), .badValue)]
      (t.withSession .catalogueList tag p 0 (fun t h => t.ok tag (t.listFields h (num2At p 2) count)))))

end Sys2Proof.Machine
end

