-- ==== Sys2Proof/Machine/OrderUnit.lean ====
section
/-! DEFINITION. The Order Unit's commands (05). -/

namespace Sys2Proof.Machine

/-! ### ORPHAN_MARKING (R44 steps 5 and 6) -/

/-- A line that named a freed entry and has no raster is marked ORPHANED. -/
def orphanLine (freed : List (CatHandle × Nat)) (l : Line) : Line :=
  if l.raster = .none ∧ freed.any (fun e => e.1 = l.image) then { l with raster := .orphaned } else l

/-- The oldest report of a freeing taken: the lines of the session's uncommitted order are marked, and MEDIA_REMOVED (S0) is
raised where a freed entry had a count above 0. -/
def State.markOrphans (s : State) : State :=
  match s.orders.reports with
  | [] => s
  | x :: rest =>
    let s1 := s.setOrders { s.orders with reports := rest }
    let handle := if s1.current x.owner then (s1.record x.owner.record).uncommitted else none
    let s2 := match handle with
      | some h =>
        match s1.order? h with
        | some o => s1.setOrder h.record { o with lines := o.lines.map (fun l => l.map (orphanLine x.entries)) }
        | none => s1
      | none => s1
    if x.entries.any (fun e => decide (0 < e.2)) then s2.raiseSession x.owner 0 (le1 x.slot.val) else s2

/-- ORPHAN_MARKING (R44). -/
def execOrphanMarking (s : State) : Host.Outcome State Fault Refusal :=
  .next s.markOrphans

/-! ### ORDER_OPEN (R74, R76) -/

/-- The lowest-numbered free record. -/
def State.freeOrder (s : State) : Option (Fin 16) := (allFin 16).find? (fun o => (s.orderRecord o).body = none)

/-- An order just opened (R74). -/
def Order.opened (session : SessionHandle) : Order :=
  { session := session, state := .editing, lines := Vector.replicate 16 none, quote := none, collected := 0,
    paidCredit := 0, paidCard := 0, termRef := none, refundedBase := 0, refundedTax := 0, refunded := 0,
    creditRefunded := 0, cancel := false }

/-- ORDER_OPEN (R76). -/
def execOrderOpen (tag : Byte) (s : State) : Host.Outcome State Fault Refusal :=
  .next (s.take .orderOpen tag (fun t p =>
    t.withSession .orderOpen tag p 0 (fun t h =>
      let x := t.record h.record
      t.checked tag
        [(x.uncommitted.isNone, .badState), (decide (x.committed.length < Config.maxCommitted), .tooManyOrders)]
        (match t.freeOrder with
          | none => t.refuse tag .noOrder
          | some o =>
            let oh : OrderHandle := { record := o, gen := (t.orderRecord o).gen + 1 }
            let t1 := t.setOrderRecord o { gen := oh.gen, body := some (Order.opened h) }
            (t1.setRecord h.record { x with uncommitted := some oh }).ok tag oh.bytes))))

/-! ### Editing (R77 to R80) -/

/-- The lowest unused line index. -/
def Order.freeLine (o : Order) : Option (Fin 16) := (allFin 16).find? (fun k => (o.lines.get k).isNone)

/-- The line at an index of a payload, where it is in use. -/
def Order.lineAt (o : Order) (p : List Byte) (k : Nat) : Option (Fin 16 × Line) :=
  (fin? 16 (byteAt p k)).bind (fun i => (o.lines.get i).map (fun l => (i, l)))

/-- An order carried to EDITING, its quote discarded (R80). -/
def Order.edited (o : Order) : Order := { o with state := .editing, quote := none }

def quantityGood (q : Nat) : Bool := decide (1 ≤ q ∧ q ≤ 99)

/-- A line just added (R75). -/
def Line.added (h : CatHandle) (z : Size) (f : Finish) (q : Nat) : Line :=
  { image := h, size := z, finish := f, quantity := q, raster := .none, copies := Counters.zero }

/-- LINE_ADD past the checks of the order and of the fields (R77): the limits, then the handle check with the rise of the
reference count (R65). -/
def State.addLine (s : State) (tag : Byte) (p : List Byte) (h : OrderHandle) (o : Order) (z : Size) (f : Finish) (q : Nat) :
    State :=
  match o.freeLine with
  | none => s.refuse tag .lineLimit
  | some k =>
    s.checked tag [(decide (o.copyCount + q ≤ Config.maxCopies), .copyLimit)]
      (match s.imageFor o.session p 2 with
        | .error e => s.refuseImage tag o.session p 2 e
        | .ok (image, _) =>
          ((s.refRises image).setOrder h.record (o.setLine k (some (Line.added image z f q))).edited).ok tag (le1 k.val))

/-- LINE_ADD (R77). -/
def execLineAdd (tag : Byte) (s : State) : Host.Outcome State Fault Refusal :=
  .next (s.take .lineAdd tag (fun t p =>
    t.withOrder .lineAdd tag p 0 (fun t h o =>
      t.checked tag [(o.editable, .badState)]
        (match sizeAt p 5, finishAt p 6, quantityGood (byteAt p 7) with
          | some z, some f, true => t.addLine tag p h o z f (byteAt p 7)
          | _, _, _ => t.refuse tag .badValue))))

/-- LINE_CHANGE past the checks of the order, the line and the fields (R78). A change of size discards the raster. -/
def State.changeLine (s : State) (tag : Byte) (h : OrderHandle) (o : Order) (k : Fin 16) (l : Line) (z : Size) (f : Finish)
    (q : Nat) : State :=
  s.checked tag
    [(decide (l.raster ≠ .orphaned), .orphanLine),
     (decide (o.copyCount - l.quantity + q ≤ Config.maxCopies), .copyLimit),
     (decide (z = l.size) || (s.catalogue.entry? l.image).isSome, .staleHandle)]
    (let s1 := if z = l.size then s else s.freeRaster h k
     let raster := if z = l.size then l.raster else .none
     let l1 := { l with size := z, finish := f, quantity := q, raster := raster }
     (s1.setOrder h.record (o.setLine k (some l1)).edited).ok tag [])

/-- LINE_CHANGE (R78). -/
def execLineChange (tag : Byte) (s : State) : Host.Outcome State Fault Refusal :=
  .next (s.take .lineChange tag (fun t p =>
    t.withOrder .lineChange tag p 0 (fun t h o =>
      t.checked tag [(o.editable, .badState)]
        (match o.lineAt p 2 with
          | none => t.refuse tag .noLine
          | some (k, l) =>
            match sizeAt p 3, finishAt p 4, quantityGood (byteAt p 5) with
            | some z, some f, true => t.changeLine tag h o k l z f (byteAt p 5)
            | _, _, _ => t.refuse tag .badValue))))

/-- LINE_REMOVE (R79). -/
def execLineRemove (tag : Byte) (s : State) : Host.Outcome State Fault Refusal :=
  .next (s.take .lineRemove tag (fun t p =>
    t.withOrder .lineRemove tag p 0 (fun t h o =>
      t.checked tag [(o.editable, .badState)]
        (match o.lineAt p 2 with
          | none => t.refuse tag .noLine
          | some (k, l) =>
            let t1 := (t.freeRaster h k).refFalls l.image
            (t1.setOrder h.record (o.setLine k none).edited).ok tag []))))

/-! ### ORDER_QUOTE (R82 to R84) -/

/-- The quote in an ORDER_QUOTE reply (11.5). -/
def quoteFields (h : OrderHandle) (q : Quote) : List Byte :=
  let lines := (allFin 16).filterMap (fun k => (q.lines.get k).map (fun x => (k, x)))
  h.bytes ++ le2 q.revision.toNat ++ le4 q.subtotal ++ le2 q.rate ++ le4 q.tax ++ le4 q.total ++ le1 lines.length ++
    lines.flatMap (fun x => le1 x.1.val ++ le1 x.2.tier.val ++ le2 x.2.base ++ le2 x.2.surcharge ++ le4 x.2.unit ++
      le4 x.2.amount)

/-- ORDER_QUOTE (R82): a total above the limit leaves the order in EDITING without a quote. -/
def execOrderQuote (tag : Byte) (s : State) : Host.Outcome State Fault Refusal :=
  .next (s.take .orderQuote tag (fun t p =>
    t.withOrder .orderQuote tag p 0 (fun t h o =>
      t.checked tag [(o.editable, .badState), (t.store.valid, .noPrices), (decide (o.used ≠ []), .emptyOrder)]
        (let q := PriceTable.quote t.store.published t.store.revision o
         if PriceTable.limit t.store.published < q.total then
           (t.setOrder h.record o.edited).refuse tag .orderLimit
         else (t.setOrder h.record { o with state := .quoted, quote := some q }).ok tag (quoteFields h q)))))

/-! ### ORDER_COMMIT (R85, R86) -/

/-- For every size in the order some port is able for it (R85). -/
def State.printersFor (s : State) (o : Order) : Bool :=
  o.used.all (fun x => (allFin 3).any (fun p => (s.port p).ableFor x.2.size))

/-- ORDER_COMMIT past its checks (R86): the credit part, then the commit, an authorisation, or SHORT_CREDIT. -/
def State.payOrder (s : State) (tag : Byte) (h : OrderHandle) (o : Order) (total : Nat) (allowCard : Bool) : State :=
  let r := o.session.record
  let credit := (s.account r).credit
  let c := min credit total
  let s1 := s.setCredit r (credit - c)
  let t := s.money.terminal
  if c = total then
    let s2 := (s1.commitOrder h { o with paidCredit := c } 0).tasksJoined
    s2.ok tag (le1 OrderState.committed.code ++ le4 (s2.account r).credit)
  else if allowCard ∧ t.state ≠ .absent ∧ t.state ≠ .lost then
    let ref := t.refCounter + 1
    let a : Auth := { order := h, session := o.session, amount := total - c, ref := ref }
    let s2 := s1.setOrder h.record { o with state := .authorising, paidCredit := c, termRef := some ref }
    let s3 := (s2.setTerminal { t with waiting := t.waiting ++ [a], refCounter := ref }).handTerminal
    s3.ok tag (le1 OrderState.authorising.code ++ le4 (total - c) ++ le2 ref.toNat)
  else s.refuse tag .shortCredit

/-- ORDER_COMMIT (R85): QUOTE_STALE alone puts the order in EDITING and discards its quote. -/
def execOrderCommit (tag : Byte) (s : State) : Host.Outcome State Fault Refusal :=
  .next (s.take .orderCommit tag (fun t p =>
    t.withOrder .orderCommit tag p 0 (fun t h o =>
      match flagAt p 2, o.state, o.quote with
      | none, _, _ => t.refuse tag .badValue
      | some allow, .quoted, some q =>
        if t.quoteFresh q then
          t.checked tag
            [(o.used.all (fun x => decide (x.2.raster ≠ .orphaned)), .orphanLine),
             (o.used.all (fun x => decide (x.2.raster = .complete)), .rasterIncomplete),
             (t.printersFor o, .noPrinter), (t.conds.inService, .outOfService)]
            (t.payOrder tag h o q.total allow)
        else (t.setOrder h.record o.edited).refuse tag .quoteStale
      | some _, _, _ => t.refuse tag .badState)))

/-! ### ORDER_CANCEL (R89 to R91) -/

/-- The copies of a line that an attendant's cancel makes final-failed. -/
def Counters.waiting (c : Counters) : Nat := c.queued + c.retryPending
def Counters.cancelled (c : Counters) : Counters :=
  { c with queued := 0, retryPending := 0, finalFailed := c.finalFailed + c.waiting }

/-- The COPY notices of a cancel: one for each line that had copies moved, the first with the amounts (R98). -/
def State.cancelNotices (s : State) (h : OrderHandle) (session : SessionHandle) (amounts : List Byte) :
    List (Fin 16 × Line) → State
  | [] => s
  | (k, l) :: rest =>
    State.cancelNotices (s.copyNotice h session k 0xFF 3 0xFF 0xFF l.copies.cancelled amounts) h session
      (refundBytes 0 0 0) rest

/-- An attendant's cancel of a committed order (R91). The order's counters go out as a count of the lines in use and then, for each, its
index and its five counters in the order of 5.2; that layout is the model's choice (log 10). -/
def State.cancelCommitted (s : State) (tag : Byte) (h : OrderHandle) (o : Order) : State :=
  let moved := o.used.filter (fun x => decide (0 < x.2.copies.waiting))
  let base := (moved.map (fun x => x.2.copies.waiting * o.unitOf x.1)).sum
  let o1 := { o with
    cancel := true
    lines := o.lines.map (fun l => l.map (fun x => { x with copies := x.copies.cancelled })) }
  let (s1, amounts) := if moved = [] then (s.setOrder h.record o1, refundBytes 0 0 0) else s.refundCopies h o1 base
  let s2 := s1.cancelNotices h o.session amounts moved
  let s3 := (s2.settleLines h (moved.map (·.1))).evalPrints
  s3.ok tag (le1 o1.used.length ++ o1.used.flatMap (fun x =>
    le1 x.1.val ++ le1 x.2.copies.queued ++ le1 x.2.copies.inFlight ++ le1 x.2.copies.retryPending ++
      le1 x.2.copies.delivered ++ le1 x.2.copies.finalFailed))

/-- ORDER_CANCEL (R89 to R91): of a committed order by the order's own state, of another by its session's too. -/
def execOrderCancel (tag : Byte) (s : State) : Host.Outcome State Fault Refusal :=
  .next (s.take .orderCancel tag (fun t p =>
    t.unlessClosed tag p 0 (t.withAnyOrder tag p 0 (fun t h o =>
      if o.state = .committed then
        t.checked tag [(decide (t.conds.mode = .service), .notService), (!o.cancel, .badState)] (t.cancelCommitted tag h o)
      else
        match sessionRefusal .orderCancel (t.record o.session.record).state with
        | some e => t.refuse tag e
        | none =>
          if o.editable then (t.cancelOrder h o).ok tag (le1 cancelledCode)
          else if o.cancel then t.refuse tag .badState
          else ((t.setOrder h.record { o with cancel := true }).cancelAuth h).ok tag (le1 OrderState.authorising.code)))))

/-! ### ORDER_QUERY (R99) -/

/-- A field present under a condition: its presence flag, then the field or zero bytes. -/
def fieldIf (present : Bool) (width : Nat) (bytes : List Byte) : List Byte :=
  if present then flagByte true ++ bytes else flagByte false ++ List.replicate width 0

/-- A line in an ORDER_QUERY reply: its index and then its fields in the order of 5.2. That the lines in use alone are sent, each behind 1
byte of its index, is the model's choice (log 10). -/
def lineFields (o : Order) (k : Fin 16) (l : Line) : List Byte :=
  le1 k.val ++ l.image.bytes ++ le1 l.size.code ++ le1 l.finish.code ++ le1 l.quantity ++ le1 l.raster.code ++
    optField 13 (fun x => le1 x.tier.val ++ le2 x.base ++ le2 x.surcharge ++ le4 x.unit ++ le4 x.amount)
      (o.quote.bind (fun q => q.lines.get k)) ++
    fieldIf (decide (o.state = .committed)) 5
      (le1 l.copies.queued ++ le1 l.copies.inFlight ++ le1 l.copies.retryPending ++ le1 l.copies.delivered ++
        le1 l.copies.finalFailed)

/-- The fields of the ORDER_QUERY reply, in the order of the record's table (5.1), then whether the quote is stale. Each row of that table
that may be absent has a presence flag of its own (log 10). A quote counts as stale here also while the published table is not valid, and
without a quote the byte is 0, the model's choice (log 50). -/
def State.orderFields (s : State) (h : OrderHandle) (o : Order) : List Byte :=
  let committed := decide (o.state = .committed)
  [h.gen] ++ o.session.bytes ++ le1 o.state.code ++
    le1 o.used.length ++ o.used.flatMap (fun x => lineFields o x.1 x.2) ++
    optField 16 (fun q => le2 q.revision.toNat ++ le4 q.subtotal ++ le2 q.rate ++ le4 q.tax ++ le4 q.total) o.quote ++
    fieldIf committed 4 (le4 o.collected) ++
    fieldIf (committed || decide (o.state = .authorising)) 4 (le4 o.paidCredit) ++
    fieldIf committed 4 (le4 o.paidCard) ++ optField 2 (fun x => le2 x.toNat) o.termRef ++
    fieldIf committed 4 (le4 o.refundedBase) ++ fieldIf committed 4 (le4 o.refundedTax) ++
    fieldIf committed 4 (le4 o.refunded) ++ fieldIf committed 4 (le4 o.creditRefunded) ++
    flagByte o.cancel ++ flagByte (o.quote.any (fun q => !s.quoteFresh q))

/-- ORDER_QUERY (R99). -/
def execOrderQuery (tag : Byte) (s : State) : Host.Outcome State Fault Refusal :=
  .next (s.take .orderQuery tag (fun t p => t.withAnyOrder tag p 0 (fun t h o => t.ok tag (t.orderFields h o))))

end Sys2Proof.Machine
end

