-- ==== Sys2Proof/Machine/MoneyUnit.lean ====
section
/-! DEFINITION. The Money Unit's commands (06): gates and challenge, cash units, terminal, logs and till. -/

namespace Sys2Proof.Machine

/-! ### GATE_OPEN and GATE_CLOSE (R105, R106) -/

/-- The gate of a unit opens (R105): the enable sets are computed and sent; with no other gate open the challenge starts. -/
def State.openGate (s : State) (u : Fin 2) : State :=
  if (s.unit u).gateOpen then s
  else
    let first := !s.anyGateOpen
    let coins := s.coinSetOf u
    let bills := s.billSetOf u
    let s1 := (s.setUnit u { s.unit u with gateOpen := true, coinSet := coins, billSet := bills }).send
      (.enable u coins bills)
    if first then s1.issueToken Config.firstToken else s1

/-- The token now pending, if any. -/
def State.pendingToken (s : State) : Option Byte :=
  if s.money.challenge.pending then some s.money.challenge.token else none

/-- The gate state: OPEN 0, CLOSED 1. -/
def gateByte (isOpen : Bool) : List Byte := le1 (if isOpen then 0 else 1)

/-- The cash unit of a session's station under the profile. -/
def State.unitOfSession (s : State) (h : SessionHandle) : Option (Fin 2) :=
  (s.record h.record).station.bind s.power.profile.unitOf

/-- GATE_OPEN (R105). Its reply carries each set in 2 bytes, bit `n` for code `n` (log 40). -/
def execGateOpen (tag : Byte) (s : State) : Host.Outcome State Fault Refusal :=
  .next (s.take .gateOpen tag (fun t p =>
    t.withSession .gateOpen tag p 0 (fun t h =>
      match t.unitOfSession h with
      | none => t.refuse tag .noCashUnit
      | some u =>
        t.checked tag
          [(t.conds.inService, .outOfService), (!t.conds.kiosk.bits.getLsbD 12, .challengeFail),
           (decide ((t.unit u).port = .ready), .unitFault)]
          (let t1 := t.openGate u
           t1.ok tag (gateByte (t1.unit u).gateOpen ++ le2 (t1.unit u).coinSet.toNat ++ le2 (t1.unit u).billSet.toNat ++
             optField 1 (fun b => [b]) t1.pendingToken)))))

/-- GATE_CLOSE (R106). -/
def execGateClose (tag : Byte) (s : State) : Host.Outcome State Fault Refusal :=
  .next (s.take .gateClose tag (fun t p =>
    t.withSession .gateClose tag p 0 (fun t h =>
      match t.unitOfSession h with
      | none => t.refuse tag .noCashUnit
      | some u => (t.closeGate u none).ok tag [])))

/-! ### Bills in escrow (R109 to R112) -/

/-- What the tests of R109 find for a bill of value `v` at a unit. -/
inductive BillVerdict where
  /-- all four pass, for this front session -/
  | passes (h : SessionHandle)
  /-- the headroom test alone fails, for this front session -/
  | overLimit (h : SessionHandle)
  | fails
  deriving DecidableEq, Repr

def State.testBill (s : State) (u : Fin 2) (v : Nat) : BillVerdict :=
  if (s.unit u).gateOpen ∧ 0 < v ∧ s.boxOpen u then
    match s.front (unitStation u) with
    | some h => if v ≤ s.unitHeadroom u then .passes h else .overLimit h
    | none => .fails
  else .fails

/-- RETURN sent for the bill in escrow: RETURNING, and its limit starts. -/
def State.returnBill (s : State) (u : Fin 2) (code : Byte) (v : Nat) (h : Option SessionHandle) : State :=
  (s.setUnit u { s.unit u with escrow := .returning code v h s.now }).send (.giveBack u)

/-- CREDIT_LIMIT (S7) raised with the unit and the value of the refused bill. -/
def State.raiseCreditLimit (s : State) (h : SessionHandle) (u : Fin 2) (v : Nat) : State :=
  s.raiseSession h 7 (le1 u.val ++ le4 v)

/-- A HELD bill tested again at a correct answer (R110): STACK or RETURN. -/
def State.releaseHeld (s : State) (u : Fin 2) : State :=
  match (s.unit u).escrow with
  | .held code v h =>
    match s.testBill u v with
    | .passes _ => (s.setUnit u { s.unit u with escrow := .stacking code v h s.now }).send (.stack u)
    | .overLimit f => (s.returnBill u code v (some h)).raiseCreditLimit f u v
    | .fails => s.returnBill u code v (some h)
  | _ => s

/-! ### The challenge (R116, R117) -/

/-- The results of CHALLENGE_ANSWER: CORRECT 0, WRONG 1, NONE_PENDING 2, with the count after it. -/
def State.answerReply (s : State) (tag : Byte) (result : Nat) : State :=
  s.ok tag (le1 result ++ le1 s.money.challenge.errors)

/-- An answer taken (R117). -/
def State.answerChallenge (s : State) (tag : Byte) (token value : Byte) : State :=
  let c := s.money.challenge
  if c.pending = false then s.answerReply tag 2
  else if token = c.token ∧ value.toNat = 255 - c.token.toNat then
    let s1 := s.setChallenge { c with pending := false, errors := c.errors - 1 }
    ((s1.releaseHeld 0).releaseHeld 1).answerReply tag 0
  else ((s.setChallenge { c with pending := false }).challengeError).answerReply tag 1

/-- CHALLENGE_ANSWER (R117). -/
def execChallengeAnswer (tag : Byte) (s : State) : Host.Outcome State Fault Refusal :=
  .next (s.take .challengeAnswer tag (fun t p => t.answerChallenge tag (p.getD 0 0) (p.getD 1 0)))

/-- The next token issued while the challenge runs; one still pending counts as unanswered. -/
def State.challengeIssue (s : State) : State :=
  let c := s.money.challenge
  if c.running = false then s
  else
    let s1 := s.issueToken (nextToken c.token)
    if c.pending then s1.challengeError else s1

/-- CHALLENGE_ISSUE (R116): none while the challenge is stopped. -/
def execChallengeIssue (s : State) : Host.Outcome State Fault Refusal :=
  .next s.challengeIssue

/-! ### SLIP_TAKE and REFUND_TAKE (R123, R124) -/

/-- SLIP_TAKE (R123): the freed place goes to the head of the settling queue (R30). -/
def execSlipTake (tag : Byte) (s : State) : Host.Outcome State Fault Refusal :=
  .next (s.take .slipTake tag (fun t _ =>
    match t.money.slips with
    | [] => t.refuse tag .logEmpty
    | x :: rest =>
      (t.setMoney { t.money with slips := rest }).settleHead.ok tag
        (le2 x.number.toNat ++ sessionBytes x.session ++ le4 x.amount ++ le1 x.cause.code)))

/-- REFUND_TAKE (R124). -/
def execRefundTake (tag : Byte) (s : State) : Host.Outcome State Fault Refusal :=
  .next (s.take .refundTake tag (fun t _ =>
    match t.money.refunds with
    | [] => t.refuse tag .logEmpty
    | x :: rest =>
      (t.setMoney { t.money with refunds := rest }).ok tag
        (sessionBytes x.session ++ orderBytes x.order ++ le2 x.ref.toNat ++ le4 x.amount ++ le1 x.cause.code)))

/-! ### TILL_QUERY and TILL_ROLL (R126, 11.6) -/

/-- The counts of a unit, 0 where it is not used. -/
def State.unitCounts (s : State) (u : Fin 2) : List Byte :=
  if s.power.profile.usesUnit u then le4 (s.unit u).coins.toNat ++ le4 (s.unit u).bills.toNat else le4 0 ++ le4 0

/-- The till layout. -/
def State.tillFields (s : State) : List Byte :=
  let t := s.money.till
  le4 t.cashIn.toNat ++ le4 t.cardIn.toNat ++ le4 t.earned.toNat ++ le4 t.slipsIssued.toNat ++
    le4 t.cardRefundsIssued.toNat ++ le4 t.unlogged.toNat ++ le4 t.overage.toNat ++ s.unitCounts 0 ++ s.unitCounts 1

/-- A used unit in a TILL_QUERY reply. -/
def CashUnit.fields (c : CashUnit) : List Byte :=
  le1 c.port.code ++ gateByte c.gateOpen ++ le1 c.escrow.code ++
    optField 7 (fun (x : LateStack) => [x.code] ++ le4 x.value ++ sessionBytes x.session) c.late ++
    le1 (if c.boxIn then 0 else 1) ++ le2 c.boxCount ++ flagByte c.fullFlag

/-- The fields of the TILL_QUERY reply. -/
def State.tillQueryFields (s : State) : List Byte :=
  let t := s.money.terminal
  s.tillFields ++
    ((allFin 2).filter s.power.profile.usesUnit).flatMap (fun u => (s.unit u).fields) ++
    le1 t.state.code ++ le1 t.waiting.length ++ le2 t.refCounter.toNat ++
    le1 s.money.challenge.errors ++ optField 1 (fun b => [b]) s.pendingToken ++
    le1 s.money.slips.length ++ le1 s.money.refunds.length

/-- TILL_QUERY (R126). -/
def execTillQuery (tag : Byte) (s : State) : Host.Outcome State Fault Refusal :=
  .next (s.take .tillQuery tag (fun t _ => t.ok tag t.tillQueryFields))

/-- Some session's credit is above 0, or some order is AUTHORISING or COMMITTED. -/
def State.moneyHeld (s : State) : Bool :=
  (allFin 8).any (fun r => decide (0 < (s.account r).credit)) ||
  (allFin 16).any (fun o => (s.orderRecord o).body.any (fun x => decide (x.state = .authorising ∨ x.state = .committed)))

/-- The till counters and the counts of the units set to 0. -/
def State.zeroTill (s : State) : State :=
  s.setMoney { s.money with
    till := Till.zero
    units := s.money.units.map (fun c => { c with coins := 0, bills := 0 }) }

/-- TILL_ROLL (R126). -/
def execTillRoll (tag : Byte) (s : State) : Host.Outcome State Fault Refusal :=
  .next (s.take .tillRoll tag (fun t _ =>
    t.checked tag [(decide (t.conds.mode = .service), .notService), (!t.moneyHeld, .moneyHeld)]
      (t.zeroTill.ok tag t.tillFields)))

/-! ### Messages from the cash units (R103 to R115) -/

/-- A message from a unit: ignored where the profile does not use the unit, else it restarts the 2 s interval and is acted on
in every port state (R103). -/
def State.unitMessage (s : State) (u : Fin 2) (act : State → State) : State :=
  s.heard (fun t =>
    if t.power.profile.usesUnit u then
      act (t.setUnit u { t.unit u with heard := true, silent := false, lastHeard := t.now })
    else t)

/-- COIN (R108). -/
def execCoin (u : Fin 2) (code : Byte) (s : State) : Host.Outcome State Fault Refusal :=
  .next (s.unitMessage u (fun t =>
    let v := t.coinValue u code.toNat
    let t1 := t.setUnit u { t.unit u with coins := (t.unit u).coins + 1 }
    if v = 0 then t1
    else
      match t1.front (unitStation u) with
      | some h => t1.creditCash h u .coin v
      | none => t1.tillOverage v))

/-- What is left of an escrow given up as jammed: a STACKING bill becomes the late-stack record (R112). -/
def Escrow.lateStack (e : Escrow) (old : Option LateStack) : Option LateStack :=
  match e with
  | .stacking code v h _ => some { code := code, value := v, session := some h }
  | _ => old

/-- The session an escrow records. -/
def Escrow.session (e : Escrow) : Option SessionHandle :=
  match e with
  | .none => Option.none
  | .held _ _ h => some h
  | .stacking _ _ h _ => some h
  | .returning _ _ h _ => h

/-- A unit jammed (R114): its jam flag, K5 or K6 with the cause (JAM message 0, SILENCE 1, ESCROW_TIMEOUT 2, ESCROW_BUSY 3), its
gate, the end of its escrow, and the test of money in flight. -/
def State.jamUnit (s : State) (u : Fin 2) (cause : Nat) : State :=
  let s1 := (s.setUnit u { s.unit u with jammed := true }).raiseKioskQuiet (if u = 0 then 5 else 6) (le1 cause)
  let s2 := (s1.closeGate u (some .jam)).giveBackHeld u
  let e := (s2.unit u).escrow
  let s3 := s2.setUnit u { s2.unit u with escrow := .none, late := e.lateStack (s2.unit u).late }
  s3.closingExitOf e.session

/-- The bill has an escrow of its own: tests and HELD, or RETURN (R109). -/
def State.billHeld (s : State) (u : Fin 2) (code : Byte) : State :=
  let v := s.billValue u code.toNat
  match s.testBill u v with
  | .passes h => s.setUnit u { s.unit u with escrow := .held code v h }
  | .overLimit h => (s.returnBill u code v (some h)).raiseCreditLimit h u v
  | .fails => s.returnBill u code v (s.front (unitStation u))

/-- BILL_HELD (R109): it restarts the front session's idle timer; where the escrow is not NONE it is a jam, and RETURN is sent
for the new bill as well (R114). -/
def execBillHeld (u : Fin 2) (code : Byte) (s : State) : Host.Outcome State Fault Refusal :=
  .next (s.unitMessage u (fun t =>
    let t1 := match t.front (unitStation u) with
      | some h => t.touch h.record
      | none => t
    if (t1.unit u).escrow = .none then t1.billHeld u code
    else (t1.jamUnit u 3).send (.giveBack u)))

/-- An escrow moves to NONE, which the Session Manager is told (R111). -/
def State.endEscrow (s : State) (u : Fin 2) : State :=
  let e := (s.unit u).escrow
  (s.setUnit u { s.unit u with escrow := .none }).closingExitOf e.session

/-- A late stack confirmed (R113): credit, a slip, or overage. -/
def State.lateStacked (s : State) (u : Fin 2) (x : LateStack) : State :=
  let s1 := s.setUnit u { s.unit u with late := none }
  match x.session.filter s1.current with
  | some h => s1.creditCash h u .lateBill x.value
  | none =>
    if s1.slipRoom then (s1.tillCashIn x.value).issueSlip x.session x.value .lateBill else s1.tillOverage x.value

/-- A BILL_STACKED by the escrow it finds (R111). -/
def State.stackedBill (s : State) (u : Fin 2) : State :=
  match (s.unit u).escrow with
  | .stacking _ v h _ => (s.creditCash h u .bill v).endEscrow u
  | .held _ v _ => (s.tillOverage v).endEscrow u
  | .returning _ v _ _ => (s.tillOverage v).endEscrow u
  | .none =>
    match (s.unit u).late with
    | some x => s.lateStacked u x
    | none => s

/-- BILL_STACKED (R104, R111, R115): the bill count and the box count rise, the bill is accounted for, the box is evaluated. -/
def execBillStacked (u : Fin 2) (s : State) : Host.Outcome State Fault Refusal :=
  .next (s.unitMessage u (fun t =>
    let x := t.unit u
    let t1 := t.setUnit u { x with bills := x.bills + 1, boxCount := min 65535 (x.boxCount + 1) }
    ((t1.stackedBill u).refreshGate u).evalBox u))

/-- BILL_RETURNED (R111): nothing is credited, and an escrow that is not NONE ends. -/
def execBillReturned (u : Fin 2) (s : State) : Host.Outcome State Fault Refusal :=
  .next (s.unitMessage u (fun t => if (t.unit u).escrow = .none then t else t.endEscrow u))

/-- JAM (R114). -/
def execJam (u : Fin 2) (s : State) : Host.Outcome State Fault Refusal :=
  .next (s.unitMessage u (fun t => t.jamUnit u 0))

/-- BOX_FULL (R115). -/
def execBoxFull (u : Fin 2) (s : State) : Host.Outcome State Fault Refusal :=
  .next (s.unitMessage u (fun t => ((t.setUnit u { t.unit u with fullFlag := true }).refreshGate u).evalBox u))

/-- BOX_OUT (R115). -/
def execBoxOut (u : Fin 2) (s : State) : Host.Outcome State Fault Refusal :=
  .next (s.unitMessage u (fun t => (t.setUnit u { t.unit u with boxIn := false }).refreshGate u))

/-- BOX_IN (R115): in service mode the box has been emptied. -/
def execBoxIn (u : Fin 2) (s : State) : Host.Outcome State Fault Refusal :=
  .next (s.unitMessage u (fun t =>
    let x := t.unit u
    let y := if t.conds.mode = .service then { x with boxIn := true, boxCount := 0, fullFlag := false }
      else { x with boxIn := true }
    ((t.setUnit u y).refreshGate u).evalBox u))

/-- CASH_HEARTBEAT (R103). -/
def execCashHeartbeat (u : Fin 2) (s : State) : Host.Outcome State Fault Refusal :=
  .next (s.unitMessage u id)

/-- CASH_UNIT_SILENCE (R103): 2 s without a message from a unit heard before; the port goes to LOST, which is a jam. -/
def execCashUnitSilence (u : Fin 2) (s : State) : Host.Outcome State Fault Refusal :=
  .next (s.heard (fun t =>
    if (t.unit u).heard ∧ (t.unit u).silent = false then
      (t.setUnit u { t.unit u with silent := true }).jamUnit u 1
    else t))

/-- ESCROW_TIMEOUT (R112): 10 s in STACKING or RETURNING. -/
def execEscrowTimeout (u : Fin 2) (s : State) : Host.Outcome State Fault Refusal :=
  .next (s.heard (fun t =>
    match (t.unit u).escrow with
    | .stacking _ _ _ _ => t.jamUnit u 2
    | .returning _ _ _ _ => t.jamUnit u 2
    | _ => t))

/-! ### The terminal (R118 to R122) -/

/-- A message from the terminal: it restarts the 5 s interval; in ABSENT or LOST it first takes the port to IDLE, with
TERMINAL_LOST (K7) then absent (R118, R122). -/
def State.terminalMessage (s : State) (act : State → State) : State :=
  s.heard (fun t =>
    let t1 := t.setTerminal { t.money.terminal with lastHeard := t.now }
    match t1.money.terminal.state with
    | .absent => act t1.terminalIdle
    | .lost => act (t1.terminalIdle.reportLevelQuiet 7 false)
    | _ => act t1)

/-- The port out of BUSY or CANCELLING, with nothing yet handed out. -/
def State.portIdle (s : State) : State := s.setTerminal { s.money.terminal with state := .idle }

/-- An approval for the amount asked (R120): it is counted in and commits the order. -/
def State.approvedRight (s : State) (a : Auth) : State :=
  let r := a.session.record
  let s1 := s.portIdle.tillCardIn a.amount
  let s2 := s1.setAccount r { s1.account r with cardPaid := (s1.account r).cardPaid + a.amount }
  match s2.order? a.order with
  | none => s2.handTerminal
  | some o =>
    let s3 := (s2.commitOrder a.order o a.amount).orderNotice a.order o.session OrderState.committed.code .approved []
    ((s3.touchHandle o.session).tasksJoined.closingExitOf (some o.session)).handTerminal

/-- An approval for another amount (R120): counted in and returned as a card refund; the order goes back. -/
def State.approvedWrong (s : State) (a : Auth) (amount : Nat) : State :=
  let s1 := (s.portIdle.setLastEnded a).tillCardIn amount
  let s2 := s1.makeRefund
    { session := some a.session, order := some a.order, ref := a.ref, amount := amount, cause := .mismatch }
  (s2.endWithCondition a .mismatch 2).handTerminal

/-- A late approval's card refund record (R122). -/
def State.lateApproval (s : State) (ref : BitVec 16) (session : Option SessionHandle) (order : Option OrderHandle)
    (amount : Nat) (cause : RefundCause) : State :=
  (s.tillCardIn amount).makeRefund { session := session, order := order, ref := ref, amount := amount, cause := cause }

/-- An approval whose reference is not that of an authorisation at the port (R122): late for the last ended one, else stray. -/
def State.otherApproval (s : State) (ref : BitVec 16) (amount : Nat) : State :=
  match s.money.terminal.lastEnded with
  | some e =>
    if e.ref = ref then s.lateApproval ref e.session e.order amount .late else s.lateApproval ref none none amount .stray
  | none => s.lateApproval ref none none amount .stray

/-- The authorisation whose cancel was asked ends without approval at the port (R121), which goes to IDLE; one that had ended
before leaves only the port. -/
def State.cancelEnds (s : State) (a : Option Auth) : State :=
  match a with
  | some a => (((s.portIdle).setLastEnded a).endUnapproved a .cancelled).handTerminal
  | none => s.terminalIdle

/-- An approval by the port's state (R120, R122). -/
def State.approval (s : State) (ref : BitVec 16) (amount : Nat) : State :=
  match s.money.terminal.state with
  | .busy a _ =>
    if a.ref = ref then
      if amount = a.amount then s.approvedRight a else s.approvedWrong a amount
    else s.otherApproval ref amount
  | .cancelling r a _ =>
    if r = ref then
      match a with
      | some a => (s.lateApproval ref (some a.session) (some a.order) amount .late).cancelEnds (some a)
      | none => (s.otherApproval ref amount).cancelEnds none
    else s.otherApproval ref amount
  | _ => s.otherApproval ref amount

/-- APPROVED (R120, R122). The approval code is not kept (log 25). -/
def execApproved (ref : BitVec 16) (amount : BitVec 32) (_approvalCode : List Byte) (s : State) :
    Host.Outcome State Fault Refusal :=
  .next (s.terminalMessage (fun t => t.approval ref amount.toNat))

/-- DECLINED and CANCELLED by the port's state (R120 to R122): for the authorisation in BUSY, a decline; for the one in
CANCELLING, its end; for another reference, ignored. -/
def State.notTaken (s : State) (ref : BitVec 16) : State :=
  match s.money.terminal.state with
  | .busy a _ =>
    if a.ref = ref then ((s.portIdle.setLastEnded a).endWithCondition a .declined 2).handTerminal else s
  | .cancelling r a _ => if r = ref then s.cancelEnds a else s
  | _ => s

/-- DECLINED (R120, R121). The reason is not kept (log 25). -/
def execDeclined (ref : BitVec 16) (_reason : Byte) (s : State) : Host.Outcome State Fault Refusal :=
  .next (s.terminalMessage (fun t => t.notTaken ref))

/-- CANCELLED (R120, R121). -/
def execCancelled (ref : BitVec 16) (s : State) : Host.Outcome State Fault Refusal :=
  .next (s.terminalMessage (fun t => t.notTaken ref))

/-- TERMINAL_HEARTBEAT (R118). -/
def execTerminalHeartbeat (s : State) : Host.Outcome State Fault Refusal :=
  .next (s.terminalMessage id)

/-- The loss of the terminal (R118): the port goes to LOST, TERMINAL_LOST (K7) is present, the authorisation at the port ends,
then every one waiting, each with AUTH_TIMEOUT (S1) unless its cancel was asked. -/
def State.terminalLost (s : State) : State :=
  let t := s.money.terminal
  let s1 := (s.setTerminal { t with state := .lost, waiting := [] }).reportLevelQuiet 7 true
  let s2 := match t.state.outstanding with
    | some a => (s1.setLastEnded a).endWithCondition a .terminalLost 1
    | none => s1
  s2.each t.waiting (fun x a => x.endWithCondition a .terminalLost 1)

/-- TERMINAL_SILENCE (R118): 5 s without a message from a terminal heard before. -/
def execTerminalSilence (s : State) : Host.Outcome State Fault Refusal :=
  .next (s.heard (fun t =>
    match t.money.terminal.state with
    | .absent => t
    | .lost => t
    | _ => t.terminalLost))

/-- AUTH_LIMIT (R120): 90 s in BUSY; CANCEL is sent, the port stays in CANCELLING, and the authorisation ends. -/
def execAuthLimit (s : State) : Host.Outcome State Fault Refusal :=
  .next (s.heard (fun t =>
    match t.money.terminal.state with
    | .busy a _ =>
      let t1 := (t.setTerminal { t.money.terminal with state := .cancelling a.ref none t.now }).send (.cancelAuth a.ref)
      (t1.setLastEnded a).endWithCondition a .timeout 1
    | _ => t))

/-- CANCEL_LIMIT (R120, R121): 10 s in CANCELLING. -/
def execCancelLimit (s : State) : Host.Outcome State Fault Refusal :=
  .next (s.heard (fun t =>
    match t.money.terminal.state with
    | .cancelling _ a _ => t.cancelEnds a
    | _ => t))

end Sys2Proof.Machine
end

