-- ==== Sys2Proof/Machine/SpoolUnit.lean ====
section
/-! DEFINITION. The Spool Unit's commands (07). -/

namespace Sys2Proof.Machine

/-! ### RASTER_OPEN (R132) -/

/-- A raster record just made. -/
def Raster.opened (h : OrderHandle) (k : Fin 16) (z : Size) (blocks : List Nat) (session : SessionHandle) : Raster :=
  { order := h, line := k, size := z, blocks := blocks, written := 0, accepted := 0, complete := false,
    charged := some session }

/-- RASTER_OPEN past its checks: the blocks leave the head of the free list for the new record, the line becomes WRITING, and
SPOOL_PRESSURE is evaluated. -/
def State.openRaster (s : State) (h : OrderHandle) (k : Fin 16) (z : Size) (session : SessionHandle) : State :=
  let x := Raster.opened h k z (s.spool.free.take z.blocks) session
  let s1 := s.setSpool { s.spool with free := s.spool.free.drop z.blocks, rasters := s.spool.rasters ++ [x] }
  (s1.setLineRaster h k .writing).evalPressure

/-- The line an index byte names: BAD_VALUE beyond 15, NO_LINE where the index is not in use. -/
def Order.rasterLine (o : Order) (p : List Byte) (k : Nat) : Except Status (Fin 16 × Line) :=
  match fin? 16 (byteAt p k) with
  | none => .error .badValue
  | some i =>
    match o.lines.get i with
    | none => .error .noLine
    | some l => .ok (i, l)

/-- RASTER_OPEN (R132). -/
def execRasterOpen (tag : Byte) (s : State) : Host.Outcome State Fault Refusal :=
  .next (s.take .rasterOpen tag (fun t p =>
    t.withOrder .rasterOpen tag p 0 (fun t h o =>
      t.checked tag [(o.editable, .badState)]
        (match o.rasterLine p 2 with
          | .error e => t.refuse tag e
          | .ok (k, l) =>
            t.checked tag
              [(decide (l.raster ≠ .writing ∧ l.raster ≠ .complete), .rasterExists),
               (decide (l.raster ≠ .orphaned), .orphanLine),
               (decide (l.size.blocks ≤ t.spool.free.length), .noSpool),
               (decide (t.shareOf o.session + l.size.blocks ≤ t.spoolShare), .shareExceeded)]
              (let t1 := t.openRaster h k l.size o.session
               t1.ok tag (le4 l.size.rasterBytes ++ le1 l.size.blocks ++ le2 t1.spool.free.length ++
                 le2 (t1.shareOf o.session)))))))

/-! ### RASTER_DATA (R133) and WRITE_END (R134) -/

/-- RASTER_DATA past its checks: the write joins the queue, and a port that is idle is granted. -/
def State.acceptWrite (s : State) (tag : Byte) (x : Raster) (data : List Byte) : State :=
  let w : Write := { tag := tag, order := x.order, line := x.line, offset := x.accepted, data := data }
  let s1 := s.updateRaster x.order x.line (fun y => { y with accepted := y.accepted + data.length })
  (s1.setSpool { s1.spool with writes := s1.spool.writes ++ [w] }).grantSpool

/-- RASTER_DATA (R133). -/
def execRasterData (tag : Byte) (s : State) : Host.Outcome State Fault Refusal :=
  .next (s.take .rasterData tag (fun t p =>
    let data := p.drop 7
    t.checked tag [(decide (data.length ≤ Config.maxRasterData), .badValue)]
      (t.withOrder .rasterData tag p 0 (fun t h o =>
        t.checked tag [(o.editable, .badState)]
          (match o.rasterLine p 2 with
            | .error e => t.refuse tag e
            | .ok (k, _) =>
              match t.raster? h k with
              | none => t.refuse tag .noRaster
              | some x =>
                t.checked tag
                  [(decide (num4At p 3 = x.accepted), .badOffset),
                   (decide (x.accepted + data.length ≤ x.length), .badRange)]
                  (t.acceptWrite tag x data))))))

/-- A raster record after `n` more bytes are written: COMPLETE at the last byte (R134). -/
def Raster.grown (x : Raster) (n : Nat) : Raster :=
  { x with written := x.written + n, complete := x.complete || decide (x.written + n = x.length) }

/-- The write being served ends (R134): its bytes are stored at their places, bytes written rises, the record and the line
become COMPLETE at the last byte, the reply is given, and the port is granted anew. -/
def State.writeEnds (s : State) : State :=
  match s.spool.granted, s.spool.writes with
  | some .writer, w :: rest =>
    let s1 := s.setSpool { s.spool with writes := rest, granted := none }
    match s1.raster? w.order w.line with
    | none => s1.grantSpool
    | some x =>
      let y := x.grown w.data.length
      let s2 := s1.updateRaster w.order w.line (fun z => z.grown w.data.length)
      let s3 := s2.setSpool { s2.spool with mem := Memory.storeRaster s1.spool.mem x.blocks w.offset w.data }
      let s4 := if y.complete then s3.setLineRaster w.order w.line .complete else s3
      (s4.ok w.tag (le4 y.written ++ le1 y.state.code)).grantSpool
  | _, _ => s

/-- WRITE_END (R134): none while the port does not serve the writer. -/
def execWriteEnd (s : State) : Host.Outcome State Fault Refusal :=
  .next s.writeEnds

/-! ### RASTER_ABORT (R135) -/

/-- RASTER_ABORT past its checks. -/
def State.abortRaster (s : State) (h : OrderHandle) (k : Fin 16) (image : CatHandle) : State :=
  let s1 := s.freeRaster h k
  s1.setLineRaster h k (s1.afterFreeing image)

/-- RASTER_ABORT (R135). -/
def execRasterAbort (tag : Byte) (s : State) : Host.Outcome State Fault Refusal :=
  .next (s.take .rasterAbort tag (fun t p =>
    t.withOrder .rasterAbort tag p 0 (fun t h o =>
      t.checked tag [(o.editable, .badState)]
        (match o.rasterLine p 2 with
          | .error e => t.refuse tag e
          | .ok (k, l) =>
            match t.raster? h k with
            | none => t.refuse tag .noRaster
            | some _ =>
              let t1 := t.abortRaster h k l.image
              t1.ok tag (le2 t1.spool.free.length)))))

/-! ### RASTER_QUERY and SPOOL_QUERY (R139) -/

/-- The fields of the RASTER_QUERY reply. -/
def Raster.fields (x : Raster) : List Byte :=
  le1 x.size.code ++ le4 x.length ++ le1 x.blocks.length ++ le4 x.written ++ le4 x.accepted ++ le1 x.state.code ++
    flagByte x.charged.isSome

/-- RASTER_QUERY (R139). -/
def execRasterQuery (tag : Byte) (s : State) : Host.Outcome State Fault Refusal :=
  .next (s.take .rasterQuery tag (fun t p =>
    t.withAnyOrder tag p 0 (fun t h o =>
      match o.rasterLine p 2 with
      | .error e => t.refuse tag e
      | .ok (k, _) =>
        match t.raster? h k with
        | none => t.refuse tag .noRaster
        | some x => t.ok tag x.fields)))

/-- The sessions with records charged to them, in record order. -/
def State.chargedSessions (s : State) : List SessionHandle :=
  ((allFin 8).map s.handleOf).filter (fun h => s.spool.rasters.any (fun x => x.charged = some h))

/-- A reader in a SPOOL_QUERY reply. -/
def Reader.fields (x : Reader) : List Byte :=
  optField 7 (fun (j : OrderHandle × Fin 16) => j.1.bytes ++ le1 j.2.val ++ le4 x.next) x.job

/-- The fields of the SPOOL_QUERY reply. SPOOL_SHARE and SPOOL_RESERVE take 2 bytes each (log 42). -/
def State.spoolFields (s : State) : List Byte :=
  le2 s.spool.free.length ++ le2 ((s.spool.rasters.map (fun x => x.blocks.length)).sum) ++
    le2 s.spool.rasters.length ++ le1 s.spool.writes.length ++
    le2 s.spoolShare ++ le2 s.spoolReserve ++ flagByte (s.conds.kiosk.bits.getLsbD 13) ++
    le1 s.chargedSessions.length ++ s.chargedSessions.flatMap (fun h => h.bytes ++ le2 (s.shareOf h)) ++
    (allFin 3).flatMap (fun p => (s.reader p).fields)

/-- SPOOL_QUERY (R139). -/
def execSpoolQuery (tag : Byte) (s : State) : Host.Outcome State Fault Refusal :=
  .next (s.take .spoolQuery tag (fun t _ => t.ok tag t.spoolFields))

/-! ### Read transfers (R137, R150) -/

/-- The end of a read transfer: its bytes go down the printer link, its reader's next offset passes them (log 43), and the port is
granted anew. -/
def State.readTransferEnds (s : State) (p : Fin 3) : State :=
  let x := s.reader p
  match s.spool.granted, x.job with
  | some (.reader q), some (h, k) =>
    if q = p then
      match s.raster? h k with
      | none => s
      | some y =>
        let n := min Config.transferBytes (y.length - x.next)
        let s1 := s.send (.raster p (s.spool.mem.readRaster y.blocks x.next n))
        let s2 := s1.setReader p { x with next := x.next + n, asks := false, untaken := n }
        (s2.setSpool { s2.spool with granted := none }).grantSpool
    else s
  | _, _ => s

/-- READ_TRANSFER_END (R137): none while the port does not serve that reader. -/
def execReadTransferEnd (p : Fin 3) (s : State) : Host.Outcome State Fault Refusal :=
  .next (s.readTransferEnds p)

/-- The printer link takes bytes (R150): the feed limit restarts; when all of a transfer are taken the reader asks for its next
one, or, at the end of the raster, END is sent, the reader stops and the port goes to PRINTING with its print limit. -/
def State.bytesTaken (s : State) (p : Fin 3) (count : Nat) : State :=
  let x := s.reader p
  let n := min count x.untaken
  match x.job with
  | none => s
  | some (h, k) =>
    if (s.port p).state ≠ .feeding ∨ n = 0 then s
    else
      let s1 := s.setPort p { s.port p with limitSince := s.now }
      if n < x.untaken then s1.setReader p { x with untaken := x.untaken - n }
      else
        let length := ((s.raster? h k).map Raster.length).getD 0
        if length ≤ x.next then
          let s2 := (s1.send (.rasterEnd p)).stopReader p
          s2.setPort p { s2.port p with state := .printing }
        else (s1.setReader p { x with untaken := 0, asks := true }).grantSpool

/-- RASTER_BYTES_TAKEN (R150): a count above the bytes on the link takes those there are (log 31). -/
def execRasterBytesTaken (p : Fin 3) (count : Nat) (s : State) : Host.Outcome State Fault Refusal :=
  .next (s.bytesTaken p count)

end Sys2Proof.Machine
end

