-- ==== Sys2Proof/Machine/PrintDispatcher.lean ====
section
/-! DEFINITION. The Print Dispatcher's commands (08). -/

namespace Sys2Proof.Machine

/-! ### STATUS_REPORT (R144 to R147) -/

def errorReason : ErrorReason → Reason
  | .jam => .jam
  | .mediaOut => .mediaOut
  | .ribbonOut => .ribbonOut
  | .headFault => .headFault

def failReason : FailReason → Reason
  | .jam => .jam
  | .mediaOut => .mediaOut
  | .ribbonOut => .ribbonOut
  | .headFault => .headFault
  | .dataError => .dataError

/-- A good frame at the link error counter: it falls by one, in every state but ABSENT (R144). -/
def State.goodFrame (s : State) (p : Fin 3) : State :=
  let x := s.port p
  if x.state = .absent then s else s.setPort p { x with errors := x.errors - 1 }

/-- The state a port that may be READY takes, with its take (R148). -/
def State.enterReady (s : State) (p : Fin 3) (cause : PrinterCause) : State :=
  (s.movePort p (s.port p).readyOrHeld none cause).takeOnEntry p

/-- The first good STATUS of a port in ABSENT (R145). -/
def State.firstStatus (s : State) (p : Fin 3) (report : PrinterReport) (kind : MediaKind) : State :=
  let s1 := s.setPort p { s.port p with kind := some kind }
  match report with
  | .ready => s1.enterReady p .status
  | .busy => s1.movePort p .cooling none .status
  | .cooling => s1.movePort p .cooling none .status
  | .error r => s1.movePort p .fault (some (errorReason r)) .status

/-- A report with the recorded kind in OFFLINE (R146). -/
def State.recovering (s : State) (p : Fin 3) (report : PrinterReport) : State :=
  let x := s.port p
  if report = .ready ∧ x.errors = 0 then
    if x.run + 1 = 3 then (s.setPort p { x with run := 0 }).enterReady p .recovered
    else s.setPort p { x with run := x.run + 1 }
  else s.setPort p { x with run := 0 }

/-- A report with the recorded kind, by the state of the port (R145). -/
def State.statusActs (s : State) (p : Fin 3) (report : PrinterReport) : State :=
  match (s.port p).state, report with
  | .ready, .busy => s.movePort p .cooling none .status
  | .ready, .cooling => s.movePort p .cooling none .status
  | .ready, .error r => s.movePort p .fault (some (errorReason r)) .status
  | .feeding, .error r => s.attemptFails p (errorReason r)
  | .printing, .error r => s.attemptFails p (errorReason r)
  | .cooling, .ready => s.enterReady p .status
  | .cooling, .error r => s.movePort p .fault (some (errorReason r)) .status
  | .held, .error r => s.movePort p .fault (some (errorReason r)) .status
  | .offline, _ => s.recovering p report
  | _, _ => s

/-- A report with another kind than the recorded one (R147). -/
def State.kindDiffers (s : State) (p : Fin 3) : State :=
  match (s.port p).state with
  | .feeding => s.attemptFails p .mediaMismatch
  | .printing => s.attemptFails p .mediaMismatch
  | _ => (s.setPort p { s.port p with run := 0 }).movePort p .fault (some .mediaMismatch) .status

/-- A good STATUS (R144 to R147): the counter, the silence interval, the last status, the comparison of the kind, the state. -/
def State.statusReport (s : State) (p : Fin 3) (report : PrinterReport) (kind : MediaKind) : State :=
  let s1 := s.goodFrame p
  let x := s1.port p
  let s2 := s1.setPort p { x with heardAt := s.now, last := some (report, kind) }
  let s3 := match x.state, x.kind with
    | .absent, _ => s2.firstStatus p report kind
    | .fault, _ => s2
    | _, some k => if k = kind then s2.statusActs p report else s2.kindDiffers p
    | _, none => (s2.setPort p { s2.port p with kind := some kind }).statusActs p report
  s3.evalPrints

/-- STATUS_REPORT (R145). -/
def execStatusReport (p : Fin 3) (report : PrinterReport) (kind : MediaKind) (s : State) :
    Host.Outcome State Fault Refusal :=
  .next (s.heard (fun t => t.statusReport p report kind))

/-! ### Outcomes (R143, R151, R152) -/

/-- A DONE for the port's attempt (R151): delivered in PRINTING, failed with DATA_ERROR in FEEDING. -/
def State.attemptDone (s : State) (p : Fin 3) (a : Attempt) : State :=
  match (s.port p).state with
  | .printing =>
    let s1 := (s.setPort p { s.port p with attempt := none }).copyDelivered p a
    (s1.movePort p .cooling none .done).evalPrints
  | .feeding => s.attemptFails p .dataError
  | _ => s

/-- The port's attempt where its copy id is the one given (R143). -/
def State.attemptWith (s : State) (p : Fin 3) (id : BitVec 16) : Option Attempt :=
  (s.port p).attempt.filter (fun a => a.copyId = id)

/-- DONE (R151): another copy id moves the counter alone (R143, R144). -/
def execDone (p : Fin 3) (id : BitVec 16) (s : State) : Host.Outcome State Fault Refusal :=
  .next (s.heard (fun t =>
    let t1 := t.goodFrame p
    match t1.attemptWith p id with
    | some a => t1.attemptDone p a
    | none => t1))

/-- FAIL (R152): another copy id moves the counter alone (R143, R144). -/
def execFail (p : Fin 3) (id : BitVec 16) (reason : FailReason) (s : State) : Host.Outcome State Fault Refusal :=
  .next (s.heard (fun t =>
    let t1 := t.goodFrame p
    match t1.attemptWith p id with
    | some _ => t1.attemptFails p (failReason reason)
    | none => t1))

/-- PRINTER_CORRUPT_FRAME (R144, R146): the counter rises by one, up to 255; above PRN_ERR_LIMIT the port goes OFFLINE; in
OFFLINE the recovery run becomes 0. -/
def State.corruptFrame (s : State) (p : Fin 3) : State :=
  let x := s.port p
  match x.state with
  | .absent => s
  | .offline => s.setPort p { x with errors := min 255 (x.errors + 1), run := 0 }
  | _ =>
    let s1 := s.setPort p { x with errors := min 255 (x.errors + 1) }
    if s.prnErrLimit < min 255 (x.errors + 1) then s1.goOffline p .errors else s1

def execPrinterCorruptFrame (p : Fin 3) (s : State) : Host.Outcome State Fault Refusal :=
  .next (s.heard (fun t => t.corruptFrame p))

/-- PRINTER_SILENCE (R146): 3 s without a good STATUS. -/
def execPrinterSilence (p : Fin 3) (s : State) : Host.Outcome State Fault Refusal :=
  .next (s.heard (fun t => t.goOffline p .silence))

/-- FEED_LIMIT (R150): 30 s in FEEDING without a byte taken. -/
def execFeedLimit (p : Fin 3) (s : State) : Host.Outcome State Fault Refusal :=
  .next (s.heard (fun t => if (t.port p).state = .feeding then t.attemptFails p .timeout else t))

/-- PRINT_LIMIT (R152): 120 s in PRINTING without DONE. -/
def execPrintLimit (p : Fin 3) (s : State) : Host.Outcome State Fault Refusal :=
  .next (s.heard (fun t => if (t.port p).state = .printing then t.attemptFails p .timeout else t))

/-! ### Attendant requests (R154, R155) -/

/-- The service-mode check and the port of PRINTER_HOLD and PRINTER_RELEASE. -/
def State.onPort (s : State) (tag : Byte) (p : List Byte) (act : State → Fin 3 → State) : State :=
  s.checked tag [(decide (s.conds.mode = .service), .notService)]
    (match fin? 3 (byteAt p 0) with
      | none => s.refuse tag .badValue
      | some n => act s n)

def State.portReply (s : State) (tag : Byte) (n : Fin 3) : State :=
  s.ok tag (le1 (s.port n).state.code ++ flagByte (s.port n).hold)

/-- The hold flag set; READY and COOLING go to HELD at once (R154), a COOLING port also where the flag was set before (log 44). -/
def State.holdPort (s : State) (n : Fin 3) : State :=
  let s1 := s.setPort n { s.port n with hold := true }
  match (s.port n).state with
  | .ready => (s1.movePort n .held none .hold).evalPrints
  | .cooling => (s1.movePort n .held none .hold).evalPrints
  | _ => s1

/-- PRINTER_HOLD (R154). -/
def execPrinterHold (tag : Byte) (s : State) : Host.Outcome State Fault Refusal :=
  .next (s.take .printerHold tag (fun t p => t.onPort tag p (fun t n => (t.holdPort n).portReply tag n)))

/-- The hold flag cleared; HELD goes to COOLING. -/
def State.releasePort (s : State) (n : Fin 3) : State :=
  let s1 := s.setPort n { s.port n with hold := false }
  match (s.port n).state with
  | .held => (s1.movePort n .cooling none .release).evalPrints
  | _ => s1

/-- PRINTER_RELEASE (R154). -/
def execPrinterRelease (tag : Byte) (s : State) : Host.Outcome State Fault Refusal :=
  .next (s.take .printerRelease tag (fun t p => t.onPort tag p (fun t n => (t.releasePort n).portReply tag n)))

/-- A roll declared at a port (R155). -/
def State.loadMedia (s : State) (n : Fin 3) (kind : MediaKind) (units : Nat) : State :=
  let x := s.port n
  let s1 := s.setPort n { x with kind := some kind, units := units }
  let s2 := if x.state = .fault then s1.movePort n (if x.hold then .held else .cooling) none .mediaLoaded else s1
  (s2.takeOnEntry n).evalPrints

/-- MEDIA_LOADED (R155). -/
def execMediaLoaded (tag : Byte) (s : State) : Host.Outcome State Fault Refusal :=
  .next (s.take .mediaLoaded tag (fun t p =>
    t.checked tag [(decide (t.conds.mode = .service), .notService), (decide (num2At p 2 ≤ 9999), .badValue)]
      (match fin? 3 (byteAt p 0), kindAt p 1 with
        | some n, some kind =>
          let st := (t.port n).state
          t.checked tag
            [(decide (st ≠ .absent), .badState), (decide (st ≠ .feeding ∧ st ≠ .printing), .badState)]
            (let t1 := t.loadMedia n kind (num2At p 2)
             t1.ok tag (le1 (t1.port n).state.code ++ le1 (kindCode kind) ++ le2 (t1.port n).units))
        | _, _ => t.refuse tag .badValue)))

/-! ### Queries (R157) -/

/-- The last status: the state READY 0, BUSY 1, COOLING 2, ERROR 3, its reason where it has one, the kind. -/
def lastStatusBytes : PrinterReport × MediaKind → List Byte
  | (.ready, k) => le1 0 ++ optField 1 le1 none ++ le1 (kindCode k)
  | (.busy, k) => le1 1 ++ optField 1 le1 none ++ le1 (kindCode k)
  | (.cooling, k) => le1 2 ++ optField 1 le1 none ++ le1 (kindCode k)
  | (.error r, k) => le1 3 ++ optField 1 le1 (some (errorReason r).code) ++ le1 (kindCode k)

/-- The remaining time of the print or feed limit while an attempt runs. -/
def State.limitLeft (s : State) (p : Fin 3) : Option Nat :=
  let x := s.port p
  match x.state with
  | .feeding => some (Config.feedLimit - (s.now - x.limitSince))
  | .printing => some (Config.printLimit - (s.now - x.limitSince))
  | _ => none

/-- The fields of the PRINTER_QUERY reply, in the order of the port record (8.2). -/
def State.portFields (s : State) (p : Fin 3) : List Byte :=
  let x := s.port p
  le1 x.state.code ++ optField 1 (fun r => le1 r.code) x.fault ++ optField 1 (fun k => le1 (kindCode k)) x.kind ++
    le2 x.units ++ le1 x.errors ++ flagByte x.hold ++
    optField 1 le1 (if x.state = .offline then some x.run else none) ++
    optField 7 (fun a => le2 a.copyId.toNat ++ a.order.bytes ++ le1 a.line.val ++ le1 (attemptCode a.second) ++
      le1 a.need) x.attempt ++
    optField 4 lastStatusBytes x.last ++ optField 4 le4 (s.limitLeft p)

/-- PRINTER_QUERY (R157). -/
def execPrinterQuery (tag : Byte) (s : State) : Host.Outcome State Fault Refusal :=
  .next (s.take .printerQuery tag (fun t p =>
    match fin? 3 (byteAt p 0) with
    | none => t.refuse tag .badValue
    | some n => t.ok tag (t.portFields n)))

/-- A task in a PRINT_QUEUE_QUERY reply. -/
def State.taskFields (s : State) (x : Task) : List Byte :=
  match s.taskLine x with
  | none => []
  | some (o, l) =>
    x.order.bytes ++ le1 x.line.val ++ le1 l.size.code ++ le1 l.finish.code ++ le1 l.size.need ++
      le1 l.copies.queued ++ le1 l.copies.retryPending ++ le1 l.copies.inFlight ++ le1 l.copies.delivered ++
      le1 l.copies.finalFailed ++ flagByte o.cancel

/-- PRINT_QUEUE_QUERY (R157). -/
def execPrintQueueQuery (tag : Byte) (s : State) : Host.Outcome State Fault Refusal :=
  .next (s.take .printQueueQuery tag (fun t p =>
    let count := byteAt p 1
    t.checked tag [(decide (1 ≤ count ∧ count ≤ 32), .badValue)]
      (let tasks := (t.prints.queue.drop (byteAt p 0)).take count
       t.ok tag (le2 t.prints.queue.length ++ le1 tasks.length ++ tasks.flatMap t.taskFields))))

end Sys2Proof.Machine
end

