-- ==== Sys2Proof/Machine/ConditionUnit.lean ====
section
/-! DEFINITION. The Condition Unit's commands (09) and the presence input (R182). -/

namespace Sys2Proof.Machine

/-! ### The sampled inputs (R162, R163, R182) -/

/-- The mode changed, with the resolution of every set bit (R163). -/
def State.changeMode (s : State) (m : Mode) : State :=
  if s.conds.mode = m then s else (s.setConds { s.conds with mode := m }).resolveSets .mode

/-- A sample of the door switch. A confirmed opening sets K1 and is the wake cause DOOR; a confirmed closing clears K1 first and
then returns the mode to CUSTOMER. -/
def State.doorSample (s : State) (isOpen : Bool) : State :=
  let (x, confirmed) := s.conds.door.reading isOpen
  let s1 := s.setConds { s.conds with door := x }
  if confirmed = false then s1
  else if isOpen then (s1.reportLevel 1 true).wakeCause .door
  else (s1.reportLevel 1 false).changeMode .customer

/-- DOOR_SAMPLE (R162). -/
def execDoorSample (isOpen : Bool) (s : State) : Host.Outcome State Fault Refusal :=
  .next (s.heard (fun t => t.doorSample isOpen))

/-- A sample of the supply-fault input. -/
def State.supplySample (s : State) (fault : Bool) : State :=
  let (x, confirmed) := s.conds.supply.reading fault
  let s1 := s.setConds { s.conds with supply := x }
  if confirmed then s1.reportLevel 0 fault else s1

/-- SUPPLY_SAMPLE (R162). -/
def execSupplySample (fault : Bool) (s : State) : Host.Outcome State Fault Refusal :=
  .next (s.heard (fun t => t.supplySample fault))

/-- A sample of the presence input. -/
def State.presenceSample (s : State) (asserted : Bool) : State :=
  let (x, confirmed) := s.power.presence.reading asserted
  let s1 := s.setPower { s.power with presence := x }
  if confirmed && asserted then s1.wakeCause .presence else s1

/-- PRESENCE_SAMPLE (R182). -/
def execPresenceSample (asserted : Bool) (s : State) : Host.Outcome State Fault Refusal :=
  .next (s.heard (fun t => t.presenceSample asserted))

/-! ### SET_MODE (R163) -/

/-- SET_MODE (R163): SERVICE from CUSTOMER needs the door confirmed open. -/
def execSetMode (tag : Byte) (s : State) : Host.Outcome State Fault Refusal :=
  .next (s.take .setMode tag (fun t p =>
    match modeAt p 0 with
    | none => t.refuse tag .badValue
    | some m =>
      t.checked tag
        [(decide (m = .customer ∨ t.conds.mode = .service) || t.conds.door.confirmed, .doorClosed)]
        (let t1 := t.changeMode m
         t1.ok tag (le1 t1.conds.mode.code ++ t1.serviceByte))))

/-! ### CONDITION_CLEAR (R169) -/

/-- The bits of a set that a clear names and that are set event bits. -/
def CondSet.clearable {n : Nat} (c : CondSet n) (level : Fin n → Bool) (named : BitVec n) : List (Fin n) :=
  (allFin n).filter (fun i => named.getLsbD i.val && c.bits.getLsbD i.val && !level i)

/-- What the clearing of a kiosk bit reaches at the Money Unit: the jam flag of K5 and K6, the error count of K12. -/
def State.clearReaches (s : State) (i : Fin 16) : State :=
  match i.val with
  | 5 => s.setUnit 0 { s.unit 0 with jammed := false }
  | 6 => s.setUnit 1 { s.unit 1 with jammed := false }
  | 12 => s.setChallenge { s.money.challenge with errors := 0 }
  | _ => s

/-- CONDITION_CLEAR of the kiosk scope. -/
def State.clearKiosk (s : State) (tag : Byte) (named : BitVec 16) : State :=
  let gone := s.conds.kiosk.clearable kioskLevel named
  let s1 := s.setKioskSet (gone.foldl CondSet.unset s.conds.kiosk)
  let s2 := s1.each gone State.clearReaches
  s2.ok tag (le2 (bitsOf (fun i : Fin 16 => gone.contains i)).toNat ++ le2 s2.conds.kiosk.bits.toNat)

/-- CONDITION_CLEAR of a session's scope. -/
def State.clearSession (s : State) (tag : Byte) (r : Fin 8) (named : BitVec 8) : State :=
  let gone := (s.sessionSet r).clearable (fun _ => false) named
  let s1 := s.setSessionSet r (gone.foldl CondSet.unset (s.sessionSet r))
  s1.ok tag (le1 (bitsOf (fun i : Fin 8 => gone.contains i)).toNat ++ le1 (s1.sessionSet r).bits.toNat)

/-- CONDITION_CLEAR (R169). -/
def execConditionClear (tag : Byte) (s : State) : Host.Outcome State Fault Refusal :=
  .next (s.take .conditionClear tag (fun t p =>
    match scopeAt p 0 with
    | none => t.refuse tag .badValue
    | some false =>
      t.checked tag [(decide (t.conds.mode = .service), .notService)] (t.clearKiosk tag (BitVec.ofNat 16 (num2At p 3)))
    | some true =>
      t.withSession .conditionClear tag p 1 (fun t h => t.clearSession tag h.record (BitVec.ofNat 8 (byteAt p 3)))))

/-! ### MASK_SET (R170) -/

/-- The set bits of a set whose flag a new mask changes. -/
def CondSet.remasked {n : Nat} (c : CondSet n) (mask : BitVec n) : List (Fin n) :=
  (allFin n).filter (fun i => c.bits.getLsbD i.val && (c.mask.getLsbD i.val != mask.getLsbD i.val))

/-- MASK_SET of the kiosk scope. -/
def State.maskKiosk (s : State) (tag : Byte) (mask : BitVec 16) : State :=
  let s1 := s.setKioskSet { s.conds.kiosk with mask := mask }
  let s2 := s1.each (s.conds.kiosk.remasked mask) (State.resolveKiosk State.lockout .mask)
  s2.ok tag (le2 mask.toNat ++ actionList s2.conds.kiosk.bits s2.kioskResolved)

/-- MASK_SET of a session's scope. -/
def State.maskSession (s : State) (tag : Byte) (r : Fin 8) (mask : BitVec 8) : State :=
  let s1 := s.setSessionSet r { s.sessionSet r with mask := mask }
  let s2 := s1.each ((s.sessionSet r).remasked mask) (State.resolveSession State.suspend .mask r)
  s2.ok tag (le1 mask.toNat ++ actionList (s2.sessionSet r).bits (s2.sessionResolved r))

/-- MASK_SET (R170). -/
def execMaskSet (tag : Byte) (s : State) : Host.Outcome State Fault Refusal :=
  .next (s.take .maskSet tag (fun t p =>
    match scopeAt p 0 with
    | none => t.refuse tag .badValue
    | some false =>
      t.checked tag [(decide (t.conds.mode = .service), .notService)] (t.maskKiosk tag (BitVec.ofNat 16 (num2At p 3)))
    | some true =>
      t.withSession .maskSet tag p 1 (fun t h => t.maskSession tag h.record (BitVec.ofNat 8 (byteAt p 3)))))

/-! ### SERVICE_RESTORE (R171) -/

/-- Some set kiosk bit resolves to LOCKOUT. -/
def State.lockoutPending (s : State) : Bool := (allFin 16).any (fun i => s.kioskResolved i = .lockout)

/-- Every recorded action unset. -/
def CondSet.forget {n : Nat} (c : CondSet n) : CondSet n := { c with recorded := Vector.replicate n .unset }

/-- SERVICE_RESTORE past its check. -/
def State.restoreService (s : State) : State :=
  (s.setConds { s.conds with
    inService := true, kiosk := s.conds.kiosk.forget, sessions := s.conds.sessions.map CondSet.forget }).resolveSets .restore

/-- SERVICE_RESTORE (R171). -/
def execServiceRestore (tag : Byte) (s : State) : Host.Outcome State Fault Refusal :=
  .next (s.take .serviceRestore tag (fun t _ =>
    t.checked tag [(!t.lockoutPending, .conditionPending)]
      (let t1 := t.restoreService
       t1.ok tag t1.serviceByte)))

/-! ### CONDITION_QUERY (R172) -/

/-- The set kiosk bits, each with its number, its source kind (level 0, event 1) and its resolved action, after their count. -/
def State.kioskList (s : State) : List Byte :=
  let set := (allFin 16).filter (fun i => s.conds.kiosk.bits.getLsbD i.val)
  le1 set.length ++ set.flatMap (fun i =>
    le1 i.val ++ le1 (if kioskLevel i then 0 else 1) ++ le1 (s.kioskResolved i).code)

/-- The session records in use. -/
def State.recordsInUse (s : State) : List (Fin 8) := (allFin 8).filter (fun r => (s.record r).state ≠ .idle)

/-- The fields of the CONDITION_QUERY reply. The door, the supply and ATTN are flags (log 37); the causes of the level bits are one K set
(log 45). -/
def State.conditionFields (s : State) : List Byte :=
  let k := s.conds.kiosk
  le1 s.conds.mode.code ++ s.serviceByte ++ flagByte s.conds.door.confirmed ++ flagByte s.conds.supply.confirmed ++
    le2 k.bits.toNat ++ le2 k.mask.toNat ++ s.kioskList ++
    le2 (bitsOf (fun i : Fin 16 => kioskLevel i && k.bits.getLsbD i.val)).toNat ++
    le1 s.recordsInUse.length ++ s.recordsInUse.flatMap (fun r =>
      (s.handleOf r).bytes ++ le1 (s.sessionSet r).bits.toNat ++ le1 (s.sessionSet r).mask.toNat ++
        actionList (s.sessionSet r).bits (s.sessionResolved r)) ++
    flagByte s.attn ++ le1 s.power.latches.toNat ++ le2 s.defaultKioskMask.toNat ++ le1 s.defaultSessionMask.toNat

/-- CONDITION_QUERY (R172). -/
def execConditionQuery (tag : Byte) (s : State) : Host.Outcome State Fault Refusal :=
  .next (s.take .conditionQuery tag (fun t _ => t.ok tag t.conditionFields))

end Sys2Proof.Machine
end

