-- ==== Sys2Proof/Machine/SettingOps.lean ====
section
/-! DEFINITION. Settings (10.1, 10.2, 11.2): the kinds and ranges of their values, the image of the store and its load, and what
a change of the working copy reaches (R176, R180). -/

namespace Sys2Proof.Machine

/-! ### Kinds and ranges -/

/-- An enumerated value of `n` names, a number of a range, or a set of `w` bits. -/
inductive SettingKind where
  | names (n : Nat)
  | range (lo hi : Nat)
  | bits (w : Nat)
  deriving DecidableEq, Repr

/-- A value carried in 4 bytes brought into its kind: bits above a set's width are ignored (11.2), a number outside its range goes
to the nearer end (R176, R180). -/
def SettingKind.clamp (k : SettingKind) (v : Nat) : Nat :=
  match k with
  | .names n => min v (n - 1)
  | .range lo hi => max lo (min hi v)
  | .bits w => v % 2 ^ w

/-- The kind of a price table setting, by its number in A2 (5.5, R176); the revision, 37, is not among them. -/
def priceKind (n : Nat) : Option SettingKind :=
  if n < 16 then some (if n % 4 = 0 then .range 1 1 else .range 0 999)
  else if n < 32 then some (.range 0 65535)
  else if n < 35 then some (.range 0 9999)
  else if n = 35 then some (.range 0 3000)
  else if n = 36 then some (.range 100 9999999)
  else none

/-- The kind of a setting of another area, by its numbers (11.2). -/
def settingKind (area n : Nat) : Option SettingKind :=
  match area with
  | 0 => if n = 0 then some (.range 30 1800) else none
  | 1 =>
    if n < 4 then some (.names 2)
    else if n < 8 then some (.names 4)
    else if n = 8 then some (.range 1 255)
    else if n = 9 then some (.range 1024 1048576)
    else if n = 10 then some (.range 1048576 268435456)
    else if n = 11 then some (.range 32 2048)
    else none
  | 3 =>
    if n < 64 then some (.range 0 1000000)
    else if n = 64 then some (.range 100 1000000)
    else if n = 65 then some (.range 50 2000)
    else none
  | 4 => if n = 0 then some (.range 1 254) else if n = 1 then some (.range 0 9999) else none
  | 5 => if n = 0 then some (.bits 16) else if n = 1 then some (.bits 8) else if n = 2 then some (.bits 3) else none
  | 6 => if n = 0 then some (.range 64 1024) else if n = 1 then some (.range 0 512) else none
  | 7 => if n = 0 then some (.bits 7) else none
  | _ => none

/-! ### Access by area and number -/

/-- The value of a setting outside A2. -/
def WorkingCopy.value (w : WorkingCopy) (area n : Nat) : Nat :=
  match area with
  | 0 => w.a0.toList.getD n 0
  | 1 => w.a1.toList.getD n 0
  | 3 => w.a3.toList.getD n 0
  | 4 => w.a4.toList.getD n 0
  | 5 => w.a5.toList.getD n 0
  | 6 => w.a6.toList.getD n 0
  | 7 => w.a7.toList.getD n 0
  | _ => 0

/-- A vector with the item at a number set, where there is one. -/
def setAt {α : Type} {n : Nat} (v : Vector α n) (i : Nat) (x : α) : Vector α n :=
  if h : i < n then v.set i x h else v

/-- A setting outside A2 set. -/
def WorkingCopy.withValue (w : WorkingCopy) (area n v : Nat) : WorkingCopy :=
  match area with
  | 0 => { w with a0 := setAt w.a0 n v }
  | 1 => { w with a1 := setAt w.a1 n v }
  | 3 => { w with a3 := setAt w.a3 n v }
  | 4 => { w with a4 := setAt w.a4 n v }
  | 5 => { w with a5 := setAt w.a5 n v }
  | 6 => { w with a6 := setAt w.a6 n v }
  | 7 => { w with a7 := setAt w.a7 n v }
  | _ => w

/-! ### The image of the store (R175, R178, log 5) -/

/-- The image: every setting in 4 bytes, areas and numbers in order, the revision after A2's table, closed by its CRC. -/
def imageBody (w : WorkingCopy) (t : PriceTable) (revision : BitVec 16) : List Byte :=
  (w.a0.toList ++ w.a1.toList ++ t.toList ++ [revision.toNat] ++ w.a3.toList ++ w.a4.toList ++ w.a5.toList ++
    w.a6.toList ++ w.a7.toList).flatMap le4

def closeImage (body : List Byte) : List Byte := body ++ crcBytes body

/-- The settings of an image: 1 + 12 + 38 + 66 + 2 + 3 + 2 + 1. -/
def imageSettings : Nat := 125

/-- An image matches its own CRC. -/
def imageMatches (bytes : List Byte) : Bool :=
  bytes.length = 4 * imageSettings + 2 && bytes.drop (4 * imageSettings) = crcBytes (bytes.take (4 * imageSettings))

/-- The value of setting `k` of an image, counted from 0. -/
def imageValue (bytes : List Byte) (k : Nat) : Nat := num4At bytes (4 * k)

/-- `n` settings of an area from setting `k` of an image on, each clamped to its range (R180), a name beyond its list to the last one (log
5). -/
def imageArea (bytes : List Byte) (kind : Nat → Option SettingKind) (k n : Nat) : Vector Nat n :=
  Vector.ofFn (fun i => ((kind i.val).map (fun c => c.clamp (imageValue bytes (k + i.val)))).getD 0)

/-- The working copy of an image. -/
def imageWorking (bytes : List Byte) : WorkingCopy :=
  { a0 := imageArea bytes (settingKind 0) 0 1
    a1 := imageArea bytes (settingKind 1) 1 12
    a3 := imageArea bytes (settingKind 3) 51 66
    a4 := imageArea bytes (settingKind 4) 117 2
    a5 := imageArea bytes (settingKind 5) 119 3
    a6 := imageArea bytes (settingKind 6) 122 2
    a7 := imageArea bytes (settingKind 7) 124 1 }

/-- What a read of the store gave. -/
def readBytes (image : List Byte) : StoreRead → List Byte
  | .clean => image
  | .disturbed bytes => bytes

/-- The 8 attempts a load may make, as far as they were not named clean reads (R180, log 5). -/
def loadAttempts (reads : List StoreRead) : List StoreRead :=
  (reads ++ List.replicate Config.loadAttempts StoreRead.clean).take Config.loadAttempts

/-- The image a load takes: that of its first attempt that matches; none where all 8 fail (R180). -/
def loadedImage (image : List Byte) (reads : List StoreRead) : Option (List Byte) :=
  ((loadAttempts reads).map (readBytes image)).find? imageMatches

/-- The published revision of an image, held to its 16 bits (R180). -/
def imageRevision (bytes : List Byte) : BitVec 16 := BitVec.ofNat 16 (min 65535 (imageValue bytes 50))

/-- The Settings Store after a load, but for the working copy's reach into the blocks (R180). -/
def Store.load (x : Store) (reads : List StoreRead) : Store :=
  match loadedImage x.image reads with
  | some bytes =>
    let table := imageArea bytes priceKind 13 37
    let w := imageWorking bytes
    { x with
      working := w, protection := BitVec.ofNat 7 (w.a7.get 0), draft := table, modified := false, published := table
      revision := imageRevision bytes, valid := true, loaded := true }
  | none =>
    { x with
      working := WorkingCopy.defaults, protection := 0, draft := PriceTable.defaults, modified := false
      published := PriceTable.defaults, revision := 0, valid := false, loaded := false }

/-! ### What a change reaches (R176) -/

/-- A slot's sense mode changed: the run count becomes 0 (R40). Its maximum grade set below its current grade: the grade falls,
with a SLOT notice (R46). -/
def State.slotSettings (old : WorkingCopy) (s : State) (n : Fin 4) : State :=
  let w := s.store.working
  let s1 :=
    if old.a1.get ⟨n.val, by omega⟩ = w.a1.get ⟨n.val, by omega⟩ then s else s.setSlot n { s.slot n with run := 0 }
  match (s1.slot n).grade with
  | some g =>
    if gradeCode (s1.maxGrade n) < gradeCode g then
      (s1.setSlot n { s1.slot n with grade := some (s1.maxGrade n) }).slotNotice n .gradeLimit
    else s1
  | none => s1

/-- A lowered IDLE_LIMIT: a running timer at or past it reaches its limit now (R35). -/
def State.idleSettings (old : WorkingCopy) (s : State) (r : Fin 8) : State :=
  if s.idleLimit < old.a0.get 0 ∧ 1000 * s.idleLimit ≤ (s.record r).timer.count s.now then s.idleExpires r else s

/-- The working copy was `old` before: each block meets the new values as its own rule gives (R176). The order of the blocks, the idle
timers last, is the model's choice (log 47). -/
def State.settingsChanged (old : WorkingCopy) (s : State) : State :=
  let s1 := s.each (allFin 4) (State.slotSettings old)
  let s2 := s1.refreshGates
  let s3 := s2.each ((allFin 2).filter s2.power.profile.usesUnit) State.evalBox
  let s4 := s3.evalPressure.evalPrints
  s4.each (allFin 8) (State.idleSettings old)

end Sys2Proof.Machine
end

