-- ==== Sys2Proof/Machine/SettingsStore.lean ====
section
/-! DEFINITION. The Settings Store's commands (10.1 to 10.5). -/

namespace Sys2Proof.Machine

/-! ### SETTING_GET and SETTING_PUT (R176) -/

/-- The value SETTING_GET reads: the working copy's, or for A2 the draft's (selector 0) or the published table's (1), and the
published revision under number 37. -/
def State.settingValue (s : State) (area n selector : Nat) : Option Nat :=
  if area = 2 then
    if 1 < selector then none
    else if n = 37 then some s.store.revision.toNat
    else if (priceKind n).isNone then none
    else if selector = 0 then some (s.store.draft.toList.getD n 0)
    else some (s.store.published.toList.getD n 0)
  else if (settingKind area n).isSome then some (s.store.working.value area n)
  else none

/-- SETTING_GET (R176). -/
def execSettingGet (tag : Byte) (s : State) : Host.Outcome State Fault Refusal :=
  .next (s.take .settingGet tag (fun t p =>
    match t.settingValue (byteAt p 0) (byteAt p 1) (byteAt p 2) with
    | none => t.refuse tag .badValue
    | some v => t.ok tag (le4 v ++ flagByte t.store.modified)))

/-- A store operation runs. -/
def State.storeBusy (s : State) : Bool := s.store.op ≠ .idle

/-- The kind of the setting a SETTING_PUT names: known, for A2 in the DRAFT, an enumerated value one of its names. -/
def putKind (area n selector value : Nat) : Option SettingKind :=
  let kind := if area = 2 then (if selector = 0 then priceKind n else none) else settingKind area n
  match kind with
  | some (.names k) => if value < k then some (.names k) else none
  | other => other

/-- The area's in-force protection flag; A7 has none. -/
def State.isProtected (s : State) (area : Nat) : Bool := decide (area < 7) && s.store.protection.getLsbD area

/-- A value set: A2 in the draft with its modified mark, another area in the working copy, which the blocks meet at once. -/
def State.putSetting (s : State) (area n v : Nat) : State :=
  if area = 2 then s.setStore { s.store with draft := setAt s.store.draft n v, modified := true }
  else
    (s.setStore { s.store with working := s.store.working.withValue area n v }).settingsChanged s.store.working

/-- The reply: OK for a value within range, CLAMPED with the value set for one outside (R176, R187). -/
def State.putReply (s : State) (tag : Byte) (k : SettingKind) (v : Nat) : State :=
  match k with
  | .range lo hi => if lo ≤ v ∧ v ≤ hi then s.ok tag [] else s.replyWith tag .clamped (le4 (k.clamp v))
  | _ => s.ok tag []

/-- SETTING_PUT (R176). -/
def execSettingPut (tag : Byte) (s : State) : Host.Outcome State Fault Refusal :=
  .next (s.take .settingPut tag (fun t p =>
    let area := byteAt p 0
    let n := byteAt p 1
    let v := num4At p 3
    t.checked tag [(decide (t.conds.mode = .service), .notService), (!t.storeBusy, .busy)]
      (match putKind area n (byteAt p 2) v with
        | none => t.refuse tag .badValue
        | some k =>
          t.checked tag [(!t.isProtected area, .isProtected)]
            ((t.putSetting area n (k.clamp v)).putReply tag k v))))

/-! ### PRICES_PUBLISH (R177) -/

/-- The tiers of a size that fail, tier 1 first: a used tier's threshold must be at least 2 and above that of the nearest lower
used tier, `below`. -/
def badTier (t : PriceTable) (z : Size) (below : Nat) : List (Fin 4) → Option (Fin 4)
  | [] => none
  | k :: rest =>
    let x := t.threshold z k
    if x = 0 then badTier t z below rest
    else if 2 ≤ x ∧ below < x then badTier t z x rest
    else some k

/-- The first failing size and tier of a draft, P1 first. -/
def PriceTable.firstBad (t : PriceTable) : Option (Size × Fin 4) :=
  ([Size.p1, Size.p2, Size.p3, Size.p4]).findSome? (fun z => (badTier t z 1 [1, 2, 3]).map (fun k => (z, k)))

/-- PRICES_PUBLISH (R177). -/
def execPricesPublish (tag : Byte) (s : State) : Host.Outcome State Fault Refusal :=
  .next (s.take .pricesPublish tag (fun t _ =>
    t.checked tag
      [(decide (t.conds.mode = .service), .notService), (!t.storeBusy, .busy), (!t.isProtected 2, .isProtected)]
      (match PriceTable.firstBad t.store.draft with
        | some (z, k) => t.replyWith tag .priceTableInvalid (le1 z.code ++ le1 k.val)
        | none =>
          let rev := t.store.revision + 1
          (t.setStore { t.store with
            published := t.store.draft, revision := rev, valid := true, modified := false }).ok tag (le2 rev.toNat))))

/-! ### Store operations (R178 to R180) -/

/-- The store operation that failed, in the detail of STORE_FAULT: SAVE 0, CHECK 1, LOAD 2. -/
def saveDetail : List Byte := le1 0
def checkDetail : List Byte := le1 1
def loadDetail : List Byte := le1 2

/-- The store operation state set. -/
def State.setOp (s : State) (x : StoreOp) : State := s.setStore { s.store with op := x }

/-- STORE_SAVE (R178). -/
def execStoreSave (tag : Byte) (s : State) : Host.Outcome State Fault Refusal :=
  .next (s.take .storeSave tag (fun t _ =>
    t.checked tag [(decide (t.conds.mode = .service), .notService), (!t.storeBusy, .busy)] (t.setOp (.saving tag))))

/-- The image a save writes: the working copy of A0, A1 and A3 to A7, the published table with its revision. -/
def Store.saved (x : Store) : List Byte := closeImage (imageBody x.working x.published x.revision)

/-- A save ends (R178): the store holds the image, or what the read-back shows where that differs (log 28). -/
def State.saveEnds (s : State) (readBack : StoreRead) : State :=
  match s.store.op with
  | .saving tag =>
    let image := readBytes s.store.saved readBack
    let s1 := s.setStore { s.store with image := image, op := .idle }
    if imageMatches image then s1.ok tag []
    else (s1.raiseKioskQuiet 2 saveDetail).refuse tag .storeError
  | _ => s

/-- SAVE_END (R178): none while no save runs. -/
def execSaveEnd (readBack : StoreRead) (s : State) : Host.Outcome State Fault Refusal :=
  .next (s.saveEnds readBack)

/-- STORE_CHECK (R179). -/
def execStoreCheck (tag : Byte) (s : State) : Host.Outcome State Fault Refusal :=
  .next (s.take .storeCheck tag (fun t _ => t.checked tag [(!t.storeBusy, .busy)] (t.setOp (.checking tag))))

/-- A check ends (R179): MATCH 0 or MISMATCH 1. -/
def State.checkEnds (s : State) (read : StoreRead) : State :=
  match s.store.op with
  | .checking tag =>
    let s1 := s.setOp .idle
    if imageMatches (readBytes s.store.image read) then s1.ok tag (le1 0)
    else (s1.raiseKioskQuiet 2 checkDetail).ok tag (le1 1)
  | _ => s

/-- CHECK_END (R179): none while no check runs. -/
def execCheckEnd (read : StoreRead) (s : State) : Host.Outcome State Fault Refusal :=
  .next (s.checkEnds read)

/-- STORE_RELOAD (R180). -/
def execStoreReload (tag : Byte) (s : State) : Host.Outcome State Fault Refusal :=
  .next (s.take .storeReload tag (fun t _ =>
    t.checked tag [(decide (t.conds.mode = .service), .notService), (!t.storeBusy, .busy)] (t.setOp (.loading tag))))

/-! ### LOAD_END (R180, R181) -/

/-- STORE_FAULT (K2) raised where the last load fell back to defaults. -/
def State.loadFault (s : State) : State := if s.store.loaded then s else s.raiseKioskQuiet 2 loadDetail

/-- The end of the load of a STORE_RELOAD: the changed values reach the blocks as a SETTING_PUT of each would (R180). That STORE_FAULT is
raised behind them is the model's choice (log 47). -/
def State.reloadEnds (s : State) (tag : Byte) (reads : List StoreRead) : State :=
  let s1 := s.setStore { s.store.load reads with op := .idle }
  let s2 := (s1.settingsChanged s.store.working).loadFault
  s2.ok tag s2.storeStateByte

/-- Sensing starts at a slot (R181). The bus has had no command outcome yet from which R39 could count; that the slot's first probe
interval starts here, at the end of the load, is the model's choice (log 4). -/
def Slot.sensing (x : Slot) (now : Nat) : Slot := { x with lastOutcome := now, probeInterval := Config.probeActive }

/-- Steps 2 to 5 of start-up (R181): the store's values, the default masks (R174), the first samples of the inputs (R162, R182),
START, and behind it the notices of the conditions set during start-up. -/
def State.startUp (s : State) (reads : List StoreRead) (first : FirstSamples) : State :=
  let s1 := s.setStore (s.store.load reads)
  let s2 := s1.setConds { s1.conds with
    kiosk := CondSet.clear s1.defaultKioskMask
    sessions := Vector.replicate 8 (CondSet.clear s1.defaultSessionMask)
    door := { confirmed := first.doorOpen, run := 0 }
    supply := { confirmed := first.supplyFault, run := 0 } }
  let s3 := s2.setPower { s2.power with
    presence := { confirmed := first.presence, run := 0 }, starting := false }
  let s4 := s3.setSlots (s3.slots.map (fun x => x.sensing s3.now))
  ((s4.startNotice.loadFault).reportLevel 0 first.supplyFault).reportLevel 1 first.doorOpen

/-- LOAD_END (R180, R181): at start-up, or at STORE_RELOAD; none while no load runs. -/
def execLoadEnd (reads : List StoreRead) (first : FirstSamples) (s : State) : Host.Outcome State Fault Refusal :=
  .next (if s.power.starting then s.startUp reads first
    else match s.store.op with
      | .loading tag => s.reloadEnds tag reads
      | _ => s)

end Sys2Proof.Machine
end

