-- ==== Sys2Proof/Machine/PowerController.lean ====
section
/-! DEFINITION. The Power Controller's commands (10.5 to 10.7): power-on, standby, the kiosk reset. -/

namespace Sys2Proof.Machine

/-- POWER_ON (R181 step 1 and the values after power-on of every chapter). The store's image stays; so do the model's record of
what was sent, its timebase and its queue (log 29). -/
def execPowerOn (straps : Straps) (s : State) : Host.Outcome State Fault Refusal :=
  .next ((((State.powerOn straps s.store.image).setSent s.sent).setNow s.now).setPending s.pending)

/-! ### Standby (R183, R184) -/

/-- Every session record is IDLE, no port is FEEDING or PRINTING, no store operation runs. -/
def State.quiet (s : State) : Bool :=
  (allFin 8).all (fun r => (s.record r).state = .idle) &&
  (allFin 3).all (fun p => (s.port p).state ≠ .feeding && (s.port p).state ≠ .printing) && !s.storeBusy

/-- The entry into STANDBY: SLEEP to every port heard, INHIBIT to every used cash unit. -/
def State.enterStandby (s : State) : State :=
  let s1 := s.setPower { s.power with standby := true, latches := 0 }
  let s2 := s1.each ((allFin 3).filter (fun p => (s1.port p).state ≠ .absent)) (fun t p => t.send (.sleep p))
  s2.each ((allFin 2).filter s2.power.profile.usesUnit) (fun t u => t.send (.inhibit u))

/-- QUIESCE (R183). -/
def execQuiesce (tag : Byte) (s : State) : Host.Outcome State Fault Refusal :=
  .next (s.take .quiesce tag (fun t _ => t.checked tag [(t.quiet, .busy)] (t.enterStandby.ok tag [])))

/-- RESUME (R184): the power state after it is ACTIVE, 0. -/
def execResume (tag : Byte) (s : State) : Host.Outcome State Fault Refusal :=
  .next (s.take .resume tag (fun t _ =>
    (t.setPower { t.power with standby := false, latches := 0 }).ok tag (le1 0)))

/-! ### KIOSK_RESET (R185 and the values after a kiosk reset of every chapter) -/

/-- The link (R16): every other held entry is answered ABORTED in order of arrival, then OK, then START. -/
def State.resetLink (s : State) (tag : Byte) : State :=
  let others := s.link.table.filter (fun e => e.tag ≠ tag)
  ((s.each others (fun t e => t.refuse e.tag .aborted)).ok tag []).startNotice

/-- The sessions (R37). -/
def State.resetSessions (s : State) : State := s.setSessions Sessions.reset

/-- The catalogue (R73): positions become free and keep their generations. -/
def State.resetCatalogue (s : State) : State :=
  s.setCatalogue
    { table := s.catalogue.table.map (fun q => { gen := q.gen, entry := none })
      lists := Vector.replicate 8 [], handOffs := [], removals := [] }

/-- The orders (R100): records become free and keep their generations. -/
def State.resetOrders (s : State) : State :=
  s.setOrders { records := s.orders.records.map (fun x => { gen := x.gen, body := none }), reports := [] }

/-- A cash unit at a kiosk reset (R128), but for what is sent: its liveness and its box are kept. -/
def CashUnit.afterReset (c : CashUnit) : CashUnit :=
  let late := (c.escrow.lateStack c.late).map (fun x => { x with session := none })
  { c with
    jammed := false, gateOpen := false, coinSet := 0, billSet := 0, coins := 0, bills := 0, escrow := .none, late := late }

/-- A used unit at a kiosk reset: INHIBIT and RETURN are sent, and a gate that was OPEN gives a GATE notice. -/
def State.resetUnit (s : State) (u : Fin 2) : State :=
  let wasOpen := (s.unit u).gateOpen
  let s1 := ((s.setUnit u (s.unit u).afterReset).send (.inhibit u)).send (.giveBack u)
  if wasOpen then s1.notify 0xC7 (le1 u.val ++ le1 GateCause.reset.code) else s1

/-- The last ended authorisation with session and order none. -/
def LastEnded.forget (x : LastEnded) : LastEnded := { x with session := none, order := none }

/-- The terminal at a kiosk reset (R128). -/
def State.resetTerminal (s : State) : State :=
  let t := s.money.terminal
  let ended : Option LastEnded := match t.state.outstanding with
    | some a => some { ref := a.ref, session := none, order := none }
    | none => t.lastEnded.map LastEnded.forget
  match t.state with
  | .busy a _ =>
    (s.setTerminal { t with state := .cancelling a.ref none s.now, waiting := [], lastEnded := ended }).send
      (.cancelAuth a.ref)
  | .cancelling r _ since => s.setTerminal { t with state := .cancelling r none since, waiting := [], lastEnded := ended }
  | _ => s.setTerminal { t with waiting := [], lastEnded := ended }

/-- The money (R128). -/
def State.resetMoney (s : State) : State :=
  let s1 := s.setMoney { s.money with
    accounts := Vector.replicate 8 Account.zero, till := Till.zero, slips := [], slipCounter := 1, refunds := []
    challenge := { s.money.challenge with running := false, pending := false, errors := 0 } }
  (s1.each ((allFin 2).filter s1.power.profile.usesUnit) State.resetUnit).resetTerminal

/-- The spool (R140); the DRAM's bytes stay as they are. -/
def State.resetSpool (s : State) : State := s.setSpool { Spool.reset with mem := s.spool.mem }

/-- A printer port at a kiosk reset (R159). -/
def State.resetPort (s : State) (p : Fin 3) : State :=
  match (s.port p).attempt with
  | some a => ((s.send (.cancelCopy p a.copyId)).setPort p { s.port p with attempt := none }).movePort p .cooling none .reset
  | none => s

/-- The printers (R159). -/
def State.resetPrints (s : State) : State :=
  (s.setPrints { s.prints with queue := [] }).each (allFin 3) State.resetPort

/-- The conditions (R174): the mode, the kiosk mask and the inputs are kept. -/
def State.resetConds (s : State) : State :=
  s.setConds { s.conds with
    inService := true, kiosk := CondSet.clear s.conds.kiosk.mask
    sessions := Vector.replicate 8 (CondSet.clear s.defaultSessionMask) }

/-- The power controller (R184, R185). -/
def State.resetPower (s : State) : State := s.setPower { s.power with standby := false, latches := 0, afterReset := true }

/-- The level causes evaluated again (R174): the inputs, the cash boxes, the terminal, the spool, the printers. That order, K0, K1, K3, K4,
K7, K13, K8 to K11, K15, is the model's choice (log 18). -/
def State.evalLevels (s : State) : State :=
  let s1 := (s.reportLevel 0 s.conds.supply.confirmed).reportLevel 1 s.conds.door.confirmed
  let s2 := s1.each ((allFin 2).filter s1.power.profile.usesUnit) State.evalBox
  let s3 := s2.reportLevelQuiet 7 (decide (s2.money.terminal.state = .lost))
  s3.evalPressure.evalPrints

/-- The kiosk reset, in one event across the blocks (R185): the blocks' records that send nothing, the link with START, then
the notices of gates, ports and conditions behind it. -/
def State.kioskReset (s : State) (tag : Byte) : State :=
  let s1 := (s.resetPower.resetLink tag).resetSessions
  let s2 := s1.resetCatalogue.resetOrders.resetSpool.resetSlots
  s2.resetMoney.resetPrints.resetConds.evalLevels

/-- KIOSK_RESET (R185). -/
def execKioskReset (tag : Byte) (s : State) : Host.Outcome State Fault Refusal :=
  .next (s.take .kioskReset tag (fun t _ =>
    t.checked tag [(decide (t.conds.mode = .service), .notService), (!t.storeBusy, .busy)] (t.kioskReset tag)))

end Sys2Proof.Machine
end

