-- ==== Sys2Proof/Machine/Tick.lean ====
section
/-! DEFINITION. What the part does of its own accord (log 1): the requests its owners have still to take, the steps its blocks owe
one another, and the limits that are reached; each as the command of the table it is. -/

namespace Sys2Proof.Machine

/-- The taking of a request as a command. -/
def RequestCode.instr : RequestCode → Byte → Instr
  | .identify => .identify
  | .status => .status
  | .sessionOpen => .sessionOpen
  | .sessionClose => .sessionClose
  | .sessionResume => .sessionResume
  | .sessionQuery => .sessionQuery
  | .imageRead => .imageRead
  | .slotQuery => .slotQuery
  | .catalogueList => .catalogueList
  | .orderOpen => .orderOpen
  | .lineAdd => .lineAdd
  | .lineChange => .lineChange
  | .lineRemove => .lineRemove
  | .orderQuote => .orderQuote
  | .orderCommit => .orderCommit
  | .orderCancel => .orderCancel
  | .orderQuery => .orderQuery
  | .gateOpen => .gateOpen
  | .gateClose => .gateClose
  | .challengeAnswer => .challengeAnswer
  | .slipTake => .slipTake
  | .refundTake => .refundTake
  | .tillQuery => .tillQuery
  | .tillRoll => .tillRoll
  | .rasterOpen => .rasterOpen
  | .rasterData => .rasterData
  | .rasterAbort => .rasterAbort
  | .rasterQuery => .rasterQuery
  | .spoolQuery => .spoolQuery
  | .printerHold => .printerHold
  | .printerRelease => .printerRelease
  | .mediaLoaded => .mediaLoaded
  | .printerQuery => .printerQuery
  | .printQueueQuery => .printQueueQuery
  | .setMode => .setMode
  | .conditionClear => .conditionClear
  | .maskSet => .maskSet
  | .serviceRestore => .serviceRestore
  | .conditionQuery => .conditionQuery
  | .settingGet => .settingGet
  | .settingPut => .settingPut
  | .pricesPublish => .pricesPublish
  | .storeSave => .storeSave
  | .storeCheck => .storeCheck
  | .storeReload => .storeReload
  | .quiesce => .quiesce
  | .resume => .resume
  | .kioskReset => .kioskReset

/-- The command `c` where its time has come. -/
def whenDue (due : Bool) (c : Instr) : List Instr := if due then [c] else []

/-- `limit` ms have passed since `since`. -/
def State.passed (s : State) (since limit : Nat) : Bool := decide (limit ≤ s.now - since)

/-- The requests not yet taken, in order of arrival (R7). -/
def State.dueRequests (s : State) : List Instr :=
  (s.link.table.filter (fun e => !e.taken)).map (fun e => e.code.instr e.tag)

/-- What the Catalogue and the Order Unit have still to take (R44, R51). -/
def State.dueSteps (s : State) : List Instr :=
  s.catalogue.removals.map (fun _ => .catalogueRemovalFreeing) ++ s.orders.reports.map (fun _ => .orphanMarking) ++
    s.catalogue.handOffs.map (fun f => .catalogueAdmission f.slot)

/-- The limits of a session (R35) and of a slot (R39, R41, R47). -/
def State.dueSession (s : State) (r : Fin 8) : List Instr :=
  let x := s.record r
  whenDue (decide (x.state = .active ∧ 1000 * s.idleLimit ≤ x.timer.count s.now)) (.idleTimerExpiry r)
def State.dueSlot (s : State) (n : Fin 4) : List Instr :=
  let x := s.slot n
  whenDue (s.cyclic n && decide (x.inFlight = none ∧ x.serving = none) && x.state.probing &&
      s.passed x.lastOutcome x.probeInterval) (.probeDue n) ++
    whenDue (decide (x.inFlight = some .probe) && s.passed x.issuedAt Config.probeAnswer) (.probeTimeout n) ++
    whenDue (decide (x.state = .mounting) && s.passed x.mountedAt Config.identificationLimit)
      (.identificationTimeout n) ++
    whenDue (x.reading && s.passed x.issuedAt Config.blockReadLimit) (.blockReadTimeout n)

/-- When the 10 s limit of an escrow started, where it runs (R112). -/
def Escrow.since : Escrow → Option Nat
  | .stacking _ _ _ t => some t
  | .returning _ _ _ t => some t
  | _ => Option.none

/-- The limits of a cash unit (R103, R112), of the challenge (R116) and of the terminal (R118 to R121). -/
def State.dueUnit (s : State) (u : Fin 2) : List Instr :=
  let x := s.unit u
  whenDue (x.heard && !x.silent && s.passed x.lastHeard Config.cashSilence) (.cashUnitSilence u) ++
    whenDue (x.escrow.since.any (fun t => s.passed t Config.escrowLimit)) (.escrowTimeout u)
def State.dueTerminal (s : State) : List Instr :=
  let t := s.money.terminal
  let silent := whenDue (s.passed t.lastHeard Config.terminalSilence) .terminalSilence
  match t.state with
  | .absent => []
  | .lost => []
  | .idle => silent
  | .busy _ since => silent ++ whenDue (s.passed since Config.authLimit) .authLimit
  | .cancelling _ _ since => silent ++ whenDue (s.passed since Config.cancelLimit) .cancelLimit

/-- The limits of a printer port (R146, R150, R152). -/
def State.duePort (s : State) (p : Fin 3) : List Instr :=
  let x := s.port p
  whenDue (decide (x.state ≠ .absent ∧ x.state ≠ .offline) && s.passed x.heardAt Config.printerSilence)
      (.printerSilence p) ++
    whenDue (decide (x.state = .feeding) && s.passed x.limitSince Config.feedLimit) (.feedLimit p) ++
    whenDue (decide (x.state = .printing) && s.passed x.limitSince Config.printLimit) (.printLimit p)

/-- The gap within a frame (R3). -/
def State.dueGap (s : State) : List Instr :=
  whenDue (decide (s.link.held ≠ [] ∧ Config.interByteGap < s.now - s.link.lastByte)) .interByteTimeout

/-- Everything due now. Before start-up has queued START only the link is alive (R7, R181). -/
def State.due (s : State) : List Instr :=
  if s.power.starting then s.dueGap
  else
    s.dueGap ++ s.dueSteps ++ s.dueRequests ++ (allFin 8).flatMap s.dueSession ++ (allFin 4).flatMap s.dueSlot ++
      (allFin 2).flatMap s.dueUnit ++
      whenDue (s.money.challenge.running && s.passed s.money.challenge.since Config.challengePeriod) .challengeIssue ++
      s.dueTerminal ++ (allFin 3).flatMap s.duePort

/-- What the part does on an empty queue: the first thing due joins the queue, and where nothing is due 1 ms passes. So each thing
due is taken on the state the one before it left, and no limit is reached that has started anew (log 1). -/
def State.tick (s : State) : State :=
  match s.due with
  | [] => s.setNow (s.now + 1)
  | c :: _ => s.setPending [c]

end Sys2Proof.Machine
end

