-- ==== Sys2Proof/Machine/Dispatch.lean ====
section
/-! DEFINITION. The meaning of every command: one arm per constructor of Instr. -/

namespace Sys2Proof.Machine

/-- The effect of a command on everything but the queue. -/
def exec (i : Instr) (s : State) : Host.Outcome State Fault Refusal :=
  match i with
  | .powerOn straps => Sys2Proof.Machine.execPowerOn straps s
  | .loadEnd reads first => Sys2Proof.Machine.execLoadEnd reads first s
  | .frameReceived bytes => Sys2Proof.Machine.execFrameReceived bytes s
  | .interByteTimeout => Sys2Proof.Machine.execInterByteTimeout s
  | .frameSent => Sys2Proof.Machine.execFrameSent s
  | .identify tag => Sys2Proof.Machine.execIdentify tag s
  | .status tag => Sys2Proof.Machine.execStatus tag s
  | .sessionOpen tag => Sys2Proof.Machine.execSessionOpen tag s
  | .sessionClose tag => Sys2Proof.Machine.execSessionClose tag s
  | .sessionResume tag => Sys2Proof.Machine.execSessionResume tag s
  | .sessionQuery tag => Sys2Proof.Machine.execSessionQuery tag s
  | .idleTimerExpiry record => Sys2Proof.Machine.execIdleTimerExpiry record s
  | .imageRead tag => Sys2Proof.Machine.execImageRead tag s
  | .slotQuery tag => Sys2Proof.Machine.execSlotQuery tag s
  | .slotSample slot present => Sys2Proof.Machine.execSlotSample slot present s
  | .catalogueRemovalFreeing => Sys2Proof.Machine.execCatalogueRemovalFreeing s
  | .orphanMarking => Sys2Proof.Machine.execOrphanMarking s
  | .probeDue slot => Sys2Proof.Machine.execProbeDue slot s
  | .probeAnswer exchange => Sys2Proof.Machine.execProbeAnswer exchange s
  | .probeTimeout slot => Sys2Proof.Machine.execProbeTimeout slot s
  | .identificationAnswer exchange answer => Sys2Proof.Machine.execIdentificationAnswer exchange answer s
  | .identificationTimeout slot => Sys2Proof.Machine.execIdentificationTimeout slot s
  | .blockReadAnswer exchange answer => Sys2Proof.Machine.execBlockReadAnswer exchange answer s
  | .blockReadTimeout slot => Sys2Proof.Machine.execBlockReadTimeout slot s
  | .catalogueAdmission slot => Sys2Proof.Machine.execCatalogueAdmission slot s
  | .catalogueList tag => Sys2Proof.Machine.execCatalogueList tag s
  | .orderOpen tag => Sys2Proof.Machine.execOrderOpen tag s
  | .lineAdd tag => Sys2Proof.Machine.execLineAdd tag s
  | .lineChange tag => Sys2Proof.Machine.execLineChange tag s
  | .lineRemove tag => Sys2Proof.Machine.execLineRemove tag s
  | .orderQuote tag => Sys2Proof.Machine.execOrderQuote tag s
  | .orderCommit tag => Sys2Proof.Machine.execOrderCommit tag s
  | .orderCancel tag => Sys2Proof.Machine.execOrderCancel tag s
  | .orderQuery tag => Sys2Proof.Machine.execOrderQuery tag s
  | .gateOpen tag => Sys2Proof.Machine.execGateOpen tag s
  | .gateClose tag => Sys2Proof.Machine.execGateClose tag s
  | .challengeAnswer tag => Sys2Proof.Machine.execChallengeAnswer tag s
  | .challengeIssue => Sys2Proof.Machine.execChallengeIssue s
  | .slipTake tag => Sys2Proof.Machine.execSlipTake tag s
  | .refundTake tag => Sys2Proof.Machine.execRefundTake tag s
  | .tillQuery tag => Sys2Proof.Machine.execTillQuery tag s
  | .tillRoll tag => Sys2Proof.Machine.execTillRoll tag s
  | .coin unit code => Sys2Proof.Machine.execCoin unit code s
  | .billHeld unit code => Sys2Proof.Machine.execBillHeld unit code s
  | .billStacked unit => Sys2Proof.Machine.execBillStacked unit s
  | .billReturned unit => Sys2Proof.Machine.execBillReturned unit s
  | .jam unit => Sys2Proof.Machine.execJam unit s
  | .boxFull unit => Sys2Proof.Machine.execBoxFull unit s
  | .boxOut unit => Sys2Proof.Machine.execBoxOut unit s
  | .boxIn unit => Sys2Proof.Machine.execBoxIn unit s
  | .cashHeartbeat unit => Sys2Proof.Machine.execCashHeartbeat unit s
  | .cashUnitSilence unit => Sys2Proof.Machine.execCashUnitSilence unit s
  | .escrowTimeout unit => Sys2Proof.Machine.execEscrowTimeout unit s
  | .approved ref amount approvalCode => Sys2Proof.Machine.execApproved ref amount approvalCode s
  | .declined ref reason => Sys2Proof.Machine.execDeclined ref reason s
  | .cancelled ref => Sys2Proof.Machine.execCancelled ref s
  | .terminalHeartbeat => Sys2Proof.Machine.execTerminalHeartbeat s
  | .terminalSilence => Sys2Proof.Machine.execTerminalSilence s
  | .authLimit => Sys2Proof.Machine.execAuthLimit s
  | .cancelLimit => Sys2Proof.Machine.execCancelLimit s
  | .rasterOpen tag => Sys2Proof.Machine.execRasterOpen tag s
  | .rasterData tag => Sys2Proof.Machine.execRasterData tag s
  | .writeEnd => Sys2Proof.Machine.execWriteEnd s
  | .rasterAbort tag => Sys2Proof.Machine.execRasterAbort tag s
  | .rasterQuery tag => Sys2Proof.Machine.execRasterQuery tag s
  | .spoolQuery tag => Sys2Proof.Machine.execSpoolQuery tag s
  | .readTransferEnd port => Sys2Proof.Machine.execReadTransferEnd port s
  | .rasterBytesTaken port count => Sys2Proof.Machine.execRasterBytesTaken port count s
  | .statusReport port report kind => Sys2Proof.Machine.execStatusReport port report kind s
  | .done port copyId => Sys2Proof.Machine.execDone port copyId s
  | .fail port copyId reason => Sys2Proof.Machine.execFail port copyId reason s
  | .printerCorruptFrame port => Sys2Proof.Machine.execPrinterCorruptFrame port s
  | .printerSilence port => Sys2Proof.Machine.execPrinterSilence port s
  | .feedLimit port => Sys2Proof.Machine.execFeedLimit port s
  | .printLimit port => Sys2Proof.Machine.execPrintLimit port s
  | .printerHold tag => Sys2Proof.Machine.execPrinterHold tag s
  | .printerRelease tag => Sys2Proof.Machine.execPrinterRelease tag s
  | .mediaLoaded tag => Sys2Proof.Machine.execMediaLoaded tag s
  | .printerQuery tag => Sys2Proof.Machine.execPrinterQuery tag s
  | .printQueueQuery tag => Sys2Proof.Machine.execPrintQueueQuery tag s
  | .doorSample isOpen => Sys2Proof.Machine.execDoorSample isOpen s
  | .supplySample fault => Sys2Proof.Machine.execSupplySample fault s
  | .presenceSample asserted => Sys2Proof.Machine.execPresenceSample asserted s
  | .setMode tag => Sys2Proof.Machine.execSetMode tag s
  | .conditionClear tag => Sys2Proof.Machine.execConditionClear tag s
  | .maskSet tag => Sys2Proof.Machine.execMaskSet tag s
  | .serviceRestore tag => Sys2Proof.Machine.execServiceRestore tag s
  | .conditionQuery tag => Sys2Proof.Machine.execConditionQuery tag s
  | .settingGet tag => Sys2Proof.Machine.execSettingGet tag s
  | .settingPut tag => Sys2Proof.Machine.execSettingPut tag s
  | .pricesPublish tag => Sys2Proof.Machine.execPricesPublish tag s
  | .storeSave tag => Sys2Proof.Machine.execStoreSave tag s
  | .saveEnd readBack => Sys2Proof.Machine.execSaveEnd readBack s
  | .storeCheck tag => Sys2Proof.Machine.execStoreCheck tag s
  | .checkEnd read => Sys2Proof.Machine.execCheckEnd read s
  | .storeReload tag => Sys2Proof.Machine.execStoreReload tag s
  | .quiesce tag => Sys2Proof.Machine.execQuiesce tag s
  | .resume tag => Sys2Proof.Machine.execResume tag s
  | .kioskReset tag => Sys2Proof.Machine.execKioskReset tag s
  | .lengthAbove4096 bytes => Sys2Proof.Machine.execLengthAbove4096 bytes s

end Sys2Proof.Machine
end

