-- ==== Sys2Proof/Machine/Step.lean ====
section
/-! DEFINITION. One step: the command at the front of the queue, or, on an empty queue, a tick. -/

namespace Sys2Proof.Machine

/-- The command at the front of the queue is executed on the state with the queue's rest; on an empty queue the first thing due
joins the queue, or 1 ms passes (log 1). -/
def step (s : State) : Host.Outcome State Fault Refusal :=
  match s.pending with
  | [] => .next s.tick
  | c :: rest => exec c (s.setPending rest)

/-- `s` with the command that a table word spells in front of its queue. No row of the table gives bits, so no word spells one
and `s` is unchanged. -/
def State.withFetchWord (s : State) (nbits w : Nat) : State :=
  match decodeTableWord nbits w with
  | some c => s.setPending (c :: s.pending)
  | none => s

end Sys2Proof.Machine
end

