-- ==== Sys2Proof/Safety.lean ====
section
/-! DEFINITION. The vocabulary of the statements: what holds of the part at every moment (the bounds of the link, the counts of
copies and of spool blocks, the door in service mode), when a request stands ready to be taken, what a reply does to the state, and the blocks of
State by name, for what a command leaves unchanged. -/

namespace Sys2Proof.Machine

/-! ### What holds at every moment -/

/-- The bytes of the oldest frame already sent are fewer than it has; none where no frame waits (R10). -/
def Link.InFrame (l : Link) : Prop :=
  match l.queue with
  | [] => l.sending = 0
  | f :: _ => l.sending < f.bytes.length

/-- The bounds of the Link Interface: at most 8 held entries under distinct tags (1.3, R5), at most 48 places queued or reserved
(1.4), at most 40 notices (R8), an error count of at most 65535 (R4), a frame in sending not yet sent whole (R10). -/
structure Link.Bounded (l : Link) : Prop where
  table : l.table.length ≤ Config.tableSize
  places : l.queue.length + l.table.length ≤ Config.queuePlaces
  notices : l.notices ≤ Config.maxNotices
  errors : l.errors ≤ Config.maxLinkErrors
  tags : (l.table.map (fun e => e.tag)).Nodup
  sending : l.InFrame

/-- The blocks of the spool: each of the 1024 stands once, in the free list or in one raster's block list, and every raster has the
blocks of its size (7.1, R129). -/
structure Spool.BlocksCounted (x : Spool) : Prop where
  blocks : (x.free ++ x.rasters.flatMap (fun y => y.blocks)).Perm (List.range 1024)
  sizes : ∀ y ∈ x.rasters, y.blocks.length = y.size.blocks

/-- The sum of a line's five copy counters. -/
def Counters.sum (c : Counters) : Nat := c.delivered + c.finalFailed + c.queued + c.retryPending + c.inFlight

/-- For every line of a committed order the counters sum to the line's quantity (R92). -/
def Order.CopiesCounted (o : Order) : Prop :=
  o.state = .committed → ∀ (k : Fin 16) (l : Line), o.lines.get k = some l → l.copies.sum = l.quantity

def Orders.CopiesCounted (x : Orders) : Prop :=
  ∀ (k : Fin 16) (o : Order), (x.records.get k).body = some o → o.CopiesCounted

/-- The kiosk is in service mode only with the door confirmed open (R162, R163), and not before start-up has ended (R174). -/
def State.DoorKept (s : State) : Prop :=
  (s.conds.mode = .service → s.conds.door.confirmed = true) ∧ (s.power.starting = true → s.conds.mode = .customer)

/-- All of it, with the canonical form of the spool memory. -/
structure State.Sound (s : State) : Prop where
  memory : Memory.wf s.spool.mem = true
  link : s.link.Bounded
  copies : s.orders.CopiesCounted
  door : s.DoorKept
  blocks : s.spool.BlocksCounted

/-! ### Requests and replies -/

/-- A request stands ready for its owner to take: start-up has ended, the power state admits the code, and the owner's first
request not yet taken is this one, under a tag no other entry has (R5, R6, R7). -/
def State.Offers (s : State) (c : RequestCode) (tag : Byte) (p : List Byte) : Prop :=
  s.power.starting = false ∧ (s.power.standby = true → c.inStandby = true ∨ c = .sessionOpen) ∧
    (s.link.table.map (fun e => e.tag)).Nodup ∧
    s.link.firstUntaken c.owner = some { tag := tag, code := c, payload := p, taken := false }

/-- The link with the owner's reply given: the entry released, the reply at the tail of the queue with the entry's tag and the
request's code (R7). -/
def Link.answered (l : Link) (tag : Byte) (c : RequestCode) (payload : List Byte) : Link :=
  { l with
    table := l.table.filter (fun e => e.tag ≠ tag)
    queue := l.queue ++ [{ kind := .reply, tag := tag, code := c.byte, payload := payload }] }

/-- The reply OK with fields, and a refusal (R187). -/
def State.answerOk (s : State) (tag : Byte) (c : RequestCode) (fields : List Byte) : State :=
  { s with link := s.link.answered tag c (Status.ok.code :: fields) }
def State.answerNo (s : State) (tag : Byte) (c : RequestCode) (e : Status) : State :=
  { s with link := s.link.answered tag c [e.code] }

/-- A request taken whose reply is still to come. -/
def State.holds (s : State) (tag : Byte) : State := { s with link := s.link.markTaken tag }

/-- The first failing check of a list gives the status. -/
def firstFailing : List (Bool × Status) → Option Status
  | [] => none
  | (true, _) :: rest => firstFailing rest
  | (false, e) :: _ => some e

/-! ### The blocks of State -/

/-- The fields of State by name. -/
inductive Block where
  | link | sessions | slots | catalogue | orders | money | spool | prints | conds | store | power | sent | now | pending
  deriving DecidableEq, Repr

/-- `t` has this block as `s` has it. -/
def State.SameAt (s t : State) : Block → Prop
  | .link => t.link = s.link
  | .sessions => t.sessions = s.sessions
  | .slots => t.slots = s.slots
  | .catalogue => t.catalogue = s.catalogue
  | .orders => t.orders = s.orders
  | .money => t.money = s.money
  | .spool => t.spool = s.spool
  | .prints => t.prints = s.prints
  | .conds => t.conds = s.conds
  | .store => t.store = s.store
  | .power => t.power = s.power
  | .sent => t.sent = s.sent
  | .now => t.now = s.now
  | .pending => t.pending = s.pending

/-- From `s` to `t` nothing changed outside the given blocks. -/
def State.ChangesOnly (s t : State) (bs : List Block) : Prop := ∀ b, b ∉ bs → s.SameAt t b

end Sys2Proof.Machine
end

