-- ==== Sys2Proof/Certificates/Slice0/Obligations.lean ====
section
/-! DEFINITION. The statements for the provers. A command's next state is written as the state it found with the fields it
changed (`{ s with … }`, `answerOk`, `answerNo`), so that one equation says that the command completes, what it does and what it
leaves; where a command sets off a chain of events, the statement says what holds of the state after it. -/

open Sys2Proof Sys2Proof.Machine

/-! ### The step and the invariants -/

/-- The command at the front of the queue is executed on the state with the queue's rest. -/
def Obligations.StepRunsTheFrontCommand : Prop :=
  ∀ (c : Instr) (rest : List Instr) (s : State), s.pending = c :: rest → step s = exec c (s.setPending rest)

/-- The command `c` where its time has come. -/
def dueIf (p : Prop) [Decidable p] (c : Instr) : List Instr := if p then [c] else []

/-- The gap within a frame: more than 50 ms since its last byte (R3). -/
def gapDue (s : State) : List Instr := dueIf (s.link.held ≠ [] ∧ 50 < s.now - s.link.lastByte) .interByteTimeout

/-- The idle timer of an ACTIVE session at IDLE_LIMIT, in seconds (R35). -/
def sessionDue (s : State) (r : Fin 8) : List Instr :=
  dueIf ((s.record r).state = .active ∧ 1000 * s.store.working.a0.get 0 ≤ match (s.record r).timer with
    | .running since => s.now - since
    | .stopped count => count) (.idleTimerExpiry r)

/-- A slot's limits: the probe interval of a CYCLIC slot whose free bus carries probes, and 100 ms for a probe's answer (R39), 1 s for
the identification (R41), 250 ms for a block read (R47). -/
def slotDue (s : State) (n : Fin 4) : List Instr :=
  let x := s.slot n
  dueIf (s.store.working.a1.get ⟨n.val, by omega⟩ = 1 ∧ x.inFlight = none ∧ x.serving = none ∧
      x.state ∈ [.empty, .settling, .mounted, .left, .fault] ∧ x.probeInterval ≤ s.now - x.lastOutcome) (.probeDue n) ++
    dueIf (x.inFlight = some .probe ∧ 100 ≤ s.now - x.issuedAt) (.probeTimeout n) ++
    dueIf (x.state = .mounting ∧ 1000 ≤ s.now - x.mountedAt) (.identificationTimeout n) ++
    dueIf (x.inFlight = some .blockRead ∧ x.serving ≠ none ∧ 250 ≤ s.now - x.issuedAt) (.blockReadTimeout n)

/-- A cash unit's limits: 2 s of silence once heard (R103), 10 s in STACKING and in RETURNING (R112). -/
def unitDue (s : State) (u : Fin 2) : List Instr :=
  let x := s.unit u
  dueIf (x.heard = true ∧ x.silent = false ∧ 2000 ≤ s.now - x.lastHeard) (.cashUnitSilence u) ++
    match x.escrow with
    | .none => []
    | .held _ _ _ => []
    | .stacking _ _ _ since => dueIf (10000 ≤ s.now - since) (.escrowTimeout u)
    | .returning _ _ _ since => dueIf (10000 ≤ s.now - since) (.escrowTimeout u)

/-- The terminal's limits: 5 s of silence (R118), 90 s in BUSY (R119, R120), 10 s in CANCELLING (R121). -/
def terminalDue (s : State) : List Instr :=
  let silent := dueIf (5000 ≤ s.now - s.money.terminal.lastHeard) .terminalSilence
  match s.money.terminal.state with
  | .absent => []
  | .lost => []
  | .idle => silent
  | .busy _ since => silent ++ dueIf (90000 ≤ s.now - since) .authLimit
  | .cancelling _ _ since => silent ++ dueIf (10000 ≤ s.now - since) .cancelLimit

/-- A printer port's limits: 3 s without a STATUS (R146), 30 s without a byte taken in FEEDING (R150), 120 s in PRINTING (R150, R152). -/
def portDue (s : State) (p : Fin 3) : List Instr :=
  let x := s.port p
  dueIf (x.state ∉ [.absent, .offline] ∧ 3000 ≤ s.now - x.heardAt) (.printerSilence p) ++
    dueIf (x.state = .feeding ∧ 30000 ≤ s.now - x.limitSince) (.feedLimit p) ++
    dueIf (x.state = .printing ∧ 120000 ≤ s.now - x.limitSince) (.printLimit p)

/-- No command stops the part: each answers a next state, in which the commands still waiting and the timebase are as they were
and nothing sent before is taken back (logs 1, 22, 24). On an empty queue the first thing due joins the queue; where nothing is due
1 ms passes. Due are, before START, the gap within a frame alone (R181), and from then on the gap, the steps that blocks owe one
another (log 15), the requests not yet taken in order of arrival (R7), and every limit that is reached, with the figure of its rule:
the idle timer's, the slots', the cash units', the challenge's 2 s (R116), the terminal's and the printers'. The probe interval that
an outcome on the bus starts is 500 ms, in STANDBY 2 s (R39). That a step takes the first thing due, and the order of what is due, is
the model's choice (log 1). -/
def Obligations.EveryCommandCompletes : Prop :=
  (∀ (c : Instr) (s : State), ∃ t, exec c s = .next t ∧ t.pending = s.pending ∧ t.now = s.now ∧ s.sent <+: t.sent) ∧
  (∀ s : State, s.pending = [] → step s = .next (match s.due with
    | c :: _ => { s with pending := [c] }
    | [] => { s with now := s.now + 1 })) ∧
  (∀ s : State, s.due = if s.power.starting = true then gapDue s
    else
      gapDue s ++ s.catalogue.removals.map (fun _ => .catalogueRemovalFreeing) ++ s.orders.reports.map (fun _ => .orphanMarking) ++
        s.catalogue.handOffs.map (fun f => .catalogueAdmission f.slot) ++
        (s.link.table.filter (fun e => e.taken = false)).map (fun e => e.code.instr e.tag) ++
        (allFin 8).flatMap (sessionDue s) ++ (allFin 4).flatMap (slotDue s) ++ (allFin 2).flatMap (unitDue s) ++
        dueIf (s.money.challenge.running = true ∧ 2000 ≤ s.now - s.money.challenge.since) .challengeIssue ++
        terminalDue s ++ (allFin 3).flatMap (portDue s)) ∧
  (∀ (s : State) (n : Fin 4), s.busOutcome n = s.setSlot n { s.slot n with
    inFlight := none, lastOutcome := s.now, probeInterval := if s.power.standby = true then 2000 else 500 })

/-- The spool memory keeps its canonical form at every step. -/
def Obligations.StepKeepsTheSpoolMemoryCanonical : Prop :=
  ∀ s t : State, Memory.wf s.spool.mem = true → step s = .next t → Memory.wf t.spool.mem = true

/-- The bounds of the request table, of the outbound queue and of the error count hold after every step, no two held entries have
one tag, and of the oldest frame fewer bytes are sent than it has (R4, R5, R8, R10). -/
def Obligations.StepKeepsTheLinkBounded : Prop :=
  ∀ s t : State, s.link.Bounded → step s = .next t → t.link.Bounded

/-- After every step each of the 1024 blocks of the spool stands once, in the free list or in one raster's block list, and every
raster has the blocks of its size (R129). -/
def Obligations.StepKeepsTheBlocksCounted : Prop :=
  ∀ s t : State, s.spool.BlocksCounted → step s = .next t → t.spool.BlocksCounted

/-- For every line of a committed order, the five counters sum to the quantity after every step (R92). -/
def Obligations.StepKeepsTheCopiesCounted : Prop :=
  ∀ s t : State, s.orders.CopiesCounted → step s = .next t → t.orders.CopiesCounted

/-- The kiosk is in service mode only with the door confirmed open, after every step (R162, R163, R174). -/
def Obligations.StepKeepsServiceModeBehindTheDoor : Prop :=
  ∀ s t : State, s.DoorKept → step s = .next t → t.DoorKept

/-- The state after reset satisfies the five invariants. -/
def Obligations.ResetIsSound : Prop := State.reset.Sound

/-- After power-on every block holds the values of its chapter and the profile is the one the straps select; the store's contents stay
(R16, R37, R56, R73, R100, R128, R140, R159, R174, R175, R181). That what was sent, the timebase and the queue of commands stay too is
log 29; the masks and settings before the load ends are log 6, the inputs before their first samples log 8, the spool memory log 7. The times of the last byte and of what was last heard, the
totals and the sets of a closed gate at 0, and the slip number none, are log 4; the order freed in CLOSING is the model's own (log 39), the queues between blocks log 15. -/
def Obligations.PowerOnGivesTheValuesOfEveryChapter : Prop :=
  ∀ (straps : Straps) (s : State), ∃ t, exec (.powerOn straps) s = .next t ∧
    t.link = { held := [], lastByte := 0, errors := 0, table := [], queue := [], sending := 0, dropped := false } ∧
    (∀ r, t.record r =
      { state := .idle, gen := 0, station := none, uncommitted := none, committed := [], timer := .stopped 0
        totals := { earned := 0, refunded := 0, slipAmount := 0, slipNumber := none }, closedOrder := none }) ∧
    (∀ st, t.front st = none) ∧ t.sessions.settling = [] ∧
    (∀ n, (t.slot n).state = .empty ∧ (t.slot n).faultCause = none ∧ (t.slot n).present = false ∧ (t.slot n).run = 0 ∧
      (t.slot n).insertionOwner = none ∧ (t.slot n).bound = none ∧ (t.slot n).identity = none ∧ (t.slot n).grade = none ∧
      (t.slot n).errors = 0 ∧ (t.slot n).reads = [] ∧ (t.slot n).scan = none ∧ (t.slot n).serving = none ∧
      (t.slot n).inFlight = none) ∧
    (∀ q, t.catalogue.table.get q = { gen := 0, entry := none }) ∧ (∀ r, t.catalogue.lists.get r = []) ∧
    t.catalogue.handOffs = [] ∧ t.catalogue.removals = [] ∧
    (∀ o, t.orderRecord o = { gen := 0, body := none }) ∧ t.orders.reports = [] ∧
    (∀ r, t.account r = { credit := 0, cashPaid := 0, cardPaid := 0 }) ∧
    (∀ u, t.unit u =
      { heard := false, silent := false, lastHeard := 0, jammed := false, gateOpen := false, coinSet := 0, billSet := 0
        coins := 0, bills := 0, escrow := .none, late := none, boxIn := true, boxCount := 0, fullFlag := false }) ∧
    t.money.till = { cashIn := 0, cardIn := 0, earned := 0, slipsIssued := 0, cardRefundsIssued := 0, unlogged := 0, overage := 0 } ∧
    t.money.slips = [] ∧ t.money.slipCounter = 1 ∧ t.money.refunds = [] ∧
    t.money.challenge.running = false ∧ t.money.challenge.pending = false ∧ t.money.challenge.errors = 0 ∧
    t.money.terminal = { state := .absent, lastHeard := 0, waiting := [], refCounter := 0, lastEnded := none } ∧
    t.spool.free = List.range 1024 ∧ t.spool.rasters = [] ∧ t.spool.writes = [] ∧ t.spool.granted = none ∧
    (∀ p, t.reader p = { job := none, next := 0, asks := false, untaken := 0 }) ∧ t.spool.mem = [] ∧
    t.prints.queue = [] ∧ t.prints.copyId = 1 ∧
    (∀ p, (t.port p).state = .absent ∧ (t.port p).fault = none ∧ (t.port p).kind = none ∧ (t.port p).units = 0 ∧
      (t.port p).errors = 0 ∧ (t.port p).hold = false ∧ (t.port p).run = 0 ∧ (t.port p).attempt = none ∧
      (t.port p).last = none) ∧
    t.conds =
      { kiosk := { bits := 0, mask := 0xFFFF, recorded := Vector.replicate 16 .unset }
        sessions := Vector.replicate 8 { bits := 0, mask := 0xFF, recorded := Vector.replicate 8 .unset }
        mode := .customer, inService := true, door := { confirmed := false, run := 0 }, supply := { confirmed := false, run := 0 } } ∧
    t.store =
      { image := s.store.image, working := WorkingCopy.defaults, protection := 0, draft := PriceTable.defaults, modified := false
        published := PriceTable.defaults, revision := 0, valid := false, loaded := false, op := .idle } ∧
    t.power =
      { standby := false, latches := 0, presence := { confirmed := false, run := 0 }, afterReset := false, starting := true
        profile := (match straps.prof1, straps.prof0 with
          | false, false => .solo
          | false, true => .duo
          | true, false => .duoCard
          | true, true => .soloCard) } ∧
    s.ChangesOnly t [.link, .sessions, .slots, .catalogue, .orders, .money, .spool, .prints, .conds, .store, .power]

/-! ### The command link (01) -/

/-- The frames that wait after `k` bytes of the queue are clocked out, and how many bytes of the first are then sent. -/
def queueAfter : List Frame → Nat → List Frame × Nat
  | [], _ => ([], 0)
  | f :: rest, k => if k < f.bytes.length then (f :: rest, k) else queueAfter rest (k - f.bytes.length)

/-- The link and what was sent once the host has clocked `n` bytes: the bytes of the queued frames, then 0x00 (R10). -/
def clockedOut (s : State) (n : Nat) : State :=
  { s with
    link := { s.link with
      queue := (queueAfter s.link.queue (s.link.sending + n)).1, sending := (queueAfter s.link.queue (s.link.sending + n)).2 }
    sent := s.sent ++ ((((s.link.queue.flatMap Frame.bytes).drop s.link.sending) ++ List.replicate n 0).take n).map .host }

/-- A whole frame of TYPE 1 received while hunting: its request is discarded for want of a place (R9), answered at once (R5, R6), or
entered at the tail of the table. Each byte of it clocks one of the part's own out, so that frames may leave the queue before the
request arrives (R10). That the part's byte goes before the host's last is examined, so that the place is looked for behind it, is the model's
choice (log 26). Nothing but the link changes. -/
def Obligations.ReceivedRequestIsEnteredOrAnswered : Prop :=
  ∀ (s : State) (tag code : Byte) (payload : List Byte), s.link.held = [] → s.link.InFrame → payload.length ≤ 4096 →
    ∃ t, exec (.frameReceived (Frame.bytes { kind := .request, tag := tag, code := code, payload := payload })) s = .next t ∧
      (let u := clockedOut s (payload.length + 8);
      t.sent = u.sent ∧ s.ChangesOnly t [.link, .sent] ∧ t.link.held = [] ∧ t.link.lastByte = s.now ∧
      t.link.dropped = s.link.dropped ∧ t.link.sending = u.link.sending ∧
      (if 48 ≤ u.link.queue.length + s.link.table.length then
        t.link.errors = min 65535 (s.link.errors + 1) ∧ t.link.table = s.link.table ∧ t.link.queue = u.link.queue
      else
        t.link.errors = s.link.errors ∧
        (let answered : Status → Prop := fun e => t.link.table = s.link.table ∧
            t.link.queue = u.link.queue ++ [{ kind := .reply, tag := tag, code := code, payload := [e.code] }]
          if ∃ e ∈ s.link.table, e.tag = tag then answered .tagBusy
          else if 8 ≤ s.link.table.length then answered .busy
          else match requestOf code with
            | none => answered .unknownRequest
            | some c =>
              if payload.length < c.shortest then answered .malformed
              else if s.power.standby = true ∧ c ∉ [.identify, .status, .resume, .conditionQuery] then answered .standby
              else t.link.queue = u.link.queue ∧
                t.link.table = s.link.table ++ [{ tag := tag, code := c, payload := payload, taken := false }])))

/-- Bytes examined again, as if they were arriving now; no byte is clocked for them. -/
def examinedAgain (s : State) (bytes : List Byte) : State :=
  { s with link := bytes.foldl (fun l b => l.receive s.power.standby s.now b) s.link }

/-- A frame whose TYPE is not 1 but whose CRC matches is discarded whole: the error count rises, and the receiver carries on after the
frame. A LENGTH above 4096, or a received CRC that differs, discards the frame too, and the bytes after its SYNC are examined again as
if they were arriving now. More than 50 ms within a frame drop the held bytes and count an error; in HUNTING there is nothing to drop
(R3). The part clocks its own bytes out all the while (R10, log 26). -/
def Obligations.ReceiverDiscardsWhatIsNoRequest : Prop :=
  (∀ (s : State) (type tag code low high : Byte) (payload : List Byte), s.link.held = [] → s.link.InFrame → type ≠ 1 →
    payload.length = low.toNat + 256 * high.toNat → payload.length ≤ 4096 →
    (let body := [type, tag, code, low, high] ++ payload;
    let u := clockedOut s (payload.length + 8);
    exec (.frameReceived ([0xA5] ++ body ++ crcBytes body)) s =
      .next { u with link := { u.link with lastByte := s.now, errors := min 65535 (s.link.errors + 1) } })) ∧
  (∀ (s : State) (type tag code low high : Byte), s.link.held = [] → s.link.InFrame → 4096 < low.toNat + 256 * high.toNat →
    exec (.lengthAbove4096 [0xA5, type, tag, code, low, high]) s =
      .next (let u := clockedOut s 6;
        examinedAgain { u with link := u.link.countError } [type, tag, code, low, high])) ∧
  (∀ (s : State) (type tag code low high : Byte) (payload : List Byte) (crc1 crc2 : Byte), s.link.held = [] → s.link.InFrame →
    payload.length = low.toNat + 256 * high.toNat → payload.length ≤ 4096 →
    [crc1, crc2] ≠ crcBytes ([type, tag, code, low, high] ++ payload) →
    exec (.frameReceived ([0xA5, type, tag, code, low, high] ++ payload ++ [crc1, crc2])) s =
      .next (let u := clockedOut s (payload.length + 8);
        examinedAgain { u with link := u.link.countError } ([type, tag, code, low, high] ++ payload ++ [crc1, crc2]))) ∧
  (∀ s : State, exec .interByteTimeout s = .next (if s.link.held = [] then s
     else { s with link := { s.link with held := [], errors := min 65535 (s.link.errors + 1) } }))

/-- A notice takes a free place while fewer than 40 notices are queued; otherwise it is dropped and the flag is set (R8). An owner's
reply is queued in the place of its entry, which is released, with the entry's tag and code; a reply for a tag with no held entry is
discarded (R7). TXRDY is asserted while a frame stands in the queue. Each byte the host clocks takes one of the part's: the next of
the oldest frame, which leaves the queue with its last CRC byte, or 0x00 where no frame waits (R10). FRAME_SENT clocks the rest of the
oldest frame out, and the next starts at its first byte; with an empty queue it changes nothing (log 26). -/
def Obligations.NoticesAndRepliesLeaveInOrder : Prop :=
  (∀ (s : State) (code : Byte) (payload : List Byte),
     s.notify code payload =
       if s.link.queue.length + s.link.table.length < 48 ∧ s.link.queue.countP (fun f => f.kind = .notice) < 40 then
         { s with link := { s.link with
           queue := s.link.queue ++ [{ kind := .notice, tag := 0, code := code, payload := payload }] } }
       else { s with link := { s.link with dropped := true } }) ∧
  (∀ (s : State) (e : Entry) (x : Status) (fields : List Byte), (s.link.table.map (fun e => e.tag)).Nodup →
    e ∈ s.link.table →
    s.replyWith e.tag x fields = { s with link := { s.link with
      table := s.link.table.filter (fun y => y.tag ≠ e.tag)
      queue := s.link.queue ++ [{ kind := .reply, tag := e.tag, code := e.code.byte, payload := x.code :: fields }] } }) ∧
  (∀ (s : State) (tag : Byte) (x : Status) (fields : List Byte), (∀ e ∈ s.link.table, e.tag ≠ tag) →
    s.replyWith tag x fields = s) ∧
  (∀ s : State, s.txrdy = true ↔ s.link.queue ≠ []) ∧
  (∀ (s : State) (b : Byte), s.link.queue = [] → exec (.frameReceived [b]) s =
    .next { examinedAgain s [b] with sent := s.sent ++ [.host 0] }) ∧
  (∀ (s : State) (b own : Byte) (f : Frame) (rest : List Frame), s.link.queue = f :: rest → f.bytes[s.link.sending]? = some own →
    exec (.frameReceived [b]) s = .next (
      let link := if s.link.sending + 1 = f.bytes.length then { s.link with queue := rest, sending := 0 }
        else { s.link with sending := s.link.sending + 1 };
      { examinedAgain { s with link := link } [b] with sent := s.sent ++ [.host own] })) ∧
  (∀ s : State, s.link.queue = [] → exec .frameSent s = .next s) ∧
  (∀ (s : State) (f : Frame) (rest : List Frame), s.link.queue = f :: rest →
    exec .frameSent s = .next { s with
      link := { s.link with queue := rest, sending := 0 }, sent := s.sent ++ (f.bytes.drop s.link.sending).map .host })

/-- Nothing is taken before START, nor out of its owner's order (R7); that such a command then changes nothing is the model's choice
(log 2). A request entered before STANDBY and taken in it is refused with STANDBY (R183). -/
def Obligations.OwnersTakeTheirRequestsInOrder : Prop :=
  (∀ (s : State) (c : RequestCode) (tag : Byte),
     (s.power.starting = true ∨ (∀ e, s.link.firstUntaken c.owner = some e → e.tag ≠ tag ∨ e.code ≠ c)) →
     exec (c.instr tag) s = .next s) ∧
  (∀ (s : State) (c : RequestCode) (tag : Byte) (p : List Byte), s.power.starting = false → s.power.standby = true →
     c ∉ [.identify, .status, .resume, .conditionQuery, .sessionOpen] →
     (s.link.table.map (fun e => e.tag)).Nodup →
     s.link.firstUntaken c.owner = some { tag := tag, code := c, payload := p, taken := false } →
     exec (c.instr tag) s = .next (s.answerNo tag c .standby))

/-! ### Queries -/

/-- What a query of these carries back with OK, and none where it names nothing that there is. -/
def queryFields (c : RequestCode) (s : State) (p : List Byte) : Option (List Byte) :=
  match c with
  | .identify =>
    let stations : Nat := if s.power.profile = .duo ∨ s.power.profile = .duoCard then 2 else 1
    let units : Nat := if s.power.profile = .duo then 2 else if s.power.profile = .solo then 1 else 0
    some (le2 0x4356 ++ le2 0x0240 ++ le1 3 ++
      le1 (match s.power.profile with
        | .solo => 0
        | .duo => 1
        | .duoCard => 2
        | .soloCard => 3) ++
      le1 stations ++ le1 4 ++ le1 units ++ le1 3 ++ le1 (if s.store.loaded then 0 else 1) ++
      le1 (if s.power.afterReset then 1 else 0))
  | .slotQuery => if h : byteAt p 0 < 4 then some (s.slotFields ⟨byteAt p 0, h⟩) else none
  | .tillQuery => some s.tillQueryFields
  | .spoolQuery => some s.spoolFields
  | .printerQuery => if h : byteAt p 0 < 3 then some (s.portFields ⟨byteAt p 0, h⟩) else none
  | .printQueueQuery =>
    if 1 ≤ byteAt p 1 ∧ byteAt p 1 ≤ 32 then
      some (le2 s.prints.queue.length ++ le1 ((s.prints.queue.drop (byteAt p 0)).take (byteAt p 1)).length ++
        ((s.prints.queue.drop (byteAt p 0)).take (byteAt p 1)).flatMap s.taskFields)
    else none
  | .conditionQuery => some s.conditionFields
  | .settingGet =>
    (s.settingValue (byteAt p 0) (byteAt p 1) (byteAt p 2)).map (fun v => le4 v ++ flagByte s.store.modified)
  | _ => none

/-- IDENTIFY, SLOT_QUERY, TILL_QUERY, SPOOL_QUERY, PRINTER_QUERY, PRINT_QUEUE_QUERY, CONDITION_QUERY and SETTING_GET are answered OK
with the values at the taking, or refused with BAD_VALUE, and change nothing but the link. STATUS answers its values and at the same
moment sets the error count to 0 and clears the notices-dropped flag (R14, R15). The fields are laid out as log 10 says; which values
of two are flags is log 37, and the layouts of spool and level fields are logs 42 and 45. -/
def Obligations.QueriesAnswerAndStatusClears : Prop :=
  (∀ (c : RequestCode) (s : State) (tag : Byte) (p : List Byte),
     c ∈ [.identify, .slotQuery, .tillQuery, .spoolQuery, .printerQuery, .printQueueQuery, .conditionQuery, .settingGet] →
     s.Offers c tag p →
     exec (c.instr tag) s = .next (match queryFields c s p with
       | some fields => s.answerOk tag c fields
       | none => s.answerNo tag c .badValue)) ∧
  (∀ (s : State) (tag : Byte) (p : List Byte), s.Offers .status tag p →
     exec (.status tag) s = .next (State.answerOk { s with link := { s.link with errors := 0, dropped := false } } tag .status
       (le2 s.link.errors ++ flagByte s.link.dropped ++ le1 s.link.table.length ++
         le1 (s.link.queue.countP (fun f => f.kind = .notice)) ++ flagByte s.power.standby ++ le1 s.conds.mode.code ++
         le1 (if s.conds.inService then 0 else 1) ++ flagByte s.attn ++ flagByte (s.power.latches ≠ 0))))

/-! ### Handles, sessions (02) -/

/-- The idle timer of a session restarts at 0 where it runs; a stopped one keeps its count (R35). -/
def timerRestarted (s : State) (r : Fin 8) : State :=
  match (s.record r).timer with
  | .running _ => s.setRecord r { s.record r with timer := .running s.now }
  | .stopped _ => s

/-- A handle that names no record is refused with BAD_VALUE, a stale one with STALE_HANDLE (R13), and a current session is then
checked against its state (R23), its idle timer having restarted where it runs (R35). A request other than a query that names the order
its session's close has freed is refused with BAD_STATE until that session is IDLE or the record is taken anew (R23, R72); that this stands
before R13's STALE_HANDLE for a free record, and that the queries and a later request are STALE_HANDLE, is log 39. IMAGE_READ, CATALOGUE_LIST and RASTER_DATA check a length or a
count of theirs first, and refused there they leave the timer alone; that place is log 21. -/
def Obligations.HandlesAreCheckedFirst : Prop :=
  (∀ (s : State) (r : Fin 8), s.touch r = timerRestarted s r) ∧
  (∀ (s : State) (h : SessionHandle), s.touchHandle h = if s.current h then timerRestarted s h.record else s) ∧
  (∀ (s : State) (h : SessionHandle), s.current h = true ↔
    (s.record h.record).state ≠ .idle ∧ (s.record h.record).gen = h.gen) ∧
  (∀ (s : State) (h : OrderHandle), s.closedOver h = true ↔ s.orderRecord h.record = { gen := h.gen, body := none } ∧
    ∃ r, (s.record r).closedOrder = some h ∧ (s.record r).state ∈ [.closing, .draining, .settling]) ∧
  (∀ (c : RequestCode) (s : State) (tag : Byte) (p : List Byte),
    c ∈ [.sessionClose, .sessionResume, .sessionQuery, .orderOpen, .gateOpen, .gateClose, .imageRead, .catalogueList] →
    s.Offers c tag p →
    (let early := (c = .imageRead ∧ ¬ (1 ≤ num2At p 9 ∧ num2At p 9 ≤ 4000)) ∨
      (c = .catalogueList ∧ ¬ (1 ≤ byteAt p 4 ∧ byteAt p 4 ≤ 32));
    (early → exec (c.instr tag) s = .next (s.answerNo tag c .badValue)) ∧
    (8 ≤ byteAt p 0 → exec (c.instr tag) s = .next (s.answerNo tag c .badValue)) ∧
    (∀ h : SessionHandle, ¬ early → byteAt p 0 = h.record.val → p.getD 1 0 = h.gen →
      (s.current h = false → exec (c.instr tag) s = .next (s.answerNo tag c .staleHandle)) ∧
      (s.current h = true → (s.record h.record).state = .suspended → c ∈ [.orderOpen, .gateOpen, .gateClose, .imageRead] →
        exec (c.instr tag) s = .next ((s.touch h.record).answerNo tag c .suspended)) ∧
      (s.current h = true → (s.record h.record).state ∈ [.closing, .draining, .settling] → c ≠ .sessionQuery →
        exec (c.instr tag) s = .next ((s.touch h.record).answerNo tag c .badState))))) ∧
  (∀ (c : RequestCode) (s : State) (tag : Byte) (p : List Byte),
    c ∈ [.lineAdd, .lineChange, .lineRemove, .orderQuote, .orderCommit, .orderCancel, .orderQuery, .rasterOpen, .rasterData,
      .rasterAbort, .rasterQuery] → s.Offers c tag p →
    (let early := c = .rasterData ∧ 4088 < (p.drop 7).length;
    (early → exec (c.instr tag) s = .next (s.answerNo tag c .badValue)) ∧
    (16 ≤ byteAt p 0 → exec (c.instr tag) s = .next (s.answerNo tag c .badValue)) ∧
    (∀ h : OrderHandle, ¬ early → byteAt p 0 = h.record.val → p.getD 1 0 = h.gen →
      (s.order? h = none → s.closedOver h = false ∨ c ∈ [.orderQuery, .rasterQuery] →
        exec (c.instr tag) s = .next (s.answerNo tag c .staleHandle)) ∧
      (s.closedOver h = true → c ∉ [.orderQuery, .rasterQuery] → exec (c.instr tag) s = .next (s.answerNo tag c .badState)) ∧
      (∀ o, s.order? h = some o → c ∉ [.orderCancel, .orderQuery, .rasterQuery] →
        ((s.record o.session.record).state = .suspended →
          exec (c.instr tag) s = .next ((s.touchHandle o.session).answerNo tag c .suspended)) ∧
        ((s.record o.session.record).state ∈ [.closing, .draining, .settling] →
          exec (c.instr tag) s = .next ((s.touchHandle o.session).answerNo tag c .badState))))))

/-- SESSION_QUERY, CATALOGUE_LIST, ORDER_QUERY and RASTER_QUERY answer with the records as they stand at the taking; they restart
the idle timer of an ACTIVE session and change nothing else but the link (R36, R68, R99, R139, R35). A CATALOGUE_LIST whose count is
outside 1 to 32 is refused before the handle check and leaves the timer alone (log 21). The fields not laid out in 11 are laid out as
log 10 says, the running-or-stopped byte of SESSION_QUERY as log 37; that its idle timer count is read behind the restart, and goes out in
4 bytes, is log 48, and what ORDER_QUERY's stale byte tells log 50. -/
def Obligations.QueriesOfASessionAndOfAnOrder : Prop :=
  (∀ (s : State) (tag : Byte) (p : List Byte) (h : SessionHandle), s.Offers .sessionQuery tag p →
    byteAt p 0 = h.record.val → p.getD 1 0 = h.gen → s.current h = true →
    exec (.sessionQuery tag) s = .next ((s.touch h.record).answerOk tag .sessionQuery ((s.touch h.record).sessionFields h))) ∧
  (∀ (s : State) (tag : Byte) (p : List Byte) (h : SessionHandle), s.Offers .catalogueList tag p →
    byteAt p 0 = h.record.val → p.getD 1 0 = h.gen → s.current h = true →
    (s.record h.record).state ∈ [.active, .suspended] →
    exec (.catalogueList tag) s = .next (
      if 1 ≤ byteAt p 4 ∧ byteAt p 4 ≤ 32 then
        (s.touch h.record).answerOk tag .catalogueList (s.listFields h (num2At p 2) (byteAt p 4))
      else s.answerNo tag .catalogueList .badValue)) ∧
  (∀ (s : State) (tag : Byte) (p : List Byte) (h : OrderHandle) (o : Order), s.Offers .orderQuery tag p →
    byteAt p 0 = h.record.val → p.getD 1 0 = h.gen → s.order? h = some o →
    exec (.orderQuery tag) s = .next ((s.touchHandle o.session).answerOk tag .orderQuery (s.orderFields h o))) ∧
  (∀ (s : State) (tag : Byte) (p : List Byte) (h : OrderHandle) (o : Order), s.Offers .rasterQuery tag p →
    byteAt p 0 = h.record.val → p.getD 1 0 = h.gen → s.order? h = some o →
    (16 ≤ byteAt p 2 →
      exec (.rasterQuery tag) s = .next ((s.touchHandle o.session).answerNo tag .rasterQuery .badValue)) ∧
    (∀ k : Fin 16, byteAt p 2 = k.val →
      exec (.rasterQuery tag) s = .next (
        if o.lines.get k = none then (s.touchHandle o.session).answerNo tag .rasterQuery .noLine
        else match s.spool.rasters.find? (fun x => x.order = h ∧ x.line = k) with
          | none => (s.touchHandle o.session).answerNo tag .rasterQuery .noRaster
          | some x => (s.touchHandle o.session).answerOk tag .rasterQuery x.fields)))

/-- SESSION_OPEN: the checks of R20 in their order, then the session of the lowest IDLE record, as R19, R21 and R22 give it: it is
the station's front session, ACTIVE with its timer at 0, with no orders, no credit, no entries and no condition, and every MOUNTED
slot of the station is bound to it and SCANNING. The other records and slots stay as they are. The order of the frames, the reply
last, is log 9. -/
def Obligations.SessionOpenOpensTheLowestIdleRecord : Prop :=
  ∀ (s : State) (tag : Byte) (p : List Byte), s.Offers .sessionOpen tag p →
    ((∀ st : Station, byteAt p 0 = st.code → s.power.profile.hasStation st = false) →
      exec (.sessionOpen tag) s = .next (s.answerNo tag .sessionOpen .badValue)) ∧
    (∀ st : Station, byteAt p 0 = st.code → s.power.profile.hasStation st = true →
      (s.conds.inService = false → exec (.sessionOpen tag) s = .next (s.answerNo tag .sessionOpen .outOfService)) ∧
      (s.conds.inService = true → s.power.standby = true →
        exec (.sessionOpen tag) s = .next (s.answerNo tag .sessionOpen .standby)) ∧
      (s.conds.inService = true → s.power.standby = false → s.front st ≠ none →
        exec (.sessionOpen tag) s = .next (s.answerNo tag .sessionOpen .stationBusy)) ∧
      (s.conds.inService = true → s.power.standby = false → s.front st = none →
        (∀ r, (s.record r).state ≠ .idle) → exec (.sessionOpen tag) s = .next (s.answerNo tag .sessionOpen .noSession)) ∧
      (∀ r : Fin 8, s.conds.inService = true → s.power.standby = false → s.front st = none →
        (s.record r).state = .idle → (∀ q : Fin 8, q < r → (s.record q).state ≠ .idle) →
        ∃ t, exec (.sessionOpen tag) s = .next t ∧
          (let h : SessionHandle := { record := r, gen := (s.record r).gen + 1 };
            t.record r = { state := .active, gen := h.gen, station := some st, uncommitted := none, committed := [],
                           timer := .running s.now, totals := Totals.zero, closedOrder := none } ∧
            (∀ q, q ≠ r → t.record q = s.record q) ∧ t.front st = some h ∧
            (∀ st', st' ≠ st → t.front st' = s.front st') ∧
            t.account r = { credit := 0, cashPaid := 0, cardPaid := 0 } ∧ (∀ q, q ≠ r → t.account q = s.account q) ∧
            (t.sessionSet r).bits = 0 ∧ (t.sessionSet r).mask = s.defaultSessionMask ∧
            t.catalogue.lists.get r = [] ∧ t.catalogue.table = s.catalogue.table ∧
            (∀ n : Fin 4, (s.slot n).state = .mounted → s.power.profile.stationOfSlot n = st →
              (t.slot n).state = .scanning ∧ (t.slot n).bound = some h ∧ (t.slot n).scan = some Scan.start ∧
              ((s.slot n).inFlight = none → (t.slot n).inFlight = some .blockRead)) ∧
            (∀ n : Fin 4, ((s.slot n).state ≠ .mounted ∨ s.power.profile.stationOfSlot n ≠ st) → t.slot n = s.slot n) ∧
            (∃ notices, t.link.queue = s.link.queue ++ notices ++
              [⟨.reply, tag, 0x10, 0x00 :: (h.bytes ++ le1 (bitsOf (fun n : Fin 4 => (t.slot n).bound = some h)).toNat)⟩] ∧
              ∀ f ∈ notices, f.kind = .notice ∧ f.code = 0xC2) ∧
            t.link.table = s.link.table.filter (fun e => e.tag ≠ tag) ∧
            s.ChangesOnly t [.link, .sessions, .slots, .catalogue, .money, .conds, .sent])))

/-- SESSION_RESUME of a current ACTIVE or SUSPENDED session: BAD_STATE unless it is SUSPENDED, CONDITION_PENDING while a condition of
its set resolves to SUSPEND or the kiosk is OUT_OF_SERVICE; otherwise it is ACTIVE with its timer running from 0 (R34, R35). An ACTIVE
session's idle timer that reaches its limit restarts at 0 and sets IDLE_TIMEOUT (S5), which suspends the session where it resolves to
SUSPEND from another action (R35, R161, R168). That the expiry in another state, where no timer runs, changes nothing is log 3. -/
def Obligations.SessionsResumeAndTheirTimersExpire : Prop :=
  (∀ (s : State) (tag : Byte) (p : List Byte) (h : SessionHandle), s.Offers .sessionResume tag p →
    byteAt p 0 = h.record.val → p.getD 1 0 = h.gen → s.current h = true →
    (s.record h.record).state ∈ [.active, .suspended] →
    exec (.sessionResume tag) s = .next (
      let t := s.touch h.record
      if (s.record h.record).state = .active then t.answerNo tag .sessionResume .badState
      else if (∃ i, s.sessionResolved h.record i = .suspend) ∨ s.conds.inService = false then
        t.answerNo tag .sessionResume .conditionPending
      else (t.setRecord h.record { t.record h.record with state := .active, timer := .running s.now }).answerOk tag
        .sessionResume [])) ∧
  (∀ (s : State) (r : Fin 8),
    ((s.record r).state ≠ .active → exec (.idleTimerExpiry r) s = .next s) ∧
    ((s.record r).state = .active → ∀ since, (s.record r).timer = .running since →
      ∃ t, exec (.idleTimerExpiry r) s = .next t ∧ (t.record r).timer.count s.now = 0 ∧
        (t.sessionSet r).bits = setBit (s.sessionSet r).bits 5 ∧
        ((s.sessionSet r).bits.getLsbD 5 = false → s.conds.mode = .customer → (s.sessionSet r).mask.getLsbD 5 = true →
          (s.sessionSet r).recorded.get 5 = .unset → (t.record r).state = .suspended) ∧
        ((s.sessionSet r).mask.getLsbD 5 = false → (t.record r).state = .active) ∧
        (∀ q, q ≠ r → t.record q = s.record q ∧ t.sessionSet q = s.sessionSet q) ∧
        s.ChangesOnly t [.sessions, .conds, .link, .money, .sent]))

/-- SESSION_CLOSE of an ACTIVE or SUSPENDED session, at its taking (R25): it is CLOSING with its idle timer stopped (R35); its station's
gate is closed, with a HELD bill answered RETURN (R106, R27); each bound slot is LEFT, its reads answered STALE_HANDLE (0x20) in their
order and a scan in progress ended CLOSED (R45); the positions of its entries are free with their generations kept and have left its
list (R69, R71); an EDITING or QUOTED order is cancelled with its ORDER notice, the cancel of an AUTHORISING one is asked, once (R26,
R89, R90). It stays in CLOSING exactly while it has money in flight; otherwise its station is free (R27). The reply OK tells its state.
The order of what goes out, the reply last, is log 9; that a probe in flight stays is log 13; that the record names no station from
CLOSING's end on is DEDUCED (log 32). What a cancel does is stated in OrderCancelByState and AuthorisationsEndWithoutApproval, where it
goes from CLOSING in SessionsLeaveClosingAndSettle. -/
def Obligations.SessionCloseGivesUpTheStation : Prop :=
  (∀ (s : State) (n : Fin 4), s.closeSlot n = (
    let x := s.slot n;
    let t := x.reads.foldl (fun w r => w.replyWith r.tag .staleHandle []) s;
    let u := if x.state = .scanning then t.scanNotice n .closed else t;
    (u.setSlot n { x with
      state := .left, faultCause := none, bound := none, reads := [], serving := none
      inFlight := if x.inFlight = some .probe then some .probe else none }).slotNotice n .closed)) ∧
  (∀ (c : Catalogue) (r : Fin 8) (p : CatEntry → Bool),
    (let d := c.freeWhere r p;
    let gone : Fin 2048 → Bool := fun q => (c.table.get q).entry.any p;
    (∀ q, d.table.get q = if q ∈ c.lists.get r ∧ gone q = true then { gen := (c.table.get q).gen, entry := none }
      else c.table.get q) ∧
    d.lists = put c.lists r ((c.lists.get r).filter (fun q => !gone q)) ∧ d.handOffs = c.handOffs ∧ d.removals = c.removals)) ∧
  (∀ (s : State) (tag : Byte) (p : List Byte) (h : SessionHandle), s.Offers .sessionClose tag p →
    byteAt p 0 = h.record.val → p.getD 1 0 = h.gen → s.current h = true →
    (s.record h.record).state ∈ [.active, .suspended] →
    (let x := s.record h.record;
    let closing := (s.holds tag).setRecord h.record { x with state := .closing, timer := .stopped (match x.timer with
      | .running _ => 0
      | .stopped count => count) };
    let gated := closing.closeStationGate x.station (some .closed);
    let left := ((allFin 4).filter (fun n => (s.slot n).bound = some h)).foldl State.closeSlot gated;
    let freed : State := { left with catalogue := left.catalogue.freeWhere h.record (fun _ => true) };
    let ended := match x.uncommitted with
      | none => freed
      | some k => match s.order? k with
        | none => freed
        | some o =>
          if o.state ∈ ([.editing, .quoted] : List OrderState) then (freed.cancelOrder k o).notify 0xC4 (k.bytes ++ o.session.bytes ++ [5, 7])
          else if o.cancel = true then freed
          else (freed.setOrder k.record { o with cancel := true }).cancelAuth k;
    let t := ended.closingExitOf (some h);
    exec (.sessionClose tag) s = .next (t.ok tag (le1 (t.record h.record).state.code)) ∧
      (t.record h.record).state ∈ [.closing, .draining, .settling, .idle] ∧ (t.record h.record).gen = h.gen ∧
      ((t.record h.record).state = .closing ↔ t.moneyInFlight h = true) ∧
      ((t.record h.record).state ≠ .closing → (t.record h.record).station = none ∧
        (∀ st, (s.record h.record).station = some st → t.front st = none)) ∧
      (∀ n : Fin 4, (s.slot n).bound = some h → (t.slot n).state = .left ∧ (t.slot n).bound = none ∧ (t.slot n).reads = [] ∧
        (t.slot n).grade = (s.slot n).grade ∧ (t.slot n).errors = (s.slot n).errors ∧
        (t.slot n).identity = (s.slot n).identity) ∧
      (∀ n : Fin 4, (s.slot n).bound ≠ some h → t.slot n = s.slot n) ∧
      ((∀ q ∈ s.catalogue.lists.get h.record, (s.catalogue.table.get q).entry ≠ none) →
        t.catalogue.lists.get h.record = []) ∧
      (∀ u, (s.record h.record).station.bind s.power.profile.unitOf = some u → (t.unit u).gateOpen = false) ∧
      s.ChangesOnly t [.link, .sessions, .slots, .catalogue, .orders, .money, .spool, .conds, .sent]))


/-- A CLOSING session without a bill in escrow on its behalf and without an authorisation outstanding leaves CLOSING: its front flag
and its station are cleared, and with committed orders it goes to DRAINING, else to settlement (R27). Settlement by the credit, the
settling queue and the slip log, and the values of a record gone to IDLE with its notice (R29, R30, R31, R32, R123); a committed order
that leaves its session's list adds to its totals, and the last of a DRAINING session settles it (R24, R28). That a record names no
station from CLOSING's end on is DEDUCED (log 32), that the SLIP notice goes out before the SESSION notice is log 9. -/
def Obligations.SessionsLeaveClosingAndSettle : Prop :=
  (∀ (s : State) (h : SessionHandle), s.moneyInFlight h = true ↔
    (∃ u, match (s.unit u).escrow with
      | .none => False
      | .held _ _ f => f = h
      | .stacking _ _ f _ => f = h
      | .returning _ _ f _ => f = some h) ∨
    (∃ a : Auth, a.session = h ∧ (a ∈ s.money.terminal.waiting ∨ (∃ t, s.money.terminal.state = .busy a t) ∨
      (∃ ref t, s.money.terminal.state = .cancelling ref (some a) t)))) ∧
  (∀ s : State, s.closingExitOf none = s) ∧
  (∀ (s : State) (h : SessionHandle), s.closingExitOf (some h) =
    if s.current h = true ∧ (s.record h.record).state = .closing ∧ s.moneyInFlight h = false then s.leaveClosing h.record else s) ∧
  (∀ (s : State) (r : Fin 8), s.leaveClosing r = (
    let x := s.record r;
    let t : State := { s with sessions := { s.sessions with
      records := put s.sessions.records r { x with station := none }
      fronts := (match x.station with
        | some st => put s.sessions.fronts st.index none
        | none => s.sessions.fronts) } };
    if x.committed = [] then t.settle r
    else (t.setRecord r { x with station := none, state := .draining }).notify 0xC1 (le1 r.val ++ [x.gen] ++ [4, 2]))) ∧
  (∀ (s : State) (r : Fin 8), s.settle r = (
    let x := s.record r;
    let credit := (s.account r).credit;
    let h : SessionHandle := { record := r, gen := x.gen };
    if credit = 0 then s.goIdle r none
    else if s.sessions.settling = [] ∧ s.money.slips.length < 16 then
      (s.issueSlip (some h) credit .settlement).goIdle r (some (credit, s.money.slipCounter))
    else State.notify { s with sessions := { s.sessions with
        records := put s.sessions.records r { x with state := .settling }, settling := s.sessions.settling ++ [r] } }
      0xC1 (h.bytes ++ [5] ++ (if s.sessions.settling = [] then [3] else [4])))) ∧
  (∀ (s : State) (h : Option SessionHandle) (amount : Nat) (cause : SlipCause), s.issueSlip h amount cause = (
    let n := s.money.slipCounter;
    let till := s.money.till;
    State.notify { s with money := { s.money with
      slips := s.money.slips ++ [{ number := n, session := h, amount := amount, cause := cause }]
      slipCounter := if n = 65535 then 1 else n + 1
      till := { till with slipsIssued := till.slipsIssued + BitVec.ofNat 32 amount } } }
      0xC9 (le2 n.toNat ++ sessionBytes h ++ le4 amount ++ le1 cause.code))) ∧
  (∀ (s : State) (r : Fin 8) (slip : Option (Nat × BitVec 16)), s.goIdle r slip = (
    let x := s.record r;
    let a := s.account r;
    let amount := match slip with
      | some y => y.1
      | none => 0;
    let number := slip.map (fun y => y.2);
    let t : State := { s with
      sessions := { s.sessions with records := put s.sessions.records r { x with
        state := .idle, station := none, uncommitted := none, committed := [], timer := .stopped 0
        totals := { x.totals with slipAmount := amount, slipNumber := number }, closedOrder := none } }
      money := { s.money with accounts := put s.money.accounts r { a with credit := 0 } }
      conds := { s.conds with
        sessions := put s.conds.sessions r { bits := 0, mask := s.defaultSessionMask, recorded := Vector.replicate 8 .unset } } };
    t.notify 0xC1 (le1 r.val ++ [x.gen] ++ [0, 5] ++ le4 (a.cashPaid + a.cardPaid) ++ le4 x.totals.earned ++
      le4 x.totals.refunded ++ le4 amount ++ (match number with
        | some n => le2 n.toNat
        | none => [0, 0])))) ∧
  (∀ (s : State) (h : SessionHandle) (o : OrderHandle) (earned refunded : Nat), s.orderLeft h o earned refunded = (
    let x := s.record h.record;
    let rest := x.committed.filter (fun c => c ≠ o);
    let t := s.setRecord h.record { x with
      committed := rest
      totals := { x.totals with earned := x.totals.earned + earned, refunded := x.totals.refunded + refunded } };
    if s.current h = false then s
    else if x.state = .draining ∧ rest = [] then t.settle h.record
    else t))

/-! ### Card slots (03) and the catalogue (04) -/

/-- The slot after a reading of presence that confirms nothing; none where the reading is the last of a run of `limit`. -/
def sensed (x : Slot) (level : Bool) (limit : Nat) : Option Slot :=
  if level = x.present then some { x with run := 0, state := if x.state = .settling then .empty else x.state }
  else if x.run + 1 < limit then
    some { x with run := x.run + 1, state := if x.state = .empty then .settling else x.state }
  else none

/-- A slot whose bus command had an outcome: the bus is free and the probe interval of the power state restarts. -/
def busFree (s : State) (x : Slot) : Slot :=
  { x with inFlight := none, lastOutcome := s.now, probeInterval := if s.power.standby then 2000 else 500 }

/-- The exchange now in flight on a slot's bus. -/
def lastExchange (s : State) (n : Fin 4) : Exchange := { slot := n, number := (s.slot n).exchange }

/-- A command put on the bus of a slot that then stands as `x`, as the bus's next exchange (R49, log 13). -/
def issued (s : State) (n : Fin 4) (x : Slot) (c : CardCommand) : State :=
  { s.setSlot n { x with inFlight := some c, exchange := x.exchange + 1, issuedAt := s.now } with
    sent := s.sent ++ [.card n (x.exchange + 1) c] }

/-- Sensing: in STATIC mode the detect switch confirms a change with 15 readings in a row, in CYCLIC mode the card bus with 2. A
probe goes out in CYCLIC mode on an idle bus in EMPTY, SETTLING, MOUNTED, LEFT and FAULT, and its answer or timeout is a reading and
frees the bus (R38, R39, R49). A free bus with no unit in service then carries the identification in MOUNTING, the oldest read or else
a scan step in SCANNING, the oldest read in READY (R49). Before start-up has ended nothing is sensed (log 20). That READY and SCANNING
carry no probe is log 12, that an answer or a timeout without its probe in flight changes nothing log 3, the numbers of exchanges log
13. -/
def Obligations.SensingConfirmsAChangeOfPresence : Prop :=
  (∀ (s : State) (n : Fin 4), s.serveNext n = (
    let x := s.slot n;
    if x.inFlight ≠ none ∨ x.serving ≠ none then s
    else match x.state with
      | .mounting => issued s n x .identification
      | .scanning =>
        issued s n { x with serving := some (if x.reads = [] then .step .directory else .read []) } .blockRead
      | .ready => if x.reads = [] then s else issued s n { x with serving := some (.read []) } .blockRead
      | _ => s)) ∧
  (∀ (s : State) (n : Fin 4),
    (s.power.starting = true → (∀ b, exec (.slotSample n b) s = .next s) ∧ exec (.probeDue n) s = .next s ∧
      (∀ k, exec (.probeAnswer { slot := n, number := k }) s = .next s) ∧ exec (.probeTimeout n) s = .next s) ∧
    (s.power.starting = false →
      (∀ b, exec (.slotSample n b) s = .next (
        if s.cyclic n then s
        else match sensed (s.slot n) b 15 with
          | some x => s.setSlot n x
          | none => if b then s.insertionConfirmed n else s.removalConfirmed n)) ∧
      exec (.probeDue n) s = .next (
        if s.cyclic n ∧ (s.slot n).inFlight = none ∧ (s.slot n).serving = none ∧
            (s.slot n).state ∈ [.empty, .settling, .mounted, .left, .fault] then issued s n (s.slot n) .probe
        else s) ∧
      (∀ k, k ≠ (s.slot n).exchange → exec (.probeAnswer { slot := n, number := k }) s = .next s) ∧
      (∀ b, exec (if b then .probeAnswer (lastExchange s n) else .probeTimeout n) s = .next (
        if (s.slot n).inFlight = some .probe then
          let t := s.setSlot n (busFree s (s.slot n));
          State.serveNext (
            if s.cyclic n then
              match sensed (busFree s (s.slot n)) b 2 with
              | some y => t.setSlot n y
              | none => if b then t.insertionConfirmed n else t.removalConfirmed n
            else t) n
        else s))))

/-- A reading that confirms a change of presence, with the slot as it finds it: in STATIC mode the fifteenth sample of the detect
switch, in CYCLIC mode the second probe's answer or timeout (R38, R39). -/
def confirms (s : State) (n : Fin 4) (level : Bool) (c : Instr) (x : Slot) : Prop :=
  (s.cyclic n = false ∧ 14 ≤ (s.slot n).run ∧ c = .slotSample n level ∧ x = s.slot n) ∨
  (s.cyclic n = true ∧ 1 ≤ (s.slot n).run ∧ (s.slot n).inFlight = some .probe ∧
    c = (if level then .probeAnswer (lastExchange s n) else .probeTimeout n) ∧ x = busFree s (s.slot n))

/-- A confirmed insertion puts the slot in MOUNTING with its insertion owner, starts the identification and is the wake cause CARD
(R40, R184). A confirmed removal answers the slot's reads MEDIA_GONE (0x34), oldest first, ends a scan in progress REMOVED, empties the
slot with its SLOT notice and, from a bound slot, goes on to the Catalogue (R43, R44, R55). That the Catalogue and the Order Unit take
a removal as steps of their own is log 15, the numbers of exchanges log 13, the order of what goes out log 9, the notice's layout log
10. -/
def Obligations.ConfirmedChangesOfPresence : Prop :=
  (∀ (s : State) (n : Fin 4) (cause : SlotCause), s.slotNotice n cause = (
    let x := s.slot n;
    s.notify 0xC2 (le1 n.val ++ le1 x.state.code ++ sessionBytes x.bound ++ noticeField gradeCode x.grade ++
      noticeField SlotFault.code x.faultCause ++ le1 cause.code))) ∧
  (∀ (s : State) (n : Fin 4), s.removalConfirmed n = (
    let x := s.slot n;
    let t := x.reads.foldl (fun w r => w.replyWith r.tag .mediaGone []) s;
    let u := if x.state = .scanning then t.scanNotice n .removed else t;
    let v := (u.setSlot n { x with
      state := .empty, faultCause := none, present := false, run := 0, insertionOwner := none, bound := none
      identity := none, grade := none, errors := 0, reads := [], scan := none, serving := none, inFlight := none }).slotNotice n
        .removed;
    match x.bound with
    | some h => { v with catalogue := { v.catalogue with removals := v.catalogue.removals ++ [{ owner := h, slot := n }] } }
    | none => v)) ∧
  (∀ (s : State) (n : Fin 4) (c : Instr) (x : Slot), s.power.starting = false →
    (confirms s n true c x → (s.slot n).present = false → x.inFlight = none → (s.slot n).serving = none →
      ∃ t, exec c s = .next t ∧
        t.slot n = { x with
          state := .mounting, present := true, run := 0, mountedAt := s.now, inFlight := some .identification, issuedAt := s.now
          exchange := x.exchange + 1
          insertionOwner := match s.front (s.power.profile.stationOfSlot n) with
            | some h => if (s.record h.record).state ∈ [.active, .suspended] then some h else none
            | none => none } ∧
        (∀ m, m ≠ n → t.slot m = s.slot m) ∧ t.sent = s.sent ++ [.card n (x.exchange + 1) .identification] ∧
        t.power = { s.power with latches :=
          if s.power.standby = true ∧ s.wakeEnables.getLsbD 0 = true then setBit s.power.latches 0 else s.power.latches } ∧
        s.ChangesOnly t [.slots, .sent, .link, .power]) ∧
    (confirms s n false c x → (s.slot n).present = true →
      ∃ t, exec c s = .next t ∧
        t.slot n = { x with
          state := .empty, faultCause := none, present := false, run := 0, insertionOwner := none, bound := none
          identity := none, grade := none, errors := 0, reads := [], scan := none, serving := none, inFlight := none } ∧
        (∀ m, m ≠ n → t.slot m = s.slot m) ∧
        t.catalogue = { s.catalogue with removals := s.catalogue.removals ++ (match (s.slot n).bound with
          | some h => [{ owner := h, slot := n }]
          | none => []) } ∧
        t.link.table = s.link.table.filter (fun e => !(s.slot n).reads.any (fun r => r.tag = e.tag)) ∧
        s.ChangesOnly t [.slots, .link, .catalogue]))

/-- An identification that fails, or 1 s without an answer, leaves the slot in FAULT with UNREADABLE; in CYCLIC mode the timeout is
a reading too and may confirm a removal instead. One that succeeds gives the identity, the lower of the two grades and a counter of
0, and the slot goes to LEFT, to SCANNING for the front session, or to MOUNTED (R41, R42). The answer to an identification no longer in
flight is ignored (R43, R56); that an answer names its exchange is log 13. That the reading comes before the failure is log 33, that a
timeout outside MOUNTING changes nothing log 3. -/
def Obligations.IdentificationMountsTheCard : Prop :=
  ∀ (s : State) (n : Fin 4), s.power.starting = false →
    (∀ (k : Nat) (a : IdentAnswer), (s.slot n).inFlight ≠ some .identification ∨ k ≠ (s.slot n).exchange →
      exec (.identificationAnswer { slot := n, number := k } a) s = .next s) ∧
    ((s.slot n).state ≠ .mounting → exec (.identificationTimeout n) s = .next s) ∧
    ((s.slot n).state = .mounting → (s.slot n).present = true → (s.slot n).serving = none →
      (∀ c, c ∈ [Instr.identificationAnswer (lastExchange s n) .error, .identificationAnswer (lastExchange s n) .noFileSystem,
          .identificationTimeout n] →
        (s.slot n).inFlight = some .identification ∨ c = .identificationTimeout n →
        (c = .identificationTimeout n → s.cyclic n = false ∨ (s.slot n).run = 0) →
        ∃ t, exec c s = .next t ∧ (t.slot n).state = .fault ∧ (t.slot n).faultCause = some .unreadable ∧
          (t.slot n).insertionOwner = none ∧ (t.slot n).inFlight = none ∧ (t.slot n).bound = (s.slot n).bound ∧
          (∀ m, m ≠ n → t.slot m = s.slot m) ∧ s.ChangesOnly t [.slots, .link]) ∧
      ((s.slot n).inFlight = some .identification → s.cyclic n = true → 1 ≤ (s.slot n).run →
        ∃ t, exec (.identificationTimeout n) s = .next t ∧ (t.slot n).state = .empty ∧ (t.slot n).present = false) ∧
      ((s.slot n).inFlight = some .identification → ∀ (capability : Grade) (capacity : Nat),
        ∃ t, exec (.identificationAnswer (lastExchange s n) (.card capability capacity)) s = .next t ∧
          (t.slot n).identity = some { capability := capability, capacity := capacity } ∧
          (t.slot n).grade =
            some (if gradeCode capability ≤ gradeCode (s.maxGrade n) then capability else s.maxGrade n) ∧
          (t.slot n).errors = 0 ∧ (t.slot n).insertionOwner = none ∧
          (if ∃ h, (s.slot n).insertionOwner = some h ∧
              ¬ (s.current h = true ∧ (s.record h.record).state ∈ [.active, .suspended]) then
            (t.slot n).state = .left ∧ (t.slot n).bound = (s.slot n).bound
          else match s.front (s.power.profile.stationOfSlot n) with
            | some h =>
              if (s.record h.record).state ∈ [.active, .suspended] then
                (t.slot n).state = .scanning ∧ (t.slot n).bound = some h ∧ (t.slot n).scan = some Scan.start ∧
                  (t.slot n).inFlight = some .blockRead
              else (t.slot n).state = .mounted ∧ (t.slot n).bound = (s.slot n).bound
            | none => (t.slot n).state = .mounted ∧ (t.slot n).bound = (s.slot n).bound) ∧
          (∀ m, m ≠ n → t.slot m = s.slot m) ∧ s.ChangesOnly t [.slots, .sent, .catalogue, .link]))

/-- IMAGE_READ for an ACTIVE session: the checks in their order, ACCESS_DENIED with ACCESS_VIOLATION (S6) raised; then the read
joins the queue of the entry's slot, its length held to the end of the file (R53, R54, R64). MEDIA_GONE for the other slot states is
log 16, the length's place before the handle check log 21, that a refusal goes out behind what it sets off log 9. -/
def Obligations.ImageReadJoinsTheQueueOfItsSlot : Prop :=
  ∀ (s : State) (tag : Byte) (p : List Byte) (h : SessionHandle), s.Offers .imageRead tag p →
    byteAt p 0 = h.record.val → p.getD 1 0 = h.gen → s.current h = true → (s.record h.record).state = .active →
    exec (.imageRead tag) s = .next (
      let length := num2At p 9;
      let offset := num4At p 5;
      let t := s.touch h.record;
      if length = 0 ∨ 4000 < length then s.answerNo tag .imageRead .badValue
      else if hp : num2At p 2 < 2048 then
        let i : CatHandle := { position := ⟨num2At p 2, hp⟩, gen := p.getD 4 0 };
        match s.catalogue.entry? i with
        | none => t.answerNo tag .imageRead .staleHandle
        | some e =>
          let x := s.slot e.slot;
          if e.owner ≠ h then
            State.refuse ((t.holds tag).raiseSession h 6 [p.getD 2 0, p.getD 3 0, p.getD 4 0]) tag .accessDenied
          else if e.size ≤ offset then t.answerNo tag .imageRead .badRange
          else if x.state = .fault then t.answerNo tag .imageRead .mediaFault
          else if x.state ∉ [.scanning, .ready] then t.answerNo tag .imageRead .mediaGone
          else if 8 ≤ x.reads.length then t.answerNo tag .imageRead .busy
          else State.serveNext ((t.holds tag).setSlot e.slot { x with
            reads := x.reads ++ [{ tag := tag, image := i, offset := offset, length := min length (e.size - offset) }] }) e.slot
      else t.answerNo tag .imageRead .badValue)

/-- The slot once a block read in flight has ended well or with an error: the bus is free, and in CYCLIC mode the run is 0 (R39). -/
def blockEnded (s : State) (n : Fin 4) : Slot :=
  { busFree s (s.slot n) with run := if s.cyclic n then 0 else (s.slot n).run }

/-- A block read made for an image read. A good one lowers the counter and brings the read's bytes nearer to its end, where the read
is answered OK; an error, or 250 ms without an answer, answers it MEDIA_ERROR and raises the counter, which at its limit lowers the
grade and at G0 puts the slot in FAULT (R47, R48, R54). The answer to another exchange is ignored (log 13). What the card's blocks hold
is an operand (log 14); that the reply goes out before what the counter sets off is log 9. -/
def Obligations.BlockReadsServeTheImageRead : Prop :=
  ∀ (s : State) (n : Fin 4) (got : List Byte) (r : Read) (rest : List Read), s.power.starting = false →
    (s.slot n).inFlight = some .blockRead → (s.slot n).serving = some (.read got) → (s.slot n).reads = r :: rest →
    (s.slot n).present = true → (s.slot n).state ∈ [.scanning, .ready] →
    (∀ bytes : List Byte, bytes.length ≤ 512 → (got ++ bytes).length < r.length →
      exec (.blockReadAnswer (lastExchange s n) (.good (.data bytes))) s = .next (issued s n { blockEnded s n with
        errors := (s.slot n).errors - 1, serving := some (.read (got ++ bytes)) } .blockRead)) ∧
    (∀ (k : Nat) (a : BlockAnswer), k ≠ (s.slot n).exchange → exec (.blockReadAnswer { slot := n, number := k } a) s = .next s) ∧
    (∀ bytes : List Byte, bytes.length ≤ 512 → r.length ≤ (got ++ bytes).length →
      exec (.blockReadAnswer (lastExchange s n) (.good (.data bytes))) s = .next (State.serveNext (
        (s.setSlot n { blockEnded s n with errors := (s.slot n).errors - 1, reads := rest, serving := none }).replyWith r.tag .ok
          (r.image.bytes ++ le4 r.offset ++ le2 r.length ++ (got ++ bytes).take r.length)) n)) ∧
    (∀ (c : Instr) (x : Slot),
      (c = .blockReadAnswer (lastExchange s n) .error ∧ x = blockEnded s n) ∨
        (c = .blockReadTimeout n ∧ s.cyclic n = false ∧ x = busFree s (s.slot n)) ∨
        (c = .blockReadTimeout n ∧ s.cyclic n = true ∧ (s.slot n).run = 0 ∧ x = { busFree s (s.slot n) with run := 1 }) →
      exec c s = .next (State.serveNext (
        let t := (s.setSlot n { x with reads := rest, serving := none }).replyWith r.tag .mediaError [];
        if (s.slot n).errors + 1 ≤ s.mediaErrLimit then
          t.setSlot n { x with reads := rest, serving := none, errors := (s.slot n).errors + 1 }
        else if (s.slot n).grade = some .g0 ∨ (s.slot n).grade = none then t.mediaFault n
        else (t.setSlot n { x with
          reads := rest, serving := none, errors := 0, grade := (s.slot n).grade.map lowerGrade }).slotNotice n .degraded) n)) ∧
    (s.cyclic n = true → 1 ≤ (s.slot n).run → ∃ t, exec (.blockReadTimeout n) s = .next t ∧
      (t.slot n).state = .empty ∧ (t.slot n).present = false ∧ (t.slot n).errors = 0)

/-- The slot in FAULT with MEDIA_ERRORS: a scan in progress ends FAULT, with CATALOGUE_FULL (S4) raised where it skipped a file for room
(R52); each of its reads is answered MEDIA_FAULT, oldest first, and SLOT_FAULT (K14) is raised; the card's identity and grade, the
slot's session and its scan record stay (R48). The order of what goes out is log 9. -/
def Obligations.MediaErrorsPutTheSlotInFault : Prop :=
  ∀ (s : State) (n : Fin 4),
    s.mediaFault n = (
      let x := s.slot n;
      let t := if x.state = .scanning then s.scanNotice n .fault else s;
      let u := match x.bound, x.scan with
        | some h, some k => if x.state = SlotState.scanning ∧ 0 < k.skippedRoom then t.raiseSession h 4 [BitVec.ofNat 8 n.val] else t
        | _, _ => t;
      let v := x.reads.foldl (fun w r => w.replyWith r.tag .mediaFault []) u;
      State.raiseKiosk ((v.setSlot n { x with
        state := .fault, faultCause := some .mediaErrors, reads := [], serving := none, inFlight := none }).slotNotice n
          .mediaErrors) 14 [BitVec.ofNat 8 n.val]) ∧
    (State.mediaFault s n).slot n = { s.slot n with
      state := .fault, faultCause := some .mediaErrors, reads := [], serving := none, inFlight := none } ∧
    (∀ m, m ≠ n → (s.mediaFault n).slot m = s.slot m) ∧
    (s.mediaFault n).link.table = s.link.table.filter (fun e => !(s.slot n).reads.any (fun r => r.tag = e.tag)) ∧
    ((s.link.table.map (fun e => e.tag)).Nodup → ∀ e ∈ s.link.table, ∀ r ∈ (s.slot n).reads, r.tag = e.tag →
      { kind := .reply, tag := e.tag, code := e.code.byte, payload := [0x33] } ∈ (s.mediaFault n).link.queue) ∧
    (s.mediaFault n).conds.kiosk.bits = setBit s.conds.kiosk.bits 14 ∧
    s.ChangesOnly (s.mediaFault n) [.slots, .link, .conds, .sessions, .money, .sent]

/-- A failed block read at the media error counter, the slot standing as `x` behind it: the counter rises to its limit; past it the grade
falls, with a SLOT notice, or at G0 the slot goes to FAULT (R47, R48). -/
def readFailed (s : State) (n : Fin 4) (x : Slot) : State :=
  if x.errors + 1 ≤ s.mediaErrLimit then s.setSlot n { x with errors := x.errors + 1 }
  else if x.grade = some .g0 ∨ x.grade = none then (s.setSlot n x).mediaFault n
  else (s.setSlot n { x with errors := 0, grade := x.grade.map lowerGrade }).slotNotice n .degraded

/-- A failed block read and the slot behind it: an error, or a timeout, which in CYCLIC mode is a negative reading as well and here does
not confirm a removal (R39, R47). -/
def readFails (s : State) (n : Fin 4) (c : Instr) (x : Slot) : Prop :=
  (c = .blockReadAnswer (lastExchange s n) .error ∧ x = blockEnded s n) ∨
  (c = .blockReadTimeout n ∧ s.cyclic n = false ∧ x = busFree s (s.slot n)) ∨
  (c = .blockReadTimeout n ∧ s.cyclic n = true ∧ (s.slot n).run = 0 ∧ x = { busFree s (s.slot n) with run := 1 })

/-- A scan step: a file of no picture kind, or of a size outside the limits, is counted and passed over; one that passes has its header
read, from the blocks of its first 64 KiB at most, and is then handed to the Catalogue with the fields found; the walk's end, or ordinal
65535, ends the scan in READY with a SCAN notice COMPLETE or TRUNCATED and a SLOT notice, and CATALOGUE_FULL (S4) is raised where a file
was skipped for room (R50, R51, R52). A failed directory block read is counted and made again; a failed header block hands the file on
with what was found; a failure that puts the slot in FAULT ends the scan FAULT, and a timeout that confirms a removal ends it REMOVED
(R39, R47, R48). That the bound is counted in blocks of the header's reading is log 14, the order of what goes out log 9, the layout of
the SCAN notice log 10. -/
def Obligations.ScanStepsWalkTheFiles : Prop :=
  (∀ (s : State) (n : Fin 4) (outcome : ScanOutcome) (k : Scan), (s.slot n).scan = some k → s.scanNotice n outcome =
    s.notify 0xC3 (le1 n.val ++ sessionBytes (s.slot n).bound ++ le4 k.next ++ le4 k.admitted ++ le4 k.skippedKind ++
      le4 k.skippedSize ++ le4 k.skippedRoom ++ flagByte k.truncated ++ le1 outcome.code)) ∧
  (∀ (s : State) (n : Fin 4) (outcome : ScanOutcome), s.endScan n outcome = (
    let x := s.slot n;
    let t := ((s.setSlot n { x with state := .ready, serving := none }).scanNotice n outcome).slotNotice n .scanEnd;
    State.serveNext (match x.bound, x.scan with
      | some h, some k => if 0 < k.skippedRoom then t.raiseSession h 4 [BitVec.ofNat 8 n.val] else t
      | _, _ => t) n)) ∧
  (∀ (s : State) (n : Fin 4) (k : Scan) (more : Bool), (s.slot n).scan = some k → s.finishStep n more = (
    let at' : Bool → State := fun cut => s.setSlot n { s.slot n with scan := some { k with
      next := k.next + 1, truncated := if cut then true else k.truncated } };
    if more = false then (at' false).endScan n .complete
    else if k.next = 65535 then (at' true).endScan n .truncated
    else State.serveNext ((at' false).setSlot n { (at' false).slot n with serving := none }) n)) ∧
  (∀ (s : State) (n : Fin 4) (k : Scan) (h : SessionHandle), s.power.starting = false →
    (s.slot n).inFlight = some .blockRead → (s.slot n).scan = some k → (s.slot n).bound = some h →
    (s.slot n).present = true → (s.slot n).state = .scanning →
    ((s.slot n).serving = some (.step .directory) →
      (let walked : Scan → State := fun k => s.setSlot n { blockEnded s n with errors := (s.slot n).errors - 1, scan := some k };
      exec (.blockReadAnswer (lastExchange s n) (.good .endOfWalk)) s = .next ((walked k).endScan n .complete) ∧
      (∀ f : FileRecord, kindOfFile f.first = none → exec (.blockReadAnswer (lastExchange s n) (.good (.file f))) s =
        .next ((walked { k with skippedKind := k.skippedKind + 1 }).finishStep n f.more)) ∧
      (∀ f : FileRecord, kindOfFile f.first ≠ none → f.size < s.minImage ∨ s.maxImage < f.size →
        exec (.blockReadAnswer (lastExchange s n) (.good (.file f))) s =
          .next ((walked { k with skippedSize := k.skippedSize + 1 }).finishStep n f.more))) ∧
      (∀ (c : Instr) (x : Slot), readFails s n c x → exec c s = .next (
        let t := readFailed s n x;
        if (t.slot n).state = .fault then t
        else issued t n { t.slot n with serving := some (.step .directory) } .blockRead)) ∧
      (∃ t, exec (.blockReadAnswer (lastExchange s n) (.good .endOfWalk)) s = .next t ∧ (t.slot n).state = .ready ∧ (t.slot n).scan = some k ∧
        (∀ m, m ≠ n → t.slot m = s.slot m) ∧ s.ChangesOnly t [.slots, .link, .sessions, .money, .sent, .conds]) ∧
      (∀ f : FileRecord, kindOfFile f.first = none ∨ f.size < s.minImage ∨ s.maxImage < f.size →
        ∃ t, exec (.blockReadAnswer (lastExchange s n) (.good (.file f))) s = .next t ∧
          (let k1 : Scan := if kindOfFile f.first = none then { k with next := k.next + 1, skippedKind := k.skippedKind + 1 }
            else { k with next := k.next + 1, skippedSize := k.skippedSize + 1 };
          if f.more = false then (t.slot n).state = .ready ∧ (t.slot n).scan = some k1
          else if k.next = 65535 then (t.slot n).state = .ready ∧ (t.slot n).scan = some { k1 with truncated := true }
          else (t.slot n).state = .scanning ∧ (t.slot n).scan = some k1 ∧ (t.slot n).inFlight = some .blockRead) ∧
          (∀ m, m ≠ n → t.slot m = s.slot m) ∧ s.ChangesOnly t [.slots, .link, .sessions, .money, .sent, .conds]) ∧
      (∀ f : FileRecord, kindOfFile f.first ≠ none → s.minImage ≤ f.size → f.size ≤ s.maxImage →
        exec (.blockReadAnswer (lastExchange s n) (.good (.file f))) s = .next (issued s n { blockEnded s n with
          errors := (s.slot n).errors - 1, serving := some (.step (.header f 0 HeaderFields.none)) } .blockRead))) ∧
    (∀ (f : FileRecord) (blocks : Nat) (found : HeaderFields) (kind : ImageKind), kindOfFile f.first = some kind →
      (s.slot n).serving = some (.step (.header f blocks found)) →
      (let last := (min 65536 f.size + 511) / 512 ≤ blocks + 1;
      let handed : HeaderFields → Nat → State := fun fields errors => { s.setSlot n { blockEnded s n with
          errors := errors, serving := some (.step (.handed f.more)) } with
          catalogue := { s.catalogue with handOffs := s.catalogue.handOffs ++ [{ owner := h, slot := n, ordinal := k.next, name := f.name.take 64, size := f.size, kind := kind, fields := fields }] } };
      (∀ fields, ¬ last → exec (.blockReadAnswer (lastExchange s n) (.good (.header fields false))) s =
        .next (issued s n { blockEnded s n with
          errors := (s.slot n).errors - 1, serving := some (.step (.header f (blocks + 1) (mergeFields found fields))) } .blockRead)) ∧
      (∀ fields finished, finished = true ∨ last →
        exec (.blockReadAnswer (lastExchange s n) (.good (.header fields finished))) s =
          .next (handed (mergeFields found fields) ((s.slot n).errors - 1))) ∧
      ((s.slot n).errors + 1 ≤ s.mediaErrLimit →
        exec (.blockReadAnswer (lastExchange s n) .error) s = .next (handed found ((s.slot n).errors + 1))) ∧
      (∀ (c : Instr) (x : Slot), readFails s n c x → exec c s = .next (
        let t := readFailed s n x;
        if (t.slot n).state = .fault then t
        else { t.setSlot n { t.slot n with serving := some (.step (.handed f.more)) } with
          catalogue := { t.catalogue with handOffs := t.catalogue.handOffs ++ [{ owner := h, slot := n, ordinal := k.next, name := f.name.take 64, size := f.size, kind := kind, fields := found }] } })))) ∧
    (∀ unit : Serving, (s.slot n).serving = some unit → s.cyclic n = true → 1 ≤ (s.slot n).run →
      exec (.blockReadTimeout n) s = .next ((s.setSlot n (busFree s (s.slot n))).removalConfirmed n)))

/-- What the admission of a file does to the table and the lists (R59, R60, R61 steps 2 to 5): a key already held in its probe window
makes no entry (ALREADY_HELD); a full list or a full window is NO_ROOM; else the first free position of the window is taken, its
generation risen by one, at the tail of the session's list. `after` holds of each answer. -/
def AdmissionGives (s t : State) (f : HandOff) (after : Admission → Prop) : Prop :=
  let r := f.owner.record;
  let at' : Nat → Fin 2048 := fun i => positionAt ((f.ordinal * 37 + f.slot.val * 521 + r.val * 1031) % 2048 + i);
  let keyAt : Nat → Prop := fun i => ∃ e, (s.catalogue.table.get (at' i)).entry = some e ∧ e.owner.record = r ∧
    e.slot = f.slot ∧ e.ordinal = f.ordinal;
  let unchanged : Prop := t.catalogue.table = s.catalogue.table ∧ t.catalogue.lists = s.catalogue.lists;
  ((∃ i < 16, keyAt i) → unchanged ∧ after .alreadyHeld) ∧
  ((∀ i < 16, ¬ keyAt i) →
    (s.catQuota ≤ (s.catalogue.lists.get r).length ∨ (∀ i < 16, (s.catalogue.table.get (at' i)).entry ≠ none)) →
    unchanged ∧ after .noRoom) ∧
  (∀ i < 16, (∀ i < 16, ¬ keyAt i) → (s.catalogue.lists.get r).length < s.catQuota →
    (s.catalogue.table.get (at' i)).entry = none → (∀ j < i, (s.catalogue.table.get (at' j)).entry ≠ none) →
    t.catalogue.table.get (at' i) = { gen := (s.catalogue.table.get (at' i)).gen + 1, entry := some f.entry } ∧
    (∀ q, q ≠ at' i → t.catalogue.table.get q = s.catalogue.table.get q) ∧
    t.catalogue.lists.get r = s.catalogue.lists.get r ++ [at' i] ∧
    (∀ q, q ≠ r → t.catalogue.lists.get q = s.catalogue.lists.get q) ∧ after .admitted)

/-- R61 step 1: the session of a file is ACTIVE or SUSPENDED, and its slot is bound to it and SCANNING, or was until a removal whose
freeing the Catalogue has still to take (R72, log 38). -/
def mayBeAdmitted (s : State) (f : HandOff) : Prop :=
  s.current f.owner = true ∧ (s.record f.owner.record).state ∈ [.active, .suspended] ∧
  (((s.slot f.slot).bound = some f.owner ∧ (s.slot f.slot).state = .scanning) ∨
    { owner := f.owner, slot := f.slot } ∈ s.catalogue.removals)

/-- The Catalogue takes the oldest file that its slot has handed on, and admits it as R59, R60 and R61 give. A scan step that waits for
the answer takes it: its count rises, a PROGRESS notice goes out at each 64th file admitted, and the step finishes (R50, R51, R52). The
file of a removed slot is admitted before the removal's freeing, and freed with the rest there (R72). A file whose session or slot fails
R61 step 1 makes no entry and is gone. The queue of hand-offs is log 15, that the Catalogue admits a removed slot's file until it takes
the freeing is log 38, that a command with no file handed on changes nothing log 3. -/
def Obligations.AdmissionTakesTheFirstFreePosition : Prop :=
  (∀ (s : State) (n : Fin 4), (∀ x ∈ s.catalogue.handOffs, x.slot ≠ n) → exec (.catalogueAdmission n) s = .next s) ∧
  (∀ (s : State) (n : Fin 4) (f : HandOff), s.catalogue.handOffs.find? (fun x => x.slot = n) = some f →
    (let taken : State := { s with catalogue := { s.catalogue with handOffs := s.catalogue.handOffs.erase f } };
    (¬ mayBeAdmitted s f → exec (.catalogueAdmission n) s = .next taken) ∧
    (mayBeAdmitted s f → (∀ more, (s.slot n).serving ≠ some (.step (.handed more))) →
      ∃ t, exec (.catalogueAdmission n) s = .next t ∧ AdmissionGives s t f (fun _ => True) ∧
        t = { taken with catalogue := { taken.catalogue with table := t.catalogue.table, lists := t.catalogue.lists } }) ∧
    (∀ (k : Scan) (more : Bool), mayBeAdmitted s f → (s.slot n).scan = some k →
      (s.slot n).serving = some (.step (.handed more)) →
      ∃ t, exec (.catalogueAdmission n) s = .next t ∧
        (let u : State := { taken with catalogue := { taken.catalogue with table := t.catalogue.table, lists := t.catalogue.lists } };
        let counted : Scan → State := fun k1 => u.setSlot n { s.slot n with scan := some k1 };
        AdmissionGives s t f (fun a => t = State.finishStep (match a with
          | .alreadyHeld => u
          | .noRoom => counted { k with skippedRoom := k.skippedRoom + 1 }
          | .admitted =>
            let v := counted { k with admitted := k.admitted + 1 };
            if (k.admitted + 1) % 64 = 0 then v.scanNotice n .progress else v) n more))))) ∧
  (∀ (s : State) (n : Fin 4) (f : HandOff) (k : Scan) (more : Bool),
    s.catalogue.handOffs.find? (fun x => x.slot = n) = some f → s.current f.owner = true →
    (s.record f.owner.record).state ∈ [.active, .suspended] → (s.slot n).bound = some f.owner →
    (s.slot n).state = .scanning → (s.slot n).scan = some k → (s.slot n).serving = some (.step (.handed more)) →
    (s.slot n).inFlight = none →
    ∃ t, exec (.catalogueAdmission n) s = .next t ∧
      (let goesOn : Scan → Prop := fun k1 =>
        if more = false then (t.slot n).state = .ready ∧ (t.slot n).scan = some k1
        else if k.next = 65535 then (t.slot n).state = .ready ∧ (t.slot n).scan = some { k1 with truncated := true }
        else (t.slot n).state = .scanning ∧ (t.slot n).scan = some k1 ∧ (t.slot n).inFlight = some .blockRead;
      AdmissionGives s t f (fun a => goesOn (match a with
        | .alreadyHeld => { k with next := k.next + 1 }
        | .noRoom => { k with next := k.next + 1, skippedRoom := k.skippedRoom + 1 }
        | .admitted => { k with next := k.next + 1, admitted := k.admitted + 1 }))) ∧
      t.catalogue.handOffs = s.catalogue.handOffs.erase f ∧ t.catalogue.removals = s.catalogue.removals ∧
      (∀ m, m ≠ n → t.slot m = s.slot m) ∧
      s.ChangesOnly t [.catalogue, .slots, .link, .sessions, .money, .sent, .conds])

/-- At the freeing of a removal the entries of the session from that slot go, their positions keeping their generations, and are
reported with the counts they held (R69, R70). At the report lines without a raster that named one are ORPHANED, and MEDIA_REMOVED
(S0) is set where a count was above 0 (R44). The queues of removals and reports are log 15, that either command changes nothing while
its queue is empty is log 3. -/
def Obligations.RemovalFreesEntriesAndOrphansLines : Prop :=
  (∀ s : State, s.catalogue.removals = [] → exec .catalogueRemovalFreeing s = .next s) ∧
  (∀ (s : State) (x : Removal) (rest : List Removal), s.catalogue.removals = x :: rest →
    ∃ t, exec .catalogueRemovalFreeing s = .next t ∧
      (let mine : Fin 2048 → Bool := fun q =>
        (s.catalogue.table.get q).entry.any (fun e => e.owner = x.owner ∧ e.slot = x.slot);
      let list := s.catalogue.lists.get x.owner.record;
      (∀ q, t.catalogue.table.get q =
        if q ∈ list ∧ mine q = true then { gen := (s.catalogue.table.get q).gen, entry := none }
        else s.catalogue.table.get q) ∧
      t.catalogue.lists = put s.catalogue.lists x.owner.record (list.filter (fun q => !mine q)) ∧
      t.orders.reports = s.orders.reports ++ [{ owner := x.owner, slot := x.slot, entries := (list.filter mine).map (fun q =>
        ({ position := q, gen := (s.catalogue.table.get q).gen },
          ((s.catalogue.table.get q).entry.map (fun e => e.refs)).getD 0)) }]) ∧
      t.catalogue.removals = rest ∧ t.catalogue.handOffs = s.catalogue.handOffs ∧ t.orders.records = s.orders.records ∧
      s.ChangesOnly t [.catalogue, .orders]) ∧
  (∀ s : State, s.orders.reports = [] → exec .orphanMarking s = .next s) ∧
  (∀ (s : State) (x : FreedReport) (rest : List FreedReport), s.orders.reports = x :: rest → s.current x.owner = true →
    ∃ t, exec .orphanMarking s = .next t ∧ t.orders.reports = rest ∧
      (∀ (h : OrderHandle) (o : Order), (s.record x.owner.record).uncommitted = some h → s.order? h = some o →
        t.order? h = some { o with lines := o.lines.map (fun l => l.map (fun l =>
          if l.raster = .none ∧ x.entries.any (fun e => e.1 = l.image) then { l with raster := .orphaned } else l)) }) ∧
      (∀ q : Fin 16, (∀ h, (s.record x.owner.record).uncommitted = some h → h.record ≠ q) →
        t.orderRecord q = s.orderRecord q) ∧
      (t.sessionSet x.owner.record).bits =
        (if x.entries.any (fun e => 0 < e.2) then setBit (s.sessionSet x.owner.record).bits 0
        else (s.sessionSet x.owner.record).bits) ∧
      s.ChangesOnly t [.orders, .sessions, .link, .money, .sent, .conds])

/-! ### Orders and pricing (05) -/

/-- A request that names an order in use of an ACTIVE session, ready to be taken. -/
structure NamesOrder (s : State) (c : RequestCode) (tag : Byte) (p : List Byte) (h : OrderHandle) (o : Order) : Prop where
  offers : s.Offers c tag p
  record : byteAt p 0 = h.record.val
  gen : p.getD 1 0 = h.gen
  order : s.order? h = some o
  session : (s.record o.session.record).state = .active

/-- ORDER_OPEN for an ACTIVE session: BAD_STATE with an uncommitted order, TOO_MANY_ORDERS with four committed ones, NO_ORDER without a
free record; else the lowest free record is taken, its generation risen by one, EDITING and empty (R74, R76). -/
def Obligations.OrderOpenTakesTheLowestFreeRecord : Prop :=
  ∀ (s : State) (tag : Byte) (p : List Byte) (h : SessionHandle), s.Offers .orderOpen tag p →
    byteAt p 0 = h.record.val → p.getD 1 0 = h.gen → s.current h = true → (s.record h.record).state = .active →
    (let t := s.touch h.record;
    let x := s.record h.record;
    (x.uncommitted ≠ none → exec (.orderOpen tag) s = .next (t.answerNo tag .orderOpen .badState)) ∧
    (x.uncommitted = none → 4 ≤ x.committed.length →
      exec (.orderOpen tag) s = .next (t.answerNo tag .orderOpen .tooManyOrders)) ∧
    (x.uncommitted = none → x.committed.length < 4 → (∀ k, (s.orderRecord k).body ≠ none) →
      exec (.orderOpen tag) s = .next (t.answerNo tag .orderOpen .noOrder)) ∧
    (∀ k : Fin 16, x.uncommitted = none → x.committed.length < 4 → (s.orderRecord k).body = none →
      (∀ j < k, (s.orderRecord j).body ≠ none) →
      exec (.orderOpen tag) s = .next (
        let o : OrderHandle := { record := k, gen := (s.orderRecord k).gen + 1 };
        let new : Order := { session := h, state := .editing, lines := Vector.replicate 16 none, quote := none, collected := 0
                             paidCredit := 0, paidCard := 0, termRef := none, refundedBase := 0, refundedTax := 0, refunded := 0
                             creditRefunded := 0, cancel := false };
        State.answerOk ((t.setOrderRecord k { gen := o.gen, body := some new }).setRecord h.record
          { t.record h.record with uncommitted := some o }) tag .orderOpen o.bytes)))

/-- LINE_ADD: the checks of R77 in their order; then the line takes the lowest unused index, the entry's count rises, and the order is
EDITING without a quote (R65, R66, R77, R80). That the refusal ACCESS_DENIED goes out behind the frames of the raise of S6 is log 9. -/
def Obligations.LineAddTakesTheLowestUnusedIndex : Prop :=
  ∀ (s : State) (tag : Byte) (p : List Byte) (h : OrderHandle) (o : Order), NamesOrder s .lineAdd tag p h o →
    (let t := s.touchHandle o.session;
    let no : Status → Prop := fun e => exec (.lineAdd tag) s = .next (t.answerNo tag .lineAdd e);
    let copies := (o.used.map (fun x => x.2.quantity)).sum;
    let q := byteAt p 7;
    (o.state ∉ [.editing, .quoted] → no .badState) ∧
    (o.state ∈ [.editing, .quoted] → 4 ≤ byteAt p 5 ∨ 3 ≤ byteAt p 6 ∨ q = 0 ∨ 99 < q → no .badValue) ∧
    (∀ (z : Size) (f : Finish), o.state ∈ [.editing, .quoted] → byteAt p 5 = z.code → byteAt p 6 = f.code → 1 ≤ q → q ≤ 99 →
      ((∀ k, o.lines.get k ≠ none) → no .lineLimit) ∧
      (∀ k : Fin 16, o.lines.get k = none → (∀ j < k, o.lines.get j ≠ none) →
        (400 < copies + q → no .copyLimit) ∧
        (copies + q ≤ 400 → 2048 ≤ num2At p 2 → no .badValue) ∧
        (∀ i : CatHandle, copies + q ≤ 400 → num2At p 2 = i.position.val → p.getD 4 0 = i.gen →
          (s.catalogue.entry? i = none → no .staleHandle) ∧
          (∀ e, s.catalogue.entry? i = some e → e.owner ≠ o.session → exec (.lineAdd tag) s = .next (State.refuse
            ((t.holds tag).raiseSession o.session 6 [p.getD 2 0, p.getD 3 0, p.getD 4 0]) tag .accessDenied)) ∧
          (∀ e, s.catalogue.entry? i = some e → e.owner = o.session → exec (.lineAdd tag) s = .next (
            let new : Line := { image := i, size := z, finish := f, quantity := q, raster := .none, copies := Counters.zero };
            let at' : Position := { gen := i.gen, entry := some { e with refs := e.refs + 1 } };
            let u : State := { t with catalogue := { s.catalogue with table := put s.catalogue.table i.position at' } };
            (u.setOrder h.record { o with state := .editing, quote := none, lines := put o.lines k (some new) }).answerOk tag
              .lineAdd (le1 k.val)))))))

/-- LINE_CHANGE and LINE_REMOVE: the checks of R78 and R79 in their order; a change of size discards the raster, a removal the
raster and the reference, and each leaves the order EDITING without a quote (R66, R78, R79, R80). NO_LINE for an index above 15 is
DEDUCED (log 34), and that the reply goes out behind what the freeing of a raster sends is log 9. -/
def Obligations.LineChangeAndLineRemove : Prop :=
  (∀ (s : State) (tag : Byte) (p : List Byte) (h : OrderHandle) (o : Order), NamesOrder s .lineChange tag p h o →
    (let t := s.touchHandle o.session;
    let no : Status → Prop := fun e => exec (.lineChange tag) s = .next (t.answerNo tag .lineChange e);
    let copies := (o.used.map (fun x => x.2.quantity)).sum;
    let q := byteAt p 5;
    (o.state ∉ [.editing, .quoted] → no .badState) ∧
    (o.state ∈ [.editing, .quoted] → 16 ≤ byteAt p 2 → no .noLine) ∧
    (∀ k : Fin 16, o.state ∈ [.editing, .quoted] → byteAt p 2 = k.val →
      (o.lines.get k = none → no .noLine) ∧
      (∀ l, o.lines.get k = some l →
        (4 ≤ byteAt p 3 ∨ 3 ≤ byteAt p 4 ∨ q = 0 ∨ 99 < q → no .badValue) ∧
        (∀ (z : Size) (f : Finish), byteAt p 3 = z.code → byteAt p 4 = f.code → 1 ≤ q → q ≤ 99 →
          (let edited : RasterState → Order := fun r => { o with
            state := .editing, quote := none
            lines := put o.lines k (some { l with size := z, finish := f, quantity := q, raster := r }) };
          (l.raster = .orphaned → no .orphanLine) ∧
          (l.raster ≠ .orphaned → 400 < copies - l.quantity + q → no .copyLimit) ∧
          (l.raster ≠ .orphaned → copies - l.quantity + q ≤ 400 → z = l.size →
            exec (.lineChange tag) s = .next ((t.setOrder h.record (edited l.raster)).answerOk tag .lineChange [])) ∧
          (l.raster ≠ .orphaned → copies - l.quantity + q ≤ 400 → z ≠ l.size → s.catalogue.entry? l.image = none →
            no .staleHandle) ∧
          (l.raster ≠ .orphaned → copies - l.quantity + q ≤ 400 → z ≠ l.size → s.catalogue.entry? l.image ≠ none →
            exec (.lineChange tag) s = .next (State.ok
              (((t.holds tag).freeRaster h k).setOrder h.record (edited .none)) tag [])))))))) ∧
  (∀ (s : State) (tag : Byte) (p : List Byte) (h : OrderHandle) (o : Order), NamesOrder s .lineRemove tag p h o →
    (let t := s.touchHandle o.session;
    let no : Status → Prop := fun e => exec (.lineRemove tag) s = .next (t.answerNo tag .lineRemove e);
    (o.state ∉ [.editing, .quoted] → no .badState) ∧
    (o.state ∈ [.editing, .quoted] → 16 ≤ byteAt p 2 → no .noLine) ∧
    (∀ k : Fin 16, o.state ∈ [.editing, .quoted] → byteAt p 2 = k.val →
      (o.lines.get k = none → no .noLine) ∧
      (∀ l, o.lines.get k = some l →
        exec (.lineRemove tag) s = .next (State.ok (State.setOrder (((t.holds tag).freeRaster h k).refFalls l.image) h.record
          { o with state := .editing, quote := none, lines := put o.lines k none }) tag [])))))

/-- ORDER_QUOTE prices the order under the published table. For each line the tier is the highest used one whose threshold the order's
quantity of the line's size reaches; unit and amount, subtotal, tax rounded half up, and total follow. A total above the limit leaves
the order EDITING; else it is QUOTED with the quote, which the reply carries (R82, R83, R84). -/
def Obligations.OrderQuotePricesTheOrder : Prop :=
  ∀ (s : State) (tag : Byte) (p : List Byte) (h : OrderHandle) (o : Order), NamesOrder s .orderQuote tag p h o →
    (let t := s.touchHandle o.session;
    let table : PriceTable := s.store.published;
    let no : Status → Prop := fun e => exec (.orderQuote tag) s = .next (t.answerNo tag .orderQuote e);
    (o.state ∉ [.editing, .quoted] → no .badState) ∧
    (o.state ∈ [.editing, .quoted] → s.store.valid = false → no .noPrices) ∧
    (o.state ∈ [.editing, .quoted] → s.store.valid = true → o.used = [] → no .emptyOrder) ∧
    (o.state ∈ [.editing, .quoted] → s.store.valid = true → o.used ≠ [] → ∃ q : Quote,
      (∀ k, q.lines.get k = none ↔ o.lines.get k = none) ∧
      (∀ (k : Fin 16) (l : Line) (x : LinePrice), o.lines.get k = some l → q.lines.get k = some x →
        (let n := ((o.used.filter (fun y => y.2.size = l.size)).map (fun y => y.2.quantity)).sum;
        (x.tier = 0 ∨ (table.threshold l.size x.tier ≠ 0 ∧ table.threshold l.size x.tier ≤ n)) ∧
        (∀ j, x.tier < j → table.threshold l.size j = 0 ∨ n < table.threshold l.size j) ∧
        x.base = table.price l.size x.tier ∧ x.surcharge = table.surcharge l.finish ∧ x.unit = x.base + x.surcharge ∧
        x.amount = l.quantity * x.unit)) ∧
      q.subtotal = ((allFin 16).map (fun k => ((q.lines.get k).map (fun x => x.amount)).getD 0)).sum ∧
      q.rate = table.rate ∧ q.tax = (q.subtotal * q.rate + 5000) / 10000 ∧ q.total = q.subtotal + q.tax ∧
      q.revision = s.store.revision ∧
      exec (.orderQuote tag) s = .next (
        if table.limit < q.total then
          (t.setOrder h.record { o with state := .editing, quote := none }).answerNo tag .orderQuote .orderLimit
        else (t.setOrder h.record { o with state := .quoted, quote := some q }).answerOk tag .orderQuote (quoteFields h q))))

/-- ORDER_COMMIT of an order of an ACTIVE session: BAD_VALUE, BAD_STATE, QUOTE_STALE with the order back in EDITING, ORPHAN_LINE,
RASTER_INCOMPLETE, NO_PRINTER, OUT_OF_SERVICE, in that order (R85). Then credit that covers the total commits the order; credit that
does not, with the card allowed and the terminal present, takes what there is and asks the terminal for the rest; else SHORT_CREDIT
with nothing taken (R86). BAD_VALUE for an allow_card other than 0 and 1 is log 34, the order of what goes out, the reply last, log 9. -/
def Obligations.OrderCommitPaysTheOrder : Prop :=
  ∀ (s : State) (tag : Byte) (p : List Byte) (h : OrderHandle) (o : Order), NamesOrder s .orderCommit tag p h o →
    (let t := s.touchHandle o.session;
    let no : Status → Prop := fun e => exec (.orderCommit tag) s = .next (t.answerNo tag .orderCommit e);
    let r := o.session.record;
    let credit := (s.account r).credit;
    (2 ≤ byteAt p 2 → no .badValue) ∧
    (byteAt p 2 < 2 → o.state ≠ .quoted → no .badState) ∧
    (∀ q : Quote, byteAt p 2 < 2 → o.state = .quoted → o.quote = some q →
      (s.store.valid = false ∨ q.revision ≠ s.store.revision → exec (.orderCommit tag) s = .next (
        (t.setOrder h.record { o with state := .editing, quote := none }).answerNo tag .orderCommit .quoteStale)) ∧
      (s.store.valid = true → q.revision = s.store.revision →
        ((∃ x ∈ o.used, x.2.raster = .orphaned) → no .orphanLine) ∧
        ((∀ x ∈ o.used, x.2.raster ≠ .orphaned) →
          ((∃ x ∈ o.used, x.2.raster ≠ .complete) → no .rasterIncomplete) ∧
          ((∀ x ∈ o.used, x.2.raster = .complete) →
            ((∃ x ∈ o.used, ∀ n, (s.port n).ableFor x.2.size = false) → no .noPrinter) ∧
            ((∀ x ∈ o.used, ∃ n, (s.port n).ableFor x.2.size = true) →
              (s.conds.inService = false → no .outOfService) ∧
              (s.conds.inService = true →
                (q.total ≤ credit → ∃ u,
                  u = State.tasksJoined (((t.holds tag).setCredit r (credit - q.total)).commitOrder h
                    { o with paidCredit := q.total } 0) ∧
                  exec (.orderCommit tag) s = .next (u.ok tag (le1 3 ++ le4 (u.account r).credit))) ∧
                (credit < q.total → byteAt p 2 = 1 → s.money.terminal.state ∉ [.absent, .lost] →
                  exec (.orderCommit tag) s = .next (
                    let ref := s.money.terminal.refCounter + 1;
                    let u := (((t.holds tag).setCredit r 0).setOrder h.record
                      { o with state := .authorising, paidCredit := credit, termRef := some ref });
                    State.ok (State.handTerminal (u.setTerminal { s.money.terminal with
                        refCounter := ref
                        waiting := s.money.terminal.waiting ++
                          [{ order := h, session := o.session, amount := q.total - credit, ref := ref }] }))
                      tag (le1 2 ++ le4 (q.total - credit) ++ le2 ref.toNat))) ∧
                (credit < q.total → byteAt p 2 = 0 ∨ s.money.terminal.state ∈ [.absent, .lost] → no .shortCredit))))))))

/-- A line whose copies are all final (R97). -/
def allFinal (l : Line) : Bool := l.copies.queued = 0 ∧ l.copies.inFlight = 0 ∧ l.copies.retryPending = 0

/-- An order that commits is COMMITTED with every copy of every line queued and nothing refunded, collected the quote's total; its
references fall, its rasters leave the session's share, it moves from the session's uncommitted field to its list, and its lines join
the tail of the print queue (R24, R66, R87, R131, R141). A line whose copies have come to be all final leaves the print queue and its
raster is freed, its raster state NONE; with the last line the order finishes: earned joins the till, the ORDER notice goes out, the
order leaves its session's list and its record is free with its generation kept (R74, R97, R98, R125, R141). Till counters wrap (log
23); that a line's own counters decide when its task leaves, also while another line of a cancelled order is in flight, is log 46. -/
def Obligations.CommittedOrdersAreQueuedAndFinish : Prop :=
  (∀ (s : State) (h : OrderHandle) (k : Fin 16) (r : RasterState), s.setLineRaster h k r = match s.order? h with
    | none => s
    | some o => match o.lines.get k with
      | none => s
      | some l => s.setOrder h.record { o with lines := put o.lines k (some { l with raster := r }) }) ∧
  (∀ (s : State) (h : OrderHandle) (k : Fin 16), s.finishLine h k =
    State.setLineRaster (State.freeRaster { s with prints := { s.prints with
      queue := s.prints.queue.filter (fun t => !(t.order = h ∧ t.line = k)) } } h k) h k .none) ∧
  (∀ (s : State) (h : OrderHandle) (o : Order), s.finishOrder h o = (
    let earned := o.collected - o.refunded;
    let till := s.money.till;
    let t : State := { s with money := { s.money with till := { till with earned := till.earned + BitVec.ofNat 32 earned } } };
    let u := t.notify 0xC4 (h.bytes ++ o.session.bytes ++ [4, 8] ++ le4 o.collected ++ le4 o.refunded ++ le4 earned);
    (u.orderLeft o.session h earned o.refunded).setOrderRecord h.record { gen := h.gen, body := none })) ∧
  (∀ (s : State) (h : OrderHandle) (ks : List (Fin 16)), s.settleLines h ks = (
    let t := ks.foldl (fun w k => match (w.order? h).bind (fun o => o.lines.get k) with
      | some l => if allFinal l then w.finishLine h k else w
      | none => w) s;
    match t.order? h with
    | some o => if ∀ k l, o.lines.get k = some l → allFinal l = true then t.finishOrder h o else t
    | none => t)) ∧
  (∀ (s : State) (h : OrderHandle) (o : Order) (q : Quote) (card : Nat), (s.orderRecord h.record).gen = h.gen →
    o.quote = some q →
    (let t := s.commitOrder h o card;
    t.order? h = some { o with
      state := .committed, collected := q.total, paidCard := card, termRef := if 0 < card then o.termRef else none
      refundedBase := 0, refundedTax := 0, refunded := 0, creditRefunded := 0, cancel := false
      lines := o.lines.map (fun l => l.map (fun x => { x with copies :=
        { queued := x.quantity, inFlight := 0, retryPending := 0, delivered := 0, finalFailed := 0 } })) } ∧
    (∀ k, k ≠ h.record → t.orderRecord k = s.orderRecord k) ∧
    t.prints = { s.prints with queue := s.prints.queue ++ o.used.map (fun x => { order := h, line := x.1 }) } ∧
    t.spool = { s.spool with rasters := s.spool.rasters.map (fun x => if x.order = h then { x with charged := none } else x) } ∧
    (s.current o.session = true → t.record o.session.record = { s.record o.session.record with
      uncommitted := none, committed := (s.record o.session.record).committed ++ [h] }) ∧
    (∀ r, s.current o.session = false ∨ r ≠ o.session.record → t.record r = s.record r) ∧
    t.catalogue.lists = s.catalogue.lists ∧
    (∀ x, (t.catalogue.table.get x).gen = (s.catalogue.table.get x).gen ∧
      (∀ e, (s.catalogue.table.get x).entry = some e → (t.catalogue.table.get x).entry = some { e with refs :=
        e.refs - (o.used.filter (fun y => y.2.image = { position := x, gen := (s.catalogue.table.get x).gen })).length })) ∧
    s.ChangesOnly t [.orders, .catalogue, .spool, .sessions, .prints]))

/-- ORDER_CANCEL. An order is cancelled: its rasters and references go, its session's field is cleared and its record is free with its
generation kept, whatever asks the cancel (R74, R89; the handle that a CLOSING session keeps is log 39). That happens in EDITING or
QUOTED at once (R89). In AUTHORISING its cancel is asked of the terminal, once (R90). COMMITTED, in service mode and
once: every copy queued or retry pending is final-failed and refunded at its unit with the tax of R94, first to credit, then to the
card (R91, R94, R95, R96). An uncommitted order of a session that is not ACTIVE is refused by R23. The order of what goes out at the cancel,
the reply last, is log 9, the layout of its fields log 10, and that the rasters are freed in line index order log 41. -/
def Obligations.OrderCancelByState : Prop :=
  (∀ (s : State) (h : OrderHandle) (o : Order), s.cancelOrder h o = (
    let freed := o.used.foldl (fun w x => w.freeRaster h x.1) s;
    let fallen := o.used.foldl (fun w x => w.refFalls x.2.image) freed;
    let x := fallen.record o.session.record;
    let cleared := if fallen.current o.session then fallen.setRecord o.session.record { x with
        uncommitted := none, closedOrder := if x.state = .closing then some h else x.closedOrder }
      else fallen;
    cleared.setOrderRecord h.record { gen := h.gen, body := none })) ∧
  (∀ (s : State) (tag : Byte) (p : List Byte) (h : OrderHandle) (o : Order), s.Offers .orderCancel tag p →
    byteAt p 0 = h.record.val → p.getD 1 0 = h.gen → s.order? h = some o →
    (let t := s.touchHandle o.session;
    let no : Status → Prop := fun e => exec (.orderCancel tag) s = .next (t.answerNo tag .orderCancel e);
    (o.state ≠ .committed →
      ((s.record o.session.record).state = .suspended → no .suspended) ∧
      ((s.record o.session.record).state ∈ [.closing, .draining, .settling] → no .badState)) ∧
    ((s.record o.session.record).state = .active → o.state ∈ [.editing, .quoted] →
      (let freed := o.used.foldl (fun w x => w.freeRaster h x.1) (t.holds tag);
      let fallen := o.used.foldl (fun w x => w.refFalls x.2.image) freed;
      let x := fallen.record o.session.record;
      let cleared := if s.current o.session then fallen.setRecord o.session.record { x with uncommitted := none } else fallen;
      let u := cleared.setOrderRecord h.record { gen := h.gen, body := none };
      exec (.orderCancel tag) s = .next (u.ok tag [5]) ∧
      (∀ k, k ≠ h.record → u.orderRecord k = s.orderRecord k) ∧
      u.catalogue.lists = s.catalogue.lists ∧ u.money = s.money ∧
      s.ChangesOnly u [.link, .orders, .sessions, .catalogue, .spool, .conds])) ∧
    (∀ (w : State) (i : CatHandle), w.refFalls i = match w.catalogue.entry? i with
      | some e => { w with catalogue := { w.catalogue with
        table := put w.catalogue.table i.position { gen := i.gen, entry := some { e with refs := e.refs - 1 } } } }
      | none => w) ∧
    ((s.record o.session.record).state = .active → o.state = .authorising →
      (o.cancel = true → no .badState) ∧
      (o.cancel = false → exec (.orderCancel tag) s =
        .next (State.ok (((t.holds tag).setOrder h.record { o with cancel := true }).cancelAuth h) tag [2]))) ∧
    (o.state = .committed →
      (s.conds.mode = .customer → no .notService) ∧
      (s.conds.mode = .service → o.cancel = true → no .badState) ∧
      (∀ q : Quote, s.conds.mode = .service → o.cancel = false → o.quote = some q →
        exec (.orderCancel tag) s = .next (
          let after : Counters → Counters := fun c =>
            { c with queued := 0, retryPending := 0, finalFailed := c.finalFailed + (c.queued + c.retryPending) };
          let moved := o.used.filter (fun x => 0 < x.2.copies.queued + x.2.copies.retryPending);
          let base := o.refundedBase + (moved.map (fun x =>
            (x.2.copies.queued + x.2.copies.retryPending) * ((q.lines.get x.1).map (fun y => y.unit)).getD 0)).sum;
          let tax := min q.tax ((base * q.rate + 5000) / 10000);
          let inc := (base - o.refundedBase) + (tax - o.refundedTax);
          let toCredit := min inc (o.paidCredit - o.creditRefunded);
          let toCard := inc - toCredit;
          let o1 := { o with
            cancel := true, lines := o.lines.map (fun l => l.map (fun x => { x with copies := after x.copies })) };
          let u := t.holds tag;
          let paid := if moved = [] then u.setOrder h.record o1 else
            let v := (u.setOrder h.record { o1 with
              refundedBase := base, refundedTax := tax, refunded := o.refunded + inc
              creditRefunded := o.creditRefunded + toCredit }).addCredit o.session.record toCredit;
            if 0 < toCard then v.makeRefund { session := some o.session, order := some h, ref := o.termRef.getD 0
                                              amount := toCard, cause := .refund }
            else v;
          let amounts := if moved = [] then le4 0 ++ le4 0 ++ le4 0 else le4 inc ++ le4 toCredit ++ le4 toCard;
          State.ok (State.evalPrints (State.settleLines (paid.cancelNotices h o.session amounts moved) h (moved.map (·.1))))
            tag (le1 o1.used.length ++ o1.used.flatMap (fun x => le1 x.1.val ++ le1 x.2.copies.queued ++
              le1 x.2.copies.inFlight ++ le1 x.2.copies.retryPending ++ le1 x.2.copies.delivered ++
              le1 x.2.copies.finalFailed)))))))

/-! ### Credit, cash and card payment (06) -/

/-- GATE_OPEN for an ACTIVE session: the checks of R105 in their order. A CLOSED gate becomes OPEN with the sets of R107, ENABLE is
sent, and where no other gate was open the challenge starts with 0x3C; a gate already OPEN is left as it is. GATE_CLOSE: the gate
closes, INHIBIT is sent, a HELD bill is answered RETURN, and the challenge stops with the last open gate (R105, R106, R107, R116).
A gate that closes from another cause gives a GATE notice as well (R106, R127), and the gate of a station is that of its cash unit. The
order of what goes out, the reply last, is log 9, the layout of its fields log 10, of its two sets log 40. -/
def Obligations.GateOpensAndCloses : Prop :=
  (∀ (s : State) (u : Fin 2), s.closeGate u none = (
    let x := s.unit u;
    if x.gateOpen = false then s
    else
      let t : State := { s.setUnit u { x with gateOpen := false, coinSet := 0, billSet := 0 } with sent := s.sent ++ [.inhibit u] };
      let back := match x.escrow with
        | .held code value f => { t.setUnit u { t.unit u with escrow := .returning code value (some f) s.now } with
            sent := t.sent ++ [.giveBack u] }
        | _ => t;
      if (s.unit (1 - u)).gateOpen = true then back
      else back.setChallenge { s.money.challenge with running := false, pending := false })) ∧
  (∀ (s : State) (u : Fin 2) (cause : GateCause), s.closeGate u (some cause) =
    if (s.unit u).gateOpen = true then (s.closeGate u none).notify 0xC7 (le1 u.val ++ le1 cause.code) else s) ∧
  (∀ (s : State) (st : Option Station) (cause : Option GateCause), s.closeStationGate st cause =
    match st.bind s.power.profile.unitOf with
    | some u => s.closeGate u cause
    | none => s) ∧
  (∀ (s : State) (tag : Byte) (p : List Byte) (h : SessionHandle), s.Offers .gateOpen tag p →
    byteAt p 0 = h.record.val → p.getD 1 0 = h.gen → s.current h = true → (s.record h.record).state = .active →
    (let t := s.touch h.record;
    let no : Status → Prop := fun e => exec (.gateOpen tag) s = .next (t.answerNo tag .gateOpen e);
    let unit? := (s.record h.record).station.bind s.power.profile.unitOf;
    let failed := s.conds.kiosk.bits.getLsbD 12;
    (unit? = none → no .noCashUnit) ∧
    (∀ u : Fin 2, unit? = some u →
      (let x := s.unit u;
      let ready := x.heard = true ∧ x.silent = false ∧ x.jammed = false;
      let headroom := s.unitHeadroom u;
      let coins : BitVec 16 := bitsOf (fun i : Fin 16 => 0 < s.coinValue u i.val ∧ s.coinValue u i.val ≤ headroom);
      let full := s.boxCapacity ≤ x.boxCount ∨ x.fullFlag = true;
      let bills : BitVec 16 := bitsOf (fun i : Fin 16 => x.boxIn = true ∧ ¬ full ∧ 0 < s.billValue u i.val);
      (s.conds.inService = false → no .outOfService) ∧
      (s.conds.inService = true → failed = true → no .challengeFail) ∧
      (s.conds.inService = true → failed = false → ¬ ready → no .unitFault) ∧
      (s.conds.inService = true → failed = false → ready → x.gateOpen = true →
        exec (.gateOpen tag) s = .next (t.answerOk tag .gateOpen (le1 0 ++ le2 x.coinSet.toNat ++ le2 x.billSet.toNat ++
          optField 1 (fun b => [b]) (if s.money.challenge.pending then some s.money.challenge.token else none)))) ∧
      (s.conds.inService = true → failed = false → ready → x.gateOpen = false →
        exec (.gateOpen tag) s = .next (
          let v : State := { (t.holds tag).setUnit u { x with gateOpen := true, coinSet := coins, billSet := bills } with
            sent := s.sent ++ [.enable u coins bills] };
          let pending := if s.money.challenge.pending then some s.money.challenge.token else none;
          let first := (s.unit 0).gateOpen = false ∧ (s.unit 1).gateOpen = false;
          let w := if first then State.notify (v.setChallenge { s.money.challenge with
              running := true, token := 0x3C, pending := true, since := s.now }) 0xC8 [0x3C]
            else v;
          w.ok tag (le1 0 ++ le2 coins.toNat ++ le2 bills.toNat ++
            optField 1 (fun b => [b]) (if first then some 0x3C else pending)))))))) ∧
  (∀ (s : State) (tag : Byte) (p : List Byte) (h : SessionHandle), s.Offers .gateClose tag p →
    byteAt p 0 = h.record.val → p.getD 1 0 = h.gen → s.current h = true → (s.record h.record).state = .active →
    (let t := s.touch h.record;
    let unit? := (s.record h.record).station.bind s.power.profile.unitOf;
    (unit? = none → exec (.gateClose tag) s = .next (t.answerNo tag .gateClose .noCashUnit)) ∧
    (∀ u : Fin 2, unit? = some u →
      (let x := s.unit u;
      let returned := match x.escrow with
        | .held code value f => Escrow.returning code value (some f) s.now
        | e => e;
      let back : List Sent := match x.escrow with
        | .held _ _ _ => [.giveBack u]
        | _ => [];
      (x.gateOpen = false → exec (.gateClose tag) s = .next (t.answerOk tag .gateClose [])) ∧
      (x.gateOpen = true → exec (.gateClose tag) s = .next (State.answerOk { t with
        money := { s.money with
          units := put s.money.units u { x with gateOpen := false, coinSet := 0, billSet := 0, escrow := returned }
          challenge := if (s.unit (1 - u)).gateOpen = true then s.money.challenge
            else { s.money.challenge with running := false, pending := false } }
        sent := s.sent ++ [.inhibit u] ++ back } tag .gateClose []))))))

/-- A bill of value `v` passes the first three tests of R109 at a unit of a station with a front session. -/
def billTakable (s : State) (u : Fin 2) (v : Nat) : Bool :=
  decide ((s.unit u).gateOpen = true ∧ 0 < v ∧ (s.unit u).boxIn = true ∧ (s.unit u).boxCount < s.boxCapacity ∧
    (s.unit u).fullFlag = false ∧ s.front (unitStation u) ≠ none)

/-- It passes the last test too: it is at most the front session's headroom. -/
def billPasses (s : State) (u : Fin 2) (v : Nat) : Bool :=
  billTakable s u v && decide (v ≤ s.unitHeadroom u)

/-- After the third error of the challenge: the count is 3, every gate is closed, CHALLENGE_FAIL (K12) is set, and where it resolves to
LOCKOUT from a clear bit the kiosk is OUT_OF_SERVICE. No other kiosk bit changes but SPOOL_PRESSURE (K13), which follows the spool. -/
structure ChallengeFailed (s t : State) : Prop where
  errors : t.money.challenge.errors = 3
  gates : ∀ u, (t.unit u).gateOpen = false
  stopped : (s.unit 0).gateOpen = true ∨ (s.unit 1).gateOpen = true →
    t.money.challenge.running = false ∧ t.money.challenge.pending = false
  bits : ∀ i : Fin 16, i ≠ 13 → t.conds.kiosk.bits.getLsbD i.val = (decide (i = 12) || s.conds.kiosk.bits.getLsbD i.val)
  service : s.conds.mode = .customer → s.conds.kiosk.mask.getLsbD 12 = true → s.conds.kiosk.bits.getLsbD 12 = false →
    s.conds.kiosk.recorded.get 12 = .unset → t.conds.inService = false
  frame : s.ChangesOnly t [.link, .money, .sent, .conds, .sessions, .spool, .catalogue, .orders]

/-- CHALLENGE_ANSWER: NONE_PENDING changes nothing; the pending token with 255 less it is CORRECT, the count falls and each HELD
bill is answered STACK, or RETURN with CREDIT_LIMIT (S7) where the headroom test alone fails; else WRONG, and the count rises. At
the issue the next token is t × 29 + 17, and one still pending counts as an error. A third error closes every gate and sets
CHALLENGE_FAIL (R110, R116, R117). That the gates close before CHALLENGE_FAIL is raised is log 9, that an issue while the challenge
does not run changes nothing log 3. -/
def Obligations.ChallengeIsAnsweredAndIssued : Prop :=
  (∀ (s : State) (tag : Byte) (p : List Byte), s.Offers .challengeAnswer tag p →
    (let c := s.money.challenge;
    let right := p.getD 0 0 = c.token ∧ (p.getD 1 0).toNat + c.token.toNat = 255;
    (c.pending = false →
      exec (.challengeAnswer tag) s = .next (s.answerOk tag .challengeAnswer (le1 2 ++ le1 c.errors))) ∧
    (c.pending = true → right → ∃ v,
      exec (.challengeAnswer tag) s = .next (v.ok tag (le1 0 ++ le1 (c.errors - 1))) ∧
      v.money = { s.money with challenge := { c with pending := false, errors := c.errors - 1 }, units := v.money.units } ∧
      (∀ u : Fin 2, v.unit u = match (s.unit u).escrow with
        | .held code x f => { s.unit u with escrow :=
          (if billPasses s u x then .stacking code x f s.now else .returning code x (some f) s.now) }
        | _ => s.unit u) ∧
      (let answer : Fin 2 → List Sent := fun u => match (s.unit u).escrow with
        | .held _ x _ => if billPasses s u x then [.stack u] else [.giveBack u]
        | _ => [];
      v.sent = s.sent ++ answer 0 ++ answer 1) ∧
      (∀ (u : Fin 2) (code : Byte) (x : Nat) (f g : SessionHandle), (s.unit u).escrow = .held code x f →
        s.front (unitStation u) = some g → s.current g = true → billTakable s u x = true → billPasses s u x = false →
        (v.sessionSet g.record).bits.getLsbD 7 = true) ∧
      s.ChangesOnly v [.link, .money, .sent, .conds]) ∧
    (c.pending = true → ¬ right → c.errors ≠ 2 → exec (.challengeAnswer tag) s = .next (
      State.answerOk (s.setChallenge { c with pending := false, errors := min 3 (c.errors + 1) }) tag .challengeAnswer
        (le1 1 ++ le1 (min 3 (c.errors + 1))))) ∧
    (c.pending = true → ¬ right → c.errors = 2 → ∃ v,
      exec (.challengeAnswer tag) s = .next (v.ok tag (le1 1 ++ le1 3)) ∧ ChallengeFailed s v))) ∧
  (∀ s : State,
    (let c := s.money.challenge;
    let t : Byte := BitVec.ofNat 8 (c.token.toNat * 29 + 17);
    (c.running = false → exec .challengeIssue s = .next s) ∧
    (c.running = true → c.pending = false ∨ c.errors ≠ 2 → exec .challengeIssue s = .next (State.notify
      (s.setChallenge { running := true, token := t, pending := true, since := s.now,
                        errors := if c.pending then min 3 (c.errors + 1) else c.errors }) 0xC8 [t])) ∧
    (c.running = true → c.pending = true → c.errors = 2 → ∃ v, exec .challengeIssue s = .next v ∧ ChallengeFailed s v)))

/-- SLIP_TAKE and REFUND_TAKE remove the oldest item and answer with its fields, LOG_EMPTY where there is none; the slip's place
goes to the head of the settling queue, which settles with a slip of its credit. A card refund record joins the log of 16 or counts
as unlogged. TILL_ROLL answers the till in service mode and sets its counters to 0, MONEY_HELD while money is held (R30, R123, R124,
R126). Till counters are 32 bits wide and wrap (log 23); that SLIP_TAKE's reply goes out behind the settlement's notices is log
9. -/
def Obligations.LogsAreTakenAndTheTillRolled : Prop :=
  (∀ (s : State) (tag : Byte) (p : List Byte), s.Offers .slipTake tag p →
    (s.money.slips = [] → exec (.slipTake tag) s = .next (s.answerNo tag .slipTake .logEmpty)) ∧
    (∀ (x : Slip) (rest : List Slip), s.money.slips = x :: rest →
      (let fields := le2 x.number.toNat ++ sessionBytes x.session ++ le4 x.amount ++ le1 x.cause.code;
      (s.sessions.settling = [] → exec (.slipTake tag) s = .next (
        State.answerOk { s with money := { s.money with slips := rest } } tag .slipTake fields)) ∧
      (∀ (r : Fin 8) (queue : List (Fin 8)), s.sessions.settling = r :: queue →
        ∃ v, exec (.slipTake tag) s = .next (v.ok tag fields) ∧
          (let credit := (s.account r).credit;
          let n := s.money.slipCounter;
          let y := s.record r;
          v.sessions.settling = queue ∧
          v.money = { s.money with
            slips := rest ++ [{ number := n, session := some { record := r, gen := y.gen }, amount := credit, cause := .settlement }]
            slipCounter := if n = 65535 then 1 else n + 1
            till := { s.money.till with slipsIssued := s.money.till.slipsIssued + BitVec.ofNat 32 credit }
            accounts := put s.money.accounts r { s.account r with credit := 0 } } ∧
          v.record r = { y with state := .idle, station := none, uncommitted := none, committed := [], timer := .stopped 0
                                totals := { y.totals with slipAmount := credit, slipNumber := some n }, closedOrder := none } ∧
          (∀ q, q ≠ r → v.record q = s.record q) ∧ v.sessions.fronts = s.sessions.fronts ∧
          s.ChangesOnly v [.link, .money, .sessions, .conds]))))) ∧
  (∀ (s : State) (tag : Byte) (p : List Byte), s.Offers .refundTake tag p →
    exec (.refundTake tag) s = .next (match s.money.refunds with
      | [] => s.answerNo tag .refundTake .logEmpty
      | x :: rest => State.answerOk { s with money := { s.money with refunds := rest } } tag .refundTake
        (sessionBytes x.session ++ orderBytes x.order ++ le2 x.ref.toNat ++ le4 x.amount ++ le1 x.cause.code))) ∧
  (∀ (s : State) (x : CardRefund),
    s.makeRefund x = (
      let room := s.money.refunds.length < 16;
      let t := s.money.till;
      let amount : BitVec 32 := BitVec.ofNat 32 x.amount;
      let till1 := { t with cardRefundsIssued := t.cardRefundsIssued + amount };
      State.notify { s with money := { s.money with
        refunds := if room then s.money.refunds ++ [x] else s.money.refunds
        till := if room then till1 else { till1 with unlogged := t.unlogged + amount } } } 0xCA
        (sessionBytes x.session ++ orderBytes x.order ++ le2 x.ref.toNat ++ le4 x.amount ++ le1 x.cause.code ++
          flagByte (decide room)))) ∧
  (∀ (s : State) (tag : Byte) (p : List Byte), s.Offers .tillRoll tag p →
    (let held := (∃ r, 0 < (s.account r).credit) ∨
      (∃ k o, (s.orderRecord k).body = some o ∧ o.state ∈ [.authorising, .committed]);
    (s.conds.mode = .customer → exec (.tillRoll tag) s = .next (s.answerNo tag .tillRoll .notService)) ∧
    (s.conds.mode = .service → held → exec (.tillRoll tag) s = .next (s.answerNo tag .tillRoll .moneyHeld)) ∧
    (s.conds.mode = .service → ¬ held → exec (.tillRoll tag) s = .next (State.answerOk { s with money := { s.money with
      till := Till.zero, units := s.money.units.map (fun x => { x with coins := 0, bills := 0 }) } } tag .tillRoll
        s.tillFields))))

/-- A cash unit just heard (R103). -/
def heardFrom (s : State) (u : Fin 2) : State :=
  s.setUnit u { s.unit u with heard := true, silent := false, lastHeard := s.now }

/-- Cash of value `v` counted in for a session (R108, R111, R113): its credit and cash paid and cash_in rise, its idle timer restarts, a
CREDIT notice of this kind goes out, and the sets of the open gates follow. -/
def cashIn (s : State) (u : Fin 2) (h : SessionHandle) (kind v : Nat) : State :=
  let a := s.account h.record
  let t : State := { s with money := { s.money with
    accounts := put s.money.accounts h.record { a with credit := a.credit + v, cashPaid := a.cashPaid + v }
    till := { s.money.till with cashIn := s.money.till.cashIn + BitVec.ofNat 32 v } } }
  State.refreshGates ((t.touch h.record).notify 0xC6 (h.bytes ++ le1 u.val ++ le1 kind ++ le4 v ++ le4 (a.credit + v)))

/-- Cash of value `v` that belongs to no session (R125): cash_in and overage rise. -/
def cashOver (s : State) (v : Nat) : State :=
  { s with money := { s.money with till := { s.money.till with
    cashIn := s.money.till.cashIn + BitVec.ofNat 32 v, overage := s.money.till.overage + BitVec.ofNat 32 v } } }

/-- A late stack of value `v` that becomes a slip (R113, R123). -/
def cashToSlip (s : State) (h : Option SessionHandle) (v : Nat) : State :=
  let n := s.money.slipCounter
  let till := s.money.till
  let slip : Slip := { number := n, session := h, amount := v, cause := .lateBill }
  State.notify { s with money := { s.money with
    slips := s.money.slips ++ [slip], slipCounter := if n = 65535 then 1 else n + 1
    till := { till with cashIn := till.cashIn + BitVec.ofNat 32 v, slipsIssued := till.slipsIssued + BitVec.ofNat 32 v } } }
    0xC9 (le2 n.toNat ++ sessionBytes h ++ le4 v ++ le1 1)

/-- A coin is credited to the station's front session, or is overage. A bill that finds the escrow NONE is HELD where the tests of
R109 pass, else given back, with CREDIT_LIMIT (S7) where the headroom test alone failed. A stacked bill is credited from STACKING,
is overage from HELD or RETURNING, and confirms a late stack from NONE; a returned one credits nothing. Each end of an escrow is
reported (R108, R109, R111, R113). Till counters wrap (log 23), and the order of what goes out is log 9. -/
def Obligations.CoinsAndBillsAreAccountedFor : Prop :=
  ∀ (s : State) (u : Fin 2), s.power.starting = false → s.power.profile.usesUnit u = true →
    (let t := heardFrom s u;
    let x := t.unit u;
    let front := s.front (unitStation u);
    let without : State → State := fun w => w.setUnit u { w.unit u with escrow := .none };
    (∀ code : Byte, exec (.coin u code) s = .next (
      let t1 := t.setUnit u { x with coins := x.coins + 1 };
      let v := s.coinValue u code.toNat;
      if v = 0 then t1
      else match front with
        | some h => cashIn t1 u h 0 v
        | none => cashOver t1 v)) ∧
    (∀ code : Byte, x.escrow = .none → exec (.billHeld u code) s = .next (
      let v := s.billValue u code.toNat;
      let back : State → State := fun w =>
        { w.setUnit u { x with escrow := .returning code v front s.now } with sent := s.sent ++ [.giveBack u] };
      match front with
      | none => back t
      | some h =>
        let t1 := t.touch h.record;
        if billPasses s u v then t1.setUnit u { x with escrow := .held code v h }
        else if billTakable s u v then (back t1).raiseSession h 7 (le1 u.val ++ le4 v)
        else back t1)) ∧
    exec (.billStacked u) s = .next (State.evalBox (State.refreshGate (
      let t1 := t.setUnit u { x with bills := x.bills + 1, boxCount := min 65535 (x.boxCount + 1) };
      match x.escrow with
      | .stacking _ v h _ => (without (cashIn t1 u h 1 v)).closingExitOf (some h)
      | .held _ v h => (without (cashOver t1 v)).closingExitOf (some h)
      | .returning _ v h _ => (without (cashOver t1 v)).closingExitOf h
      | .none =>
        match x.late with
        | none => t1
        | some y =>
          let t2 := t1.setUnit u { t1.unit u with late := none };
          match y.session.filter s.current with
          | some h => cashIn t2 u h 2 y.value
          | none => if s.money.slips.length < 16 then cashToSlip t2 y.session y.value else cashOver t2 y.value) u) u) ∧
    exec (.billReturned u) s = .next (match x.escrow with
      | .none => t
      | .stacking _ _ h _ => (without t).closingExitOf (some h)
      | .held _ _ h => (without t).closingExitOf (some h)
      | .returning _ _ h _ => (without t).closingExitOf h))

/-- From `t` to `w` unit `u` is jammed (R106, R112, R114): its jam flag and CASH_JAM (K5 or K6) are set; its gate is CLOSED with INHIBIT
sent; a HELD bill is answered RETURN, one in STACKING becomes the late stack; the escrow is NONE; the challenge stops with the last
open gate. -/
structure UnitJammed (t w : State) (u : Fin 2) : Prop where
  unit : w.unit u = { t.unit u with
    jammed := true, gateOpen := false, escrow := .none
    coinSet := if (t.unit u).gateOpen then 0 else (t.unit u).coinSet
    billSet := if (t.unit u).gateOpen then 0 else (t.unit u).billSet
    late := (match (t.unit u).escrow with
      | .stacking code v h _ => some { code := code, value := v, session := some h }
      | _ => (t.unit u).late) }
  other : w.unit (1 - u) = t.unit (1 - u)
  sent : w.sent = t.sent ++ (if (t.unit u).gateOpen then [.inhibit u] else []) ++ (match (t.unit u).escrow with
    | .held _ _ _ => [.giveBack u]
    | _ => [])
  bits : w.conds.kiosk.bits = setBit t.conds.kiosk.bits (if u = 0 then 5 else 6)
  challenge : w.money.challenge =
    if (t.unit u).gateOpen = true ∧ (t.unit (1 - u)).gateOpen = false then
      { t.money.challenge with running := false, pending := false }
    else t.money.challenge
  frame : t.ChangesOnly w [.link, .money, .sent, .conds]

/-- The session an escrow holds a bill for. -/
def billOwner (e : Escrow) : Option SessionHandle :=
  match e with
  | .none => none
  | .held _ _ h => some h
  | .stacking _ _ h _ => some h
  | .returning _ _ h _ => h

/-- A JAM, 2 s of silence, 10 s in STACKING or RETURNING, and a bill that finds the escrow busy jam the unit; the new bill is given
back as well, and the end of the escrow is reported (R103, R112, R114). That the silence and the limit do nothing where they do not
arise is log 3, the order of what goes out log 9. -/
def Obligations.JammedUnitsGiveUpTheirEscrow : Prop :=
  ∀ (s : State) (u : Fin 2), s.power.starting = false →
    (let x := s.unit u;
    let t := heardFrom s u;
    (s.power.profile.usesUnit u = true →
      (∃ w, UnitJammed t w u ∧ exec (.jam u) s = .next (w.closingExitOf (billOwner x.escrow))) ∧
      (∀ code : Byte, x.escrow ≠ .none → ∃ w,
        UnitJammed (match s.front (unitStation u) with
          | some h => t.touch h.record
          | none => t) w u ∧
        exec (.billHeld u code) s = .next (State.send (w.closingExitOf (billOwner x.escrow)) (.giveBack u)))) ∧
    (x.heard = false ∨ x.silent = true → exec (.cashUnitSilence u) s = .next s) ∧
    (x.heard = true → x.silent = false → ∃ w, UnitJammed (s.setUnit u { x with silent := true }) w u ∧
      exec (.cashUnitSilence u) s = .next (w.closingExitOf (billOwner x.escrow))) ∧
    (x.escrow.code ∈ [0, 1] → exec (.escrowTimeout u) s = .next s) ∧
    (x.escrow.code ∈ [2, 3] → ∃ w, UnitJammed s w u ∧
      exec (.escrowTimeout u) s = .next (w.closingExitOf (billOwner x.escrow))))

/-- The sets of an open gate made anew (R107). -/
def withSets (s : State) (u : Fin 2) (x : CashUnit) : CashUnit :=
  if x.gateOpen then { x with
    coinSet := bitsOf (fun i : Fin 16 => 0 < s.coinValue u i.val ∧ s.coinValue u i.val ≤ s.unitHeadroom u)
    billSet := bitsOf (fun i : Fin 16 =>
      x.boxIn = true ∧ ¬ (s.boxCapacity ≤ x.boxCount ∨ x.fullFlag = true) ∧ 0 < s.billValue u i.val) }
  else x

/-- The messages of a cash unit that is not used, or that come before start-up has ended, do nothing (R103, log 20). A heartbeat is a
message and no more. BOX_FULL, BOX_OUT and BOX_IN change the box record, in service mode BOX_IN empties it, and the sets of an open
gate follow, with ENABLE where they changed; at BOX_FULL and BOX_IN CASHBOX_FULL (K3 or K4) follows the box (R102, R103, R107, R115).
The sets of an open gate are made anew the same way wherever credit, a setting or the box changes (R107), and the box level wherever a
setting does (R115). -/
def Obligations.BoxesAndHeartbeats : Prop :=
  (∀ (s : State) (u : Fin 2), s.unitHeadroom u = match s.front (unitStation u) with
    | some h => s.creditMax - (s.account h.record).credit
    | none => 0) ∧
  (∀ (s : State) (u : Fin 2), s.refreshGate u = (
    let x := s.unit u;
    let y := withSets s u x;
    if x.gateOpen = true ∧ (y.coinSet ≠ x.coinSet ∨ y.billSet ≠ x.billSet) then
      { s.setUnit u y with sent := s.sent ++ [.enable u y.coinSet y.billSet] }
    else s)) ∧
  (∀ s : State, s.refreshGates = (s.refreshGate 0).refreshGate 1) ∧
  (∀ (s : State) (u : Fin 2), s.evalBox u = s.reportLevel (if u = 0 then 3 else 4)
    (decide (s.boxCapacity ≤ (s.unit u).boxCount ∨ (s.unit u).fullFlag = true))) ∧
  (∀ (s : State) (u : Fin 2) (code : Byte), s.power.starting = true ∨ s.power.profile.usesUnit u = false →
    ∀ c ∈ [Instr.coin u code, .billHeld u code, .billStacked u, .billReturned u, .jam u, .boxFull u, .boxOut u, .boxIn u,
      .cashHeartbeat u], exec c s = .next s) ∧
  (∀ (s : State) (u : Fin 2), s.power.starting = true →
    exec (.cashUnitSilence u) s = .next s ∧ exec (.escrowTimeout u) s = .next s) ∧
  (∀ (s : State) (u : Fin 2), s.power.starting = false → s.power.profile.usesUnit u = true →
    (let t := heardFrom s u;
    let x := t.unit u;
    let k : Fin 16 := if u = 0 then 3 else 4;
    exec (.cashHeartbeat u) s = .next t ∧
    (∀ (c : Instr) (y : CashUnit),
      (c = .boxFull u ∧ y = { x with fullFlag := true }) ∨ (c = .boxOut u ∧ y = { x with boxIn := false }) ∨
        (c = .boxIn u ∧ s.conds.mode = .customer ∧ y = { x with boxIn := true }) ∨
        (c = .boxIn u ∧ s.conds.mode = .service ∧ y = { x with boxIn := true, boxCount := 0, fullFlag := false }) →
      ∃ v, exec c s = .next v ∧ v.unit u = withSets s u y ∧ v.unit (1 - u) = s.unit (1 - u) ∧
        (let z := withSets s u y;
        v.sent = s.sent ++ (if x.gateOpen = true ∧ (z.coinSet ≠ x.coinSet ∨ z.billSet ≠ x.billSet) then
          [.enable u z.coinSet z.billSet] else [])) ∧
        v.conds.kiosk.bits = (if c = .boxOut u then s.conds.kiosk.bits
          else if s.boxCapacity ≤ y.boxCount ∨ y.fullFlag = true then setBit s.conds.kiosk.bits k
          else clearBit s.conds.kiosk.bits k) ∧
        s.ChangesOnly v [.money, .sent, .conds, .link])))

/-- The terminal port IDLE, with nothing yet handed out. -/
def portFree (s : State) : State := s.setTerminal { s.money.terminal with state := .idle }

/-- A message from the terminal heard (R118, R122): its 5 s start anew, and in ABSENT or LOST the port first goes to IDLE, TERMINAL_LOST
(K7) clearing as it leaves LOST. -/
def terminalHeard (s : State) : State :=
  let t := s.setTerminal { s.money.terminal with lastHeard := s.now }
  match s.money.terminal.state with
  | .absent => (portFree t).handTerminal
  | .lost => (portFree t).handTerminal.reportLevelQuiet 7 false
  | _ => t

/-- An amount the terminal took, counted in (R125). -/
def cardIn (s : State) (amount : BitVec 32) : State :=
  s.setTill { s.money.till with cardIn := s.money.till.cardIn + amount }

/-- The authorisation that ends without approval at the port, which is IDLE (R120). -/
def portLeaves (s : State) (a : Auth) : State :=
  s.setTerminal { s.money.terminal with
    state := .idle, lastEnded := some { ref := a.ref, session := some a.session, order := some a.order } }

/-- APPROVED for the authorisation in BUSY and its amount counts the amount in and commits the order, whatever its session's state;
for another amount it is counted in, returned as a card refund, and the authorisation ends. For the reference in CANCELLING or of
the last ended authorisation it is LATE, with any other STRAY: counted in and returned. An IDLE port hands the terminal to the
oldest waiting authorisation (R118, R119, R120, R122). Till counters wrap (log 23), the order of what goes out is log 9, and the
approval code is not used (log 25). -/
def Obligations.ApprovalsAreCountedIn : Prop :=
  (∀ s : State, s.handTerminal = match s.money.terminal.state, s.money.terminal.waiting with
    | .idle, a :: rest => { s.setTerminal { s.money.terminal with state := .busy a s.now, waiting := rest } with
      sent := s.sent ++ [.auth a.ref a.amount] }
    | _, _ => s) ∧
  (∀ (s : State) (ref : BitVec 16) (amount : BitVec 32) (code : List Byte), s.power.starting = false →
    (let t := terminalHeard s;
    let v := amount.toNat;
    let port := t.money.terminal;
    let other : State → State := fun w => w.makeRefund (match port.lastEnded with
      | some e => if e.ref = ref then { session := e.session, order := e.order, ref := ref, amount := v, cause := .late }
        else { session := none, order := none, ref := ref, amount := v, cause := .stray }
      | none => { session := none, order := none, ref := ref, amount := v, cause := .stray });
    (∀ (a : Auth) (since : Nat), port.state = .busy a since → a.ref = ref →
      (v = a.amount → ∀ o, t.order? a.order = some o → exec (.approved ref amount code) s = .next (
        let r := a.session.record;
        let paid := (cardIn (portFree t) amount).setAccount r { t.account r with cardPaid := (t.account r).cardPaid + v };
        let done := State.notify (paid.commitOrder a.order o v) 0xC4 (a.order.bytes ++ o.session.bytes ++ [3, 0]);
        State.handTerminal ((done.touchHandle o.session).tasksJoined.closingExitOf (some o.session)))) ∧
      (v ≠ a.amount → exec (.approved ref amount code) s = .next (
        let back : CardRefund := { session := some a.session, order := some a.order, ref := ref, amount := v, cause := .mismatch };
        State.handTerminal (((cardIn (portLeaves t a) amount).makeRefund back).endWithCondition a .mismatch 2)))) ∧
    (∀ (a : Auth) (since : Nat), port.state = .cancelling ref (some a) since →
      exec (.approved ref amount code) s = .next (
        let back : CardRefund := { session := some a.session, order := some a.order, ref := ref, amount := v, cause := .late };
        State.handTerminal (State.endUnapproved (portLeaves ((cardIn t amount).makeRefund back) a) a .cancelled))) ∧
    (∀ since : Nat, port.state = .cancelling ref none since →
      exec (.approved ref amount code) s = .next (State.handTerminal (portFree (other (cardIn t amount))))) ∧
    ((∀ (a : Auth) (since : Nat), port.state = .busy a since → a.ref ≠ ref) →
      (∀ (a : Option Auth) (since : Nat), port.state ≠ .cancelling ref a since) →
      exec (.approved ref amount code) s = .next (other (cardIn t amount)))))

/-- DECLINED and CANCELLED end the authorisation of their reference in BUSY, with AUTH_DECLINED (S2), or in CANCELLING; silence of 5
s ends every one, 90 s in BUSY the one at the port, with AUTH_TIMEOUT (S1), and 10 s in CANCELLING what is there. An authorisation
that ends without approval returns the paid credit and puts its order back to QUOTED, or cancels it where that was asked, and then
no condition is raised (R27, R88, R90, R118, R120, R121). A cancel asked takes a waiting authorisation out of the queue at once, sends
CANCEL in BUSY, and does nothing once it has ended (R121). That a limit, a silence or an answer changes nothing where it does not arise
is log 3, the order of what goes out log 9, and the terminal's reason is not used (log 25). -/
def Obligations.AuthorisationsEndWithoutApproval : Prop :=
  (∀ (s : State) (h : OrderHandle), s.cancelAuth h = (
    let t := s.money.terminal;
    match t.waiting.find? (fun a => a.order = h) with
    | some a => (s.setTerminal { t with waiting := t.waiting.filter (fun x => x.order ≠ h) }).endUnapproved a .cancelled
    | none => match t.state with
      | .busy a _ =>
        if a.order = h then { s.setTerminal { t with state := .cancelling a.ref (some a) s.now } with
          sent := s.sent ++ [.cancelAuth a.ref] }
        else s
      | _ => s)) ∧
  (∀ (s : State) (a : Auth) (cause : OrderCause), s.endUnapproved a cause = match s.order? a.order with
    | none => s
    | some o =>
      let t := (s.addCredit o.session.record o.paidCredit).touchHandle o.session
      State.closingExitOf (if o.cancel then
          State.notify (t.cancelOrder a.order o) 0xC4 (a.order.bytes ++ o.session.bytes ++ [5, 6])
        else State.notify (t.setOrder a.order.record { o with state := .quoted, paidCredit := 0, termRef := none }) 0xC4
          (a.order.bytes ++ o.session.bytes ++ [1] ++ le1 cause.code)) (some o.session)) ∧
  (∀ (s : State) (a : Auth) (cause : OrderCause) (i : Fin 8), s.endWithCondition a cause i =
    if ∃ o, s.order? a.order = some o ∧ o.cancel = true then s.endUnapproved a cause
    else (s.endUnapproved a cause).raiseSession a.session i (a.order.bytes ++ le2 a.ref.toNat)) ∧
  (∀ (s : State) (ref : BitVec 16) (amount : BitVec 32) (x : Byte) (code : List Byte), s.power.starting = true →
    ∀ c ∈ [Instr.approved ref amount code, .declined ref x, .cancelled ref, .terminalHeartbeat, .terminalSilence, .authLimit,
      .cancelLimit], exec c s = .next s) ∧
  (∀ s : State, s.power.starting = false → exec .terminalHeartbeat s = .next (terminalHeard s)) ∧
  (∀ (s : State) (ref : BitVec 16) (x : Byte) (c : Instr), s.power.starting = false → c = .declined ref x ∨ c = .cancelled ref →
    (let t := terminalHeard s;
    exec c s = .next (match t.money.terminal.state with
      | .busy a _ => if a.ref = ref then State.handTerminal ((portLeaves t a).endWithCondition a .declined 2) else t
      | .cancelling r (some a) _ =>
        if r = ref then State.handTerminal ((portLeaves t a).endUnapproved a .cancelled) else t
      | .cancelling r none _ => if r = ref then State.handTerminal (portFree t) else t
      | _ => t))) ∧
  (∀ s : State, s.power.starting = false →
    exec .terminalSilence s = .next (
      let t := s.money.terminal;
      let lost := (s.setTerminal { t with state := .lost, waiting := [] }).reportLevelQuiet 7 true;
      let endAuth : State → Auth → State := fun w a => w.endWithCondition a .terminalLost 1;
      let ended : State → Auth → State := fun w a => endAuth (w.setTerminal { w.money.terminal with
        lastEnded := some { ref := a.ref, session := some a.session, order := some a.order } }) a;
      match t.state with
      | .absent => s
      | .lost => s
      | .idle => t.waiting.foldl endAuth lost
      | .busy a _ => t.waiting.foldl endAuth (ended lost a)
      | .cancelling _ (some a) _ => t.waiting.foldl endAuth (ended lost a)
      | .cancelling _ none _ => t.waiting.foldl endAuth lost) ∧
    exec .authLimit s = .next (match s.money.terminal.state with
      | .busy a _ => State.endWithCondition { s.setTerminal { s.money.terminal with
          state := .cancelling a.ref none s.now
          lastEnded := some { ref := a.ref, session := some a.session, order := some a.order } } with
          sent := s.sent ++ [.cancelAuth a.ref] } a .timeout 1
      | _ => s) ∧
    exec .cancelLimit s = .next (match s.money.terminal.state with
      | .cancelling _ (some a) _ => State.handTerminal ((portLeaves s a).endUnapproved a .cancelled)
      | .cancelling _ none _ => State.handTerminal (portFree s)
      | _ => s))

/-- The money an order holds (R125). -/
def orderMoney (o : Order) : BitVec 32 :=
  if o.state ∈ [.authorising, .committed] then BitVec.ofNat 32 (o.paidCredit + o.paidCard) - BitVec.ofNat 32 o.refunded else 0

/-- What came in and is in none of the places of R125: cash_in and card_in less the credit of every session, the money of every order
and the other four counters, in 32 bits. -/
def unaccounted (s : State) : BitVec 32 :=
  let t := s.money.till
  t.cashIn + t.cardIn - ((allFin 8).map (fun r => BitVec.ofNat 32 (s.account r).credit)).sum -
    ((allFin 16).map (fun k => match (s.orderRecord k).body with
      | some o => orderMoney o
      | none => 0)).sum - t.earned - t.slipsIssued - t.cardRefundsIssued - t.overage

/-- Money moves without loss (R125). It is 0 where the counters, the credits and the orders start. What the cash units and the takings
of the logs do, a settlement, the end of money in flight, a commit, an authorisation asked, approved, ended or returned, a refund and
the end of an order leave it as it was, where the order moved is in the state its event finds it in and pays what it owes. Till counters
wrap (log 23). -/
def Obligations.MoneyMovesWithoutLoss : Prop :=
  (∀ s : State, s.money.till = Till.zero → (∀ r, (s.account r).credit = 0) →
    (∀ k o, (s.orderRecord k).body = some o → o.state ∉ [.authorising, .committed]) → unaccounted s = 0) ∧
  (∀ (s t : State) (u : Fin 2) (code tag : Byte),
    ∀ c ∈ [Instr.coin u code, .billHeld u code, .billStacked u, .billReturned u, .jam u, .boxFull u, .boxOut u, .boxIn u,
      .cashHeartbeat u, .cashUnitSilence u, .escrowTimeout u, .slipTake tag, .refundTake tag],
    exec c s = .next t → unaccounted t = unaccounted s) ∧
  (∀ (s : State) (r : Fin 8), unaccounted (s.settle r) = unaccounted s) ∧
  (∀ (s : State) (h : Option SessionHandle), unaccounted (s.closingExitOf h) = unaccounted s) ∧
  (∀ (s : State) (x : CardRefund), unaccounted ((s.tillCardIn x.amount).makeRefund x) = unaccounted s) ∧
  (∀ (s : State) (h : OrderHandle) (o : Order), s.order? h = some o →
    (o.state = .quoted → ∀ (c : Nat) (ref : Option (BitVec 16)), c ≤ (s.account o.session.record).credit →
      (let t := s.setCredit o.session.record ((s.account o.session.record).credit - c);
      unaccounted (t.commitOrder h { o with paidCredit := c } 0) = unaccounted s ∧
      (o.paidCard = 0 → o.refunded = 0 →
        unaccounted (t.setOrder h.record { o with state := .authorising, paidCredit := c, termRef := ref }) = unaccounted s))) ∧
    (o.state = .authorising → o.paidCard = 0 → o.refunded = 0 →
      (∀ amount : Nat, unaccounted ((s.tillCardIn amount).commitOrder h o amount) = unaccounted s) ∧
      (∀ (a : Auth) (cause : OrderCause), a.order = h → unaccounted (s.endUnapproved a cause) = unaccounted s)) ∧
    (o.state = .committed → (∀ base : Nat, unaccounted (s.refundCopies h o base).1 = unaccounted s) ∧
      (o.collected = o.paidCredit + o.paidCard → o.refunded ≤ o.collected →
        unaccounted (s.finishOrder h o) = unaccounted s)))


/-! ### The raster spool (07) -/

/-- RASTER_OPEN, RASTER_DATA and RASTER_ABORT: the checks of R132, R133 and R135 in their order. A raster opened takes the blocks of its
size from the head of the free list and is charged to the session; data accepted joins the write queue and its request stays held; an
abort frees the record. A freeing answers the record's writes NO_RASTER, returns its blocks to the tail of the free list and
evaluates SPOOL_PRESSURE, present while fewer than SPOOL_RESERVE are free (R129, R131, R132, R133, R135, R138). That the check of the
data's length stands before the handle check is log 21; that a reply goes out behind the K13 notice, and an abort's behind the replies
NO_RASTER, is log 9. -/
def Obligations.RastersAreOpenedWrittenAndAborted : Prop :=
  (∀ s : State, s.evalPressure = s.reportLevel 13 (decide (s.spool.free.length < s.spoolReserve))) ∧
  (∀ (s : State) (tag : Byte) (p : List Byte) (h : OrderHandle) (o : Order), NamesOrder s .rasterOpen tag p h o →
    (let t := s.touchHandle o.session;
    let no : Status → Prop := fun e => exec (.rasterOpen tag) s = .next (t.answerNo tag .rasterOpen e);
    let share := ((s.spool.rasters.filter (fun x => x.charged = some o.session)).map (fun x => x.blocks.length)).sum;
    let free := s.spool.free;
    (o.state ∉ [.editing, .quoted] → no .badState) ∧
    (o.state ∈ [.editing, .quoted] → 16 ≤ byteAt p 2 → no .badValue) ∧
    (∀ k : Fin 16, o.state ∈ [.editing, .quoted] → byteAt p 2 = k.val →
      (o.lines.get k = none → no .noLine) ∧
      (∀ l, o.lines.get k = some l →
        (l.raster ∈ [.writing, .complete] → no .rasterExists) ∧
        (l.raster = .orphaned → no .orphanLine) ∧
        (l.raster = .none → free.length < l.size.blocks → no .noSpool) ∧
        (l.raster = .none → l.size.blocks ≤ free.length → s.spoolShare < share + l.size.blocks → no .shareExceeded) ∧
        (l.raster = .none → l.size.blocks ≤ free.length → share + l.size.blocks ≤ s.spoolShare →
          exec (.rasterOpen tag) s = .next (
            let new : Raster := { order := h, line := k, size := l.size, blocks := free.take l.size.blocks, written := 0
                                  accepted := 0, complete := false, charged := some o.session };
            let u : State := { t.holds tag with spool := { s.spool with
              free := free.drop l.size.blocks, rasters := s.spool.rasters ++ [new] } };
            State.ok (State.evalPressure (u.setOrder h.record
              { o with lines := put o.lines k (some { l with raster := .writing }) })) tag
              (le4 l.size.rasterBytes ++ le1 l.size.blocks ++ le2 (free.length - l.size.blocks) ++
                le2 (share + l.size.blocks)))))))) ∧
  (∀ (s : State) (tag : Byte) (p : List Byte), s.Offers .rasterData tag p → 4088 < (p.drop 7).length →
    exec (.rasterData tag) s = .next (s.answerNo tag .rasterData .badValue)) ∧
  (∀ (s : State) (tag : Byte) (p : List Byte) (h : OrderHandle) (o : Order), NamesOrder s .rasterData tag p h o →
    (p.drop 7).length ≤ 4088 →
    (let t := s.touchHandle o.session;
    let no : Status → Prop := fun e => exec (.rasterData tag) s = .next (t.answerNo tag .rasterData e);
    let data := p.drop 7;
    (o.state ∉ [.editing, .quoted] → no .badState) ∧
    (o.state ∈ [.editing, .quoted] → 16 ≤ byteAt p 2 → no .badValue) ∧
    (∀ k : Fin 16, o.state ∈ [.editing, .quoted] → byteAt p 2 = k.val →
      (o.lines.get k = none → no .noLine) ∧
      (o.lines.get k ≠ none → s.raster? h k = none → no .noRaster) ∧
      (∀ x : Raster, o.lines.get k ≠ none → s.raster? h k = some x →
        (num4At p 3 ≠ x.accepted → no .badOffset) ∧
        (num4At p 3 = x.accepted → x.size.rasterBytes < x.accepted + data.length → no .badRange) ∧
        (num4At p 3 = x.accepted → x.accepted + data.length ≤ x.size.rasterBytes →
          exec (.rasterData tag) s = .next (State.grantSpool { t.holds tag with spool := { s.spool with
            rasters := s.spool.rasters.map (fun y => if y.order = h ∧ y.line = k
              then { y with accepted := y.accepted + data.length } else y)
            writes := s.spool.writes ++
              [{ tag := tag, order := h, line := k, offset := x.accepted, data := data }] } })))))) ∧
  (∀ (s : State) (tag : Byte) (p : List Byte) (h : OrderHandle) (o : Order), NamesOrder s .rasterAbort tag p h o →
    (let t := s.touchHandle o.session;
    let no : Status → Prop := fun e => exec (.rasterAbort tag) s = .next (t.answerNo tag .rasterAbort e);
    (o.state ∉ [.editing, .quoted] → no .badState) ∧
    (o.state ∈ [.editing, .quoted] → 16 ≤ byteAt p 2 → no .badValue) ∧
    (∀ k : Fin 16, o.state ∈ [.editing, .quoted] → byteAt p 2 = k.val →
      (o.lines.get k = none → no .noLine) ∧
      (o.lines.get k ≠ none → s.raster? h k = none → no .noRaster) ∧
      (∀ (l : Line) (x : Raster), o.lines.get k = some l → s.raster? h k = some x →
        exec (.rasterAbort tag) s = .next (
          let raster : RasterState := if s.catalogue.entry? l.image = none then .orphaned else .none;
          let u := ((t.holds tag).freeRaster h k).setOrder h.record
            { o with lines := put o.lines k (some { l with raster := raster }) };
          u.ok tag (le2 (s.spool.free.length + x.blocks.length))))))) ∧
  (∀ (s : State) (h : OrderHandle) (k : Fin 16), s.raster? h k = none → s.freeRaster h k = s) ∧
  (∀ (s : State) (h : OrderHandle) (k : Fin 16) (x : Raster), s.raster? h k = some x →
    (let mine : Write → Bool := fun w => w.order = h ∧ w.line = k;
    let answered := (s.spool.writes.filter mine).foldl (fun t w => t.refuse w.tag .noRaster) s;
    s.freeRaster h k = State.evalPressure (State.grantSpool { answered with spool := { s.spool with
      free := s.spool.free ++ x.blocks
      rasters := s.spool.rasters.eraseP (fun y => y.order = h ∧ y.line = k)
      writes := s.spool.writes.filter (fun w => !mine w)
      granted := if s.spool.granted = some .writer ∧ s.spool.writes.head?.any mine then none else s.spool.granted } })))

/-- The idle spool port is granted to the first requester that waits, in the cyclic order from the one after that last granted. At
the end of a write its bytes stand at their places and its request is answered; the last byte makes the raster COMPLETE. At the end
of a read transfer its bytes go down the printer link; when the link has taken them the reader asks again, or END is sent and the
port goes to PRINTING (R130, R134, R137, R150). A byte of the spool memory reads as it was last written, and every other byte as before.
That WRITE_END and READ_TRANSFER_END outside their transfer change nothing is log 3, that the reader's next offset advances at the
transfer's end log 43, that a count above the bytes on the link takes them all log 31, that an unwritten byte reads 0 log 7. -/
def Obligations.SpoolPortServesOneTransferAtATime : Prop :=
  (∀ (m : Memory) (a b : Nat) (v : Byte), Memory.wf m = true →
    Memory.read (Memory.write m a v) b = if b = a then v else Memory.read m b) ∧
  (∀ s : State,
    (let asks : Requester → Bool := fun r => match r with
      | .writer => decide (s.spool.writes ≠ [])
      | .reader q => (s.reader q).job.isSome && (s.reader q).asks;
    let order : List Requester := [.writer, .reader 0, .reader 1, .reader 2];
    let from' := match s.spool.last with
      | .writer => 1
      | .reader q => q.val + 2;
    s.grantSpool = if s.spool.granted ≠ none then s
      else match (order.drop from' ++ order.take from').find? asks with
        | some r => { s with spool := { s.spool with granted := some r, last := r } }
        | none => s)) ∧
  (∀ s : State, s.spool.granted ≠ some .writer ∨ s.spool.writes = [] → exec .writeEnd s = .next s) ∧
  (∀ (s : State) (w : Write) (rest : List Write), s.spool.granted = some .writer → s.spool.writes = w :: rest →
    (let t : State := { s with spool := { s.spool with writes := rest, granted := none } };
    (s.raster? w.order w.line = none → exec .writeEnd s = .next t.grantSpool) ∧
    (∀ x : Raster, s.raster? w.order w.line = some x → exec .writeEnd s = .next (
      let written := x.written + w.data.length;
      let complete := x.complete || decide (written = x.size.rasterBytes);
      let u : State := { t with spool := { t.spool with
        rasters := s.spool.rasters.map (fun y => if y.order = w.order ∧ y.line = w.line
          then { y with
            written := y.written + w.data.length
            complete := y.complete || decide (y.written + w.data.length = y.size.rasterBytes) }
          else y)
        mem := Memory.storeRaster s.spool.mem x.blocks w.offset w.data } };
      State.grantSpool (State.ok (if complete then u.setLineRaster w.order w.line .complete else u) w.tag
        (le4 written ++ le1 (if complete then 2 else 1))))))) ∧
  (∀ (s : State) (q : Fin 3),
    (s.spool.granted ≠ some (.reader q) ∨ (s.reader q).job = none → exec (.readTransferEnd q) s = .next s) ∧
    (∀ (h : OrderHandle) (k : Fin 16) (x : Raster), s.spool.granted = some (.reader q) → (s.reader q).job = some (h, k) →
      s.raster? h k = some x → exec (.readTransferEnd q) s = .next (
        let n := min 4096 (x.size.rasterBytes - (s.reader q).next);
        State.grantSpool { s with
          spool := { s.spool with
            readers := put s.spool.readers q { s.reader q with
              next := (s.reader q).next + n, asks := false, untaken := n }
            granted := none }
          sent := s.sent ++ [.raster q (Memory.readRaster s.spool.mem x.blocks (s.reader q).next n)] }))) ∧
  (∀ (s : State) (q : Fin 3) (count : Nat),
    (let r := s.reader q;
    let t := s.setPort q { s.port q with limitSince := s.now };
    ((s.port q).state ≠ .feeding ∨ r.job = none ∨ count = 0 ∨ r.untaken = 0 →
      exec (.rasterBytesTaken q count) s = .next s) ∧
    (∀ (h : OrderHandle) (k : Fin 16) (x : Raster), (s.port q).state = .feeding → r.job = some (h, k) →
      s.raster? h k = some x → 0 < count →
      (count < r.untaken → exec (.rasterBytesTaken q count) s = .next (t.setReader q { r with untaken := r.untaken - count })) ∧
      (0 < r.untaken → r.untaken ≤ count → r.next < x.size.rasterBytes →
        exec (.rasterBytesTaken q count) s = .next (State.grantSpool (t.setReader q { r with untaken := 0, asks := true }))) ∧
      (0 < r.untaken → r.untaken ≤ count → x.size.rasterBytes ≤ r.next →
        ∃ v, exec (.rasterBytesTaken q count) s = .next v ∧
          v.port q = { s.port q with state := .printing, limitSince := s.now } ∧ (∀ j, j ≠ q → v.port j = s.port j) ∧
          v.reader q = { job := none, next := 0, asks := false, untaken := 0 } ∧ (∀ j, j ≠ q → v.reader j = s.reader j) ∧
          v.sent = s.sent ++ [.rasterEnd q] ∧ v.spool.mem = s.spool.mem ∧ v.spool.rasters = s.spool.rasters ∧
          v.spool.writes = s.spool.writes ∧ v.spool.free = s.spool.free ∧ s.ChangesOnly v [.spool, .prints, .sent]))))

/-! ### Print dispatch (08) -/

/-- A port's state and fault reason changed, with the PRINTER notice that tells of it (R157). -/
def portMoved (w : State) (p : Fin 3) (state : PortState) (fault : Option Reason) (cause : PrinterCause) : State :=
  let x : Port := { w.port p with state := state, fault := fault };
  (w.setPort p x).notify 0xCB (le1 p.val ++ le1 state.code ++ noticeField Reason.code fault ++
    noticeField kindCode x.kind ++ le2 x.units ++ le1 x.errors ++ flagByte x.hold ++ le1 cause.code)

/-- A port that would enter READY: HELD where its hold flag is set, and a take where it is READY (R148, 8.2). -/
def portReady (w : State) (p : Fin 3) (cause : PrinterCause) : State :=
  State.takeOnEntry (portMoved w p (if (w.port p).hold then .held else .ready) none cause) p

/-- An attempt's end but for its port's state: the reader stops, CANCEL goes out in FEEDING and on LINK_LOST and TIMEOUT, and the copy
moves (R152). -/
def attemptEnded (s : State) (p : Fin 3) (a : Attempt) (feeding : Bool) (reason : Reason) : State :=
  let stopped := (s.setPort p { s.port p with attempt := none }).stopReader p;
  let told : State := { stopped with sent := stopped.sent ++
    (if feeding = true ∨ reason ∈ [.linkLost, .timeout] then [.cancelCopy p a.copyId] else []) };
  told.copyFailed p a reason

/-- A good STATUS restarts the silence interval, lowers the counter outside ABSENT and is recorded as the last. Outside FAULT its
kind is compared with the recorded one, or recorded. A kind that differs puts the port in FAULT or fails its attempt; else the
reported state acts by the table of R145, in OFFLINE by the run of R146. The conditions of R156 are evaluated at the end (R144,
R145, R146, R147). The order of the evaluations is log 18. -/
def Obligations.StatusReportsMoveThePort : Prop :=
  ∀ (s : State) (p : Fin 3) (report : PrinterReport) (kind : MediaKind), s.power.starting = false →
    (let x := s.port p;
    let w : Option MediaKind → Nat → State := fun k run => s.setPort p { x with
      kind := k, run := run, heardAt := s.now, last := some (report, kind)
      errors := if x.state = .absent then x.errors else x.errors - 1 };
    let heard := w (some kind) x.run;
    let goes : State → Prop := fun t => exec (.statusReport p report kind) s = .next t.evalPrints;
    (x.state = .absent → goes (match report with
      | .ready => portReady heard p .status
      | .error r => portMoved heard p .fault (some (errorReason r)) .status
      | _ => portMoved heard p .cooling none .status)) ∧
    (x.state = .fault → goes (w x.kind x.run)) ∧
    (∀ k, x.kind = some k → k ≠ kind →
      (x.state ∈ [.feeding, .printing] → goes ((w x.kind x.run).attemptFails p .mediaMismatch)) ∧
      (x.state ∈ [.ready, .cooling, .held, .offline] →
        goes (portMoved (w x.kind 0) p .fault (some .mediaMismatch) .status))) ∧
    (x.kind = none ∨ x.kind = some kind →
      (x.state = .ready → goes (match report with
        | .ready => heard
        | .error r => portMoved heard p .fault (some (errorReason r)) .status
        | _ => portMoved heard p .cooling none .status)) ∧
      (x.state ∈ [.feeding, .printing] → goes (match report with
        | .error r => heard.attemptFails p (errorReason r)
        | _ => heard)) ∧
      (x.state = .cooling → goes (match report with
        | .ready => portReady heard p .status
        | .error r => portMoved heard p .fault (some (errorReason r)) .status
        | _ => heard)) ∧
      (x.state = .held → goes (match report with
        | .error r => portMoved heard p .fault (some (errorReason r)) .status
        | _ => heard)) ∧
      (x.state = .offline → goes (
        if report = .ready ∧ x.errors ≤ 1 then
          if x.run + 1 = 3 then portReady (w (some kind) 0) p .recovered else w (some kind) (x.run + 1)
        else w (some kind) 0))))

/-- DONE and FAIL for another copy id than the attempt's move the counter alone (R143, R144). For the attempt's own id, FAIL fails
it, DONE fails it with DATA_ERROR in FEEDING and delivers the copy in PRINTING; 30 s in FEEDING without a byte taken and 120 s in
PRINTING without DONE fail it with TIMEOUT (R150, R151, R152). After a failure the port goes on by the reason (R153). That every
READY port takes after every failed attempt is log 36, the order of the evaluations log 18, and that a limit that does not run changes
nothing log 3. -/
def Obligations.OutcomesEndTheAttempt : Prop :=
  (∀ (s : State) (p : Fin 3), s.power.starting = false →
    (let x := s.port p;
    let w := s.setPort p { x with errors := if x.state = .absent then x.errors else x.errors - 1 };
    (∀ id r, (∀ a, x.attempt = some a → a.copyId ≠ id) →
      exec (.done p id) s = .next w ∧ exec (.fail p id r) s = .next w) ∧
    (∀ a, x.attempt = some a →
      (∀ r, exec (.fail p a.copyId r) s = .next (w.attemptFails p (failReason r))) ∧
      (x.state = .feeding → exec (.done p a.copyId) s = .next (w.attemptFails p .dataError)) ∧
      (x.state = .printing → exec (.done p a.copyId) s = .next (State.evalPrints (portMoved
        ((w.setPort p { w.port p with attempt := none }).copyDelivered p a) p .cooling none .done)))) ∧
    exec (.feedLimit p) s = .next (if x.state = .feeding then s.attemptFails p .timeout else s) ∧
    exec (.printLimit p) s = .next (if x.state = .printing then s.attemptFails p .timeout else s))) ∧
  (∀ (s : State) (p : Fin 3) (a : Attempt) (reason : Reason), (s.port p).attempt = some a →
    s.attemptFails p reason = (
      let t := attemptEnded s p a (decide ((s.port p).state = .feeding)) reason;
      let u := if reason = .mediaOut then t.setPort p { t.port p with units := 0 } else t;
      State.evalPrints (State.takeAll (match reason with
        | .dataError | .timeout => portMoved u p .cooling none (.reason reason)
        | .linkLost => portMoved u p .offline none (.reason reason)
        | _ => portMoved u p .fault (some reason) (.reason reason)))))

/-- A READY port that is not held is given a copy of the first eligible task in queue order: the copy id, the attempt, the counters,
the units, the JOB and the reader are as R149 gives them. Nothing eligible, nothing taken. A delivered copy and a failed attempt
move the line's counters as R92 gives: a first attempt of an order not cancelled is retried, another is final and refunded, and
raises PRINT_FAILED (R93, R94, R95, R142, R148, R149). That a delivered copy's notice carries the reason byte 0xFF, no reason, is log
10; the order of the events within a hand-out and of what goes out is log 9. -/
def Obligations.CopiesAreHandedOutAndAccountedFor : Prop :=
  (∀ (s : State) (p : Fin 3) (t : Task), s.eligible p t = true ↔ ∃ o l k, s.order? t.order = some o ∧
    o.lines.get t.line = some l ∧ (s.port p).kind = some k ∧ o.cancel = false ∧
    0 < l.copies.queued + l.copies.retryPending ∧ supports k l.size = true ∧ l.size.need ≤ (s.port p).units) ∧
  (∀ (s : State) (p : Fin 3), (s.port p).state ≠ .ready ∨ (s.port p).hold = true ∨
    (∀ t ∈ s.prints.queue, s.eligible p t = false) → s.portTake p = s) ∧
  (∀ (s : State) (p : Fin 3) (t : Task) (front rest : List Task) (o : Order) (l : Line), (s.port p).state = .ready →
    (s.port p).hold = false → s.prints.queue = front ++ t :: rest → (∀ b ∈ front, s.eligible p b = false) →
    s.eligible p t = true → s.order? t.order = some o → o.lines.get t.line = some l →
    s.portTake p = (
      let c := l.copies;
      let second := decide (0 < c.retryPending);
      let moved : Counters := if second then { c with retryPending := c.retryPending - 1, inFlight := c.inFlight + 1 }
        else { c with queued := c.queued - 1, inFlight := c.inFlight + 1 };
      let id := s.prints.copyId;
      let u := s.setOrder t.order.record { o with lines := put o.lines t.line (some { l with copies := moved }) };
      State.grantSpool { u with
        prints := { s.prints with
          copyId := if id = 65535 then 1 else id + 1
          ports := put s.prints.ports p { s.port p with
            state := .feeding, units := (s.port p).units - l.size.need, limitSince := s.now
            attempt := some { copyId := id, order := t.order, line := t.line, second := second, need := l.size.need } } }
        sent := s.sent ++ [.job p id l.size l.finish]
        spool := { s.spool with
          readers := put s.spool.readers p ⟨some (t.order, t.line), 0, true, 0⟩ } })) ∧
  (∀ (s : State) (p : Fin 3) (a : Attempt) (reason : Reason),
    (∀ o l, s.order? a.order = some o → o.lines.get a.line = some l → l.copies.inFlight = 0) →
    s.copyDelivered p a = s ∧ s.copyFailed p a reason = s) ∧
  (∀ (s : State) (p : Fin 3) (a : Attempt) (reason : Reason) (o : Order) (l : Line), s.order? a.order = some o →
    o.lines.get a.line = some l → 0 < l.copies.inFlight →
    (let c := { l.copies with inFlight := l.copies.inFlight - 1 };
    let counted : Counters → Order := fun c => { o with lines := put o.lines a.line (some { l with copies := c }) };
    let attempt := if a.second then 2 else 1;
    let nothing := le4 0 ++ le4 0 ++ le4 0;
    s.copyDelivered p a = (
      let c := { c with delivered := l.copies.delivered + 1 };
      let u := s.setOrder a.order.record (counted c);
      State.settleLines (u.copyNotice a.order o.session a.line attempt 0 p.val 0xFF c nothing) a.order [a.line]) ∧
    (a.second = false → o.cancel = false → s.copyFailed p a reason = (
      let c := { c with retryPending := l.copies.retryPending + 1 };
      State.copyNotice (s.setOrder a.order.record (counted c)) a.order o.session a.line 1 1 p.val reason.code c nothing)) ∧
    (∀ q : Quote, a.second = true ∨ o.cancel = true → o.quote = some q → s.copyFailed p a reason = (
      let c := { c with finalFailed := l.copies.finalFailed + 1 };
      let base := o.refundedBase + ((q.lines.get a.line).map (fun y => y.unit)).getD 0;
      let tax := min q.tax ((base * q.rate + 5000) / 10000);
      let inc := (base - o.refundedBase) + (tax - o.refundedTax);
      let toCredit := min inc (o.paidCredit - o.creditRefunded);
      let toCard := inc - toCredit;
      let v := (s.setOrder a.order.record { counted c with
        refundedBase := base, refundedTax := tax, refunded := o.refunded + inc
        creditRefunded := o.creditRefunded + toCredit }).addCredit o.session.record toCredit;
      let paid := if 0 < toCard then v.makeRefund { session := some o.session, order := some a.order, ref := o.termRef.getD 0
                                                    amount := toCard, cause := .refund }
        else v;
      let told := paid.copyNotice a.order o.session a.line attempt 2 p.val reason.code c (le4 inc ++ le4 toCredit ++ le4 toCard);
      State.settleLines (told.raiseSession o.session 3 (a.order.bytes ++ le1 a.line.val ++ le1 p.val ++ le1 reason.code))
        a.order [a.line]))))

/-- A corrupt frame raises the port's counter; above PRN_ERR_LIMIT the port goes OFFLINE, as it does after 3 s of silence, from
every state but ABSENT and OFFLINE: its fault reason goes, its run is 0 and its attempt fails with LINK_LOST, and every READY port
takes, also without an attempt (R144, R146, log 36). The evaluation that stands at the end of an event of the dispatcher leaves the
causes of R156 as its conditions. Before start-up has ended no port is heard (log 20). That the port's notice comes before the copy's
is log 19. -/
def Obligations.PortsGoOffline : Prop :=
  (∀ (s : State) (p : Fin 3) (c : Instr), s.power.starting = true → (∃ id r report kind, c ∈ [.statusReport p report kind,
      .done p id, .fail p id r, .printerCorruptFrame p, .printerSilence p, .feedLimit p, .printLimit p]) →
    exec c s = .next s) ∧
  (∀ (s : State) (p : Fin 3), s.power.starting = false →
    (let x := s.port p;
    let n := min 255 (x.errors + 1);
    exec (.printerCorruptFrame p) s = .next (
      if x.state = .absent then s
      else if x.state = .offline then s.setPort p { x with errors := n, run := 0 }
      else if s.prnErrLimit < n then (s.setPort p { x with errors := n }).goOffline p .errors
      else s.setPort p { x with errors := n }) ∧
    exec (.printerSilence p) s = .next (s.goOffline p .silence))) ∧
  (∀ (s : State) (p : Fin 3) (cause : PrinterCause),
    s.goOffline p cause = (
      let x := s.port p;
      if x.state = .absent ∨ x.state = .offline then s
      else
        let w := portMoved (s.setPort p { x with run := 0 }) p .offline none cause;
        State.evalPrints (State.takeAll (match x.attempt with
          | some a => attemptEnded w p a (decide (x.state = .feeding)) .linkLost
          | none => w)))) ∧
  (∀ s : State,
    (let t := s.evalPrints;
    let fault : Fin 3 → Prop := fun p => (s.port p).state ∈ [.fault, .offline];
    t.prints = s.prints ∧ t.conds.kiosk.bits.getLsbD 8 = decide (fault 0) ∧
    t.conds.kiosk.bits.getLsbD 9 = decide (fault 1) ∧ t.conds.kiosk.bits.getLsbD 10 = decide (fault 2) ∧
    (t.conds.kiosk.bits.getLsbD 11 = true ↔ ∃ p, (s.port p).state ≠ .absent ∧ (s.port p).units < s.mediaLowMark) ∧
    (t.conds.kiosk.bits.getLsbD 15 = true ↔ s.prints.queue ≠ [] ∧ ∀ x ∈ s.prints.queue, ∀ o l, s.order? x.order = some o →
      o.lines.get x.line = some l → ∀ p, ¬ ((s.port p).state ∈ [.ready, .feeding, .printing, .cooling] ∧
        ∃ k, (s.port p).kind = some k ∧ supports k l.size = true)) ∧
    (∀ i : Fin 16, i ∉ [8, 9, 10, 11, 13, 15] → t.conds.kiosk.bits.getLsbD i.val = s.conds.kiosk.bits.getLsbD i.val)))

/-- PRINTER_HOLD, PRINTER_RELEASE and MEDIA_LOADED, each with its checks in order: in customer mode NOT_SERVICE. A hold takes READY and
COOLING to HELD, a release takes HELD to COOLING, and MEDIA_LOADED records kind and units, takes FAULT to COOLING or HELD, and a
READY port then takes (R154, R155). That a hold of a COOLING port takes it to HELD also where its flag is already set is log 44; that the reply goes
out behind the take and tells what the take leaves is log 9. -/
def Obligations.AttendantHoldsReleasesAndLoads : Prop :=
  (∀ (c : RequestCode) (s : State) (tag : Byte) (p : List Byte), c ∈ [.printerHold, .printerRelease, .mediaLoaded] →
    s.Offers c tag p →
    (s.conds.mode = .customer → exec (c.instr tag) s = .next (s.answerNo tag c .notService)) ∧
    (s.conds.mode = .service → 3 ≤ byteAt p 0 → exec (c.instr tag) s = .next (s.answerNo tag c .badValue))) ∧
  (∀ (s : State) (tag : Byte) (p : List Byte) (n : Fin 3), s.Offers .printerHold tag p → s.conds.mode = .service →
    byteAt p 0 = n.val → exec (.printerHold tag) s = .next (
      let t := (s.holds tag).setPort n { s.port n with hold := true };
      let u := if (s.port n).state ∈ [.ready, .cooling] then State.evalPrints (portMoved t n .held none .hold) else t;
      u.ok tag (le1 (u.port n).state.code ++ le1 1))) ∧
  (∀ (s : State) (tag : Byte) (p : List Byte) (n : Fin 3), s.Offers .printerRelease tag p → s.conds.mode = .service →
    byteAt p 0 = n.val → exec (.printerRelease tag) s = .next (
      let t := (s.holds tag).setPort n { s.port n with hold := false };
      let u := if (s.port n).state = .held then State.evalPrints (portMoved t n .cooling none .release) else t;
      u.ok tag (le1 (u.port n).state.code ++ le1 0))) ∧
  (∀ (s : State) (tag : Byte) (p : List Byte), s.Offers .mediaLoaded tag p → s.conds.mode = .service →
    (let no : Status → Prop := fun e => exec (.mediaLoaded tag) s = .next (s.answerNo tag .mediaLoaded e);
    (9999 < num2At p 2 ∨ (∀ k : MediaKind, byteAt p 1 ≠ kindCode k) → no .badValue) ∧
    (∀ (n : Fin 3) (k : MediaKind), num2At p 2 ≤ 9999 → byteAt p 0 = n.val → byteAt p 1 = kindCode k →
      ((s.port n).state ∈ [.absent, .feeding, .printing] → no .badState) ∧
      ((s.port n).state ∈ [.ready, .cooling, .fault, .offline, .held] → exec (.mediaLoaded tag) s = .next (
        let t := (s.holds tag).setPort n { s.port n with kind := some k, units := num2At p 2 };
        let u := if (s.port n).state = .fault then
            portMoved t n (if (s.port n).hold then .held else .cooling) none .mediaLoaded
          else t;
        let v := State.evalPrints (u.takeOnEntry n);
        v.ok tag (le1 (v.port n).state.code ++ le1 (kindCode k) ++ le2 (v.port n).units))))))

/-! ### Conditions, modes and masks (09) -/

/-- A sampled input after one reading: the eighth disagreeing reading in a row confirms the change (R162). -/
def inputAfter (x : Input) (level : Bool) : Input :=
  if level = x.confirmed then { x with run := 0 }
  else if 7 ≤ x.run then { confirmed := level, run := 0 }
  else { x with run := x.run + 1 }

/-- The door switch, the supply-fault input and the presence input: a confirmed change of the door reports DOOR_OPEN, and an opening
is the wake cause DOOR while a closing returns the mode to CUSTOMER behind the clear of K1; a confirmed supply change reports
SUPPLY_FAULT; a confirmed presence is the wake cause PRESENCE. A wake cause is latched in STANDBY where it is enabled and not yet
latched (R162, R163, R182, R184). Before start-up has ended nothing is sampled (log 20). BAD_VALUE for another mode than 0 and 1 is
R186's. The order of what goes out, the reply last, is log 9. -/
def Obligations.EightReadingsConfirmAnInput : Prop :=
  (∀ (s : State) (level : Bool) (c : Instr), s.power.starting = true →
    c ∈ [.doorSample level, .supplySample level, .presenceSample level] → exec c s = .next s) ∧
  (∀ (s : State) (level : Bool), s.power.starting = false →
    (let confirms : Input → Prop := fun x => level ≠ x.confirmed ∧ 7 ≤ x.run;
    let door : State := { s with conds := { s.conds with door := inputAfter s.conds.door level } };
    let supply : State := { s with conds := { s.conds with supply := inputAfter s.conds.supply level } };
    let presence : State := { s with power := { s.power with presence := inputAfter s.power.presence level } };
    (¬ confirms s.conds.door → exec (.doorSample level) s = .next door) ∧
    (confirms s.conds.door → exec (.doorSample level) s = .next (
      if level then (door.reportLevel 1 true).wakeCause .door else (door.reportLevel 1 false).changeMode .customer)) ∧
    (¬ confirms s.conds.supply → exec (.supplySample level) s = .next supply) ∧
    (confirms s.conds.supply → exec (.supplySample level) s = .next (supply.reportLevel 0 level)) ∧
    (¬ confirms s.power.presence → exec (.presenceSample level) s = .next presence) ∧
    (confirms s.power.presence → exec (.presenceSample level) s = .next (
      if level then presence.wakeCause .presence else presence)))) ∧
  (∀ (s : State) (cause : WakeCause),
    s.wakeCause cause =
      if s.power.standby = true ∧ s.wakeEnables.getLsbD cause.bit.val = true ∧ s.power.latches.getLsbD cause.bit.val = false then
        State.notify { s with power := { s.power with latches := setBit s.power.latches cause.bit } } 0xCD [BitVec.ofNat 8 cause.bit.val]
      else s) ∧
  (∀ (s : State) (tag : Byte) (p : List Byte), s.Offers .setMode tag p →
    (let no : Status → Prop := fun e => exec (.setMode tag) s = .next (s.answerNo tag .setMode e);
    (2 ≤ byteAt p 0 → no .badValue) ∧
    (byteAt p 0 = 1 → s.conds.mode = .customer → s.conds.door.confirmed = false → no .doorClosed) ∧
    (∀ m : Mode, byteAt p 0 = m.code → m = .customer ∨ s.conds.mode = .service ∨ s.conds.door.confirmed = true →
      ∃ t, t = (s.holds tag).changeMode m ∧ t.conds.mode = m ∧
        exec (.setMode tag) s = .next (t.ok tag (le1 m.code ++ le1 (if t.conds.inService then 0 else 1)))))) ∧
  (∀ (s : State) (m : Mode), s.changeMode m = if s.conds.mode = m then s
    else State.resolveSets { s with conds := { s.conds with mode := m } } .mode)

/-- A set bit that is masked resolves to HOLD, an enabled one by the table of its set and the mode (R165). A resolution records the
action, sends a CONDITION notice where the bit begins to act, and applies a lockout or a suspension where its action becomes one
(R166). A raise, of the kiosk's set or of a session's, sets a clear bit and resolves it and leaves a set one; one whose handle is not
current is discarded; a level report of an absent cause clears the bit (R161). A lockout puts the kiosk OUT_OF_SERVICE, suspends every
ACTIVE session and closes every open gate, each with cause LOCKOUT, and ends the waiting authorisations without approval and without a
condition, with ORDER cause LOCKOUT (R33, R167); what such an end does to the order is stated in AuthorisationsEndWithoutApproval. The
SUSPEND action stops an ACTIVE session's timer and closes its station's gate, and leaves any other session (R33, R168). ATTN is asserted while a bit acts or a wake cause is latched, WAKE while
one is latched (R173, R184). A lockout applied within a resolution, and the order of its effects, is log 9. -/
def Obligations.ConditionsResolveByMaskAndMode : Prop :=
  (∀ (i : Fin 16) (m : Mode), kioskTable i m =
    if i ∈ [0, 1, 12, 15] ∧ m = .customer then .lockout
    else if (i = 1 ∨ i = 13) ∧ m = .service then .status
    else .notify) ∧
  (∀ (i : Fin 8) (m : Mode), sessionTable i m = if i = 6 ∨ (i = 5 ∧ m = .customer) then .suspend else .notify) ∧
  (∀ (s : State) (i : Fin 16), s.kioskResolved i =
    if s.conds.kiosk.bits.getLsbD i.val = false then .unset
    else if s.conds.kiosk.mask.getLsbD i.val = false then .hold else kioskTable i s.conds.mode) ∧
  (∀ (s : State) (r i : Fin 8), s.sessionResolved r i =
    if (s.sessionSet r).bits.getLsbD i.val = false then .unset
    else if (s.sessionSet r).mask.getLsbD i.val = false then .hold else sessionTable i s.conds.mode) ∧
  (∀ (s : State) (i : Fin 16) (g : Trigger),
    (let old := s.conds.kiosk.recorded.get i;
    let new := s.kioskResolved i;
    let acts : Action → Prop := fun a => a ∈ [.notify, .suspend, .lockout];
    let t : State := { s with conds := { s.conds with kiosk := { s.conds.kiosk with recorded := put s.conds.kiosk.recorded i new } } };
    let u := if acts new ∧ ¬ acts old then
      t.notify 0xCC ([0] ++ sessionBytes none ++ le1 i.val ++ le1 new.code ++ le1 g.code ++ g.detail) else t;
    State.resolveKiosk State.lockout g s i = if new = .lockout ∧ old ≠ .lockout then u.lockout else u)) ∧
  (∀ (s : State) (r i : Fin 8) (g : Trigger),
    (let old := (s.sessionSet r).recorded.get i;
    let new := s.sessionResolved r i;
    let acts : Action → Prop := fun a => a ∈ [.notify, .suspend, .lockout];
    let t := s.setSessionSet r { s.sessionSet r with recorded := put (s.sessionSet r).recorded i new };
    let u := if acts new ∧ ¬ acts old then
      t.notify 0xCC ([1] ++ (s.handleOf r).bytes ++ le1 i.val ++ le1 new.code ++ le1 g.code ++ g.detail) else t;
    State.resolveSession State.suspend g r s i = if new = .suspend ∧ old ≠ .suspend then u.suspend r else u)) ∧
  (∀ (s : State) (i : Fin 16) (detail : List Byte),
    (let old := s.conds.kiosk.bits.getLsbD i.val;
    let set : State := { s with conds := { s.conds with kiosk := { s.conds.kiosk with bits := setBit s.conds.kiosk.bits i } } };
    s.raiseKiosk i detail = (if old = true then s else State.resolveKiosk State.lockout (.raised detail) set i) ∧
    s.reportLevel i true = (if old = true then s else State.resolveKiosk State.lockout (.raised []) set i) ∧
    s.reportLevel i false = { s with conds := { s.conds with kiosk := { s.conds.kiosk with
      bits := clearBit s.conds.kiosk.bits i, recorded := put s.conds.kiosk.recorded i .unset } } })) ∧
  (∀ (s : State) (h : SessionHandle) (i : Fin 8) (detail : List Byte), s.raiseSession h i detail = (
    let set := s.sessionSet h.record;
    if s.current h = false ∨ set.bits.getLsbD i.val = true then s
    else State.resolveSession State.suspend (.raised detail) h.record
      (s.setSessionSet h.record { set with bits := setBit set.bits i }) i)) ∧
  (∀ (s : State) (i : Fin 16) (detail : List Byte), i ∈ [2, 5, 6, 14] → s.raiseKioskQuiet i detail = s.raiseKiosk i detail) ∧
  (∀ (s : State) (i : Fin 16) (present : Bool), i ∈ [3, 4, 7, 8, 9, 10, 11, 13] →
    s.reportLevelQuiet i present = s.reportLevel i present) ∧
  (∀ (s : State) (r : Fin 8), s.suspend r = (
    let x := s.record r;
    let t := s.setRecord r { x with state := .suspended, timer := .stopped (x.timer.count s.now) };
    if x.state = .active then
      (t.notify 0xC1 (le1 r.val ++ [x.gen] ++ [2, 0])).closeStationGate x.station (some .suspended)
    else s)) ∧
  (∀ s : State, s.wake = true ↔ s.power.latches ≠ 0) ∧
  (∀ s : State, s.attn = true ↔ (∃ i, s.kioskResolved i ∈ [.notify, .suspend, .lockout]) ∨
    (∃ r i, s.sessionResolved r i ∈ [.notify, .suspend, .lockout]) ∨ s.power.latches ≠ 0) ∧
  (∀ s : State, s.lockout = (
    let out : State := { s with conds := { s.conds with inService := false } };
    let suspended := (allFin 8).foldl (fun w r =>
      let x := w.record r
      let t := w.setRecord r { x with state := .suspended, timer := .stopped (x.timer.count w.now) }
      if x.state = .active then
        (t.notify 0xC1 (le1 r.val ++ [x.gen] ++ [2, 1])).closeStationGate x.station (some .lockout)
      else w) out;
    let closed := (suspended.closeGate 0 (some .lockout)).closeGate 1 (some .lockout);
    s.money.terminal.waiting.foldl (fun w a => w.endUnapproved a .lockout)
      (closed.setTerminal { s.money.terminal with waiting := [] }))) ∧
  (∀ s : State,
    (let t := s.lockout;
    t.conds.inService = false ∧ (∀ u, (t.unit u).gateOpen = false) ∧ (∀ r, (t.record r).state ≠ .active) ∧
      t.money.terminal.waiting = [] ∧
      s.ChangesOnly t [.conds, .sessions, .link, .money, .sent, .spool, .catalogue, .orders]))

/-- CONDITION_CLEAR clears the set event bits it names and leaves level bits as they are; of K5 and K6 it clears the jam flag, of
K12 the error count (R169). MASK_SET resolves each set bit whose flag it changes (R170). SERVICE_RESTORE, refused while some kiosk
bit resolves to LOCKOUT, puts the kiosk IN_SERVICE, forgets the recorded actions and resolves every set bit again (R171). The fields
are laid out as log 10 says, bits are resolved in rising order (log 18), the reply goes out last (log 9), and BAD_VALUE for another
scope is log 34. -/
def Obligations.ConditionsAreClearedMaskedAndRestored : Prop :=
  (∀ (c : RequestCode) (s : State) (tag : Byte) (p : List Byte), c ∈ [.conditionClear, .maskSet] → s.Offers c tag p →
    (2 ≤ byteAt p 0 → exec (c.instr tag) s = .next (s.answerNo tag c .badValue)) ∧
    (byteAt p 0 = 0 → s.conds.mode = .customer → exec (c.instr tag) s = .next (s.answerNo tag c .notService)) ∧
    (byteAt p 0 = 1 → 8 ≤ byteAt p 1 → exec (c.instr tag) s = .next (s.answerNo tag c .badValue)) ∧
    (∀ h : SessionHandle, byteAt p 0 = 1 → byteAt p 1 = h.record.val → p.getD 2 0 = h.gen → s.current h = false →
      exec (c.instr tag) s = .next (s.answerNo tag c .staleHandle))) ∧
  (∀ (s : State) (tag : Byte) (p : List Byte), s.Offers .conditionClear tag p → byteAt p 0 = 0 →
    s.conds.mode = .service →
    (let named := BitVec.ofNat 16 (num2At p 3);
    let gone : Fin 16 → Bool := fun i => named.getLsbD i.val && s.conds.kiosk.bits.getLsbD i.val && !kioskLevel i;
    ∃ t, exec (.conditionClear tag) s = .next (t.ok tag (le2 (bitsOf gone).toNat ++ le2 t.conds.kiosk.bits.toNat)) ∧
      (∀ i : Fin 16, t.conds.kiosk.bits.getLsbD i.val = (s.conds.kiosk.bits.getLsbD i.val && !gone i)) ∧
      (∀ i, t.conds.kiosk.recorded.get i = if gone i then .unset else s.conds.kiosk.recorded.get i) ∧
      t.conds.kiosk.mask = s.conds.kiosk.mask ∧ t.conds.sessions = s.conds.sessions ∧
      t.conds.inService = s.conds.inService ∧ t.conds.mode = s.conds.mode ∧
      (∀ u : Fin 2, t.unit u = { s.unit u with jammed := (s.unit u).jammed && !gone (if u = 0 then 5 else 6) }) ∧
      t.money.challenge = { s.money.challenge with errors := if gone 12 then 0 else s.money.challenge.errors } ∧
      t.money.accounts = s.money.accounts ∧ t.money.till = s.money.till ∧ t.link = (s.holds tag).link ∧
      s.ChangesOnly t [.conds, .money, .link])) ∧
  (∀ (s : State) (tag : Byte) (p : List Byte) (h : SessionHandle), s.Offers .conditionClear tag p → byteAt p 0 = 1 →
    byteAt p 1 = h.record.val → p.getD 2 0 = h.gen → s.current h = true →
    (let named := BitVec.ofNat 8 (byteAt p 3);
    let set := s.sessionSet h.record;
    let gone : Fin 8 → Bool := fun i => named.getLsbD i.val && set.bits.getLsbD i.val;
    ∃ t : State, exec (.conditionClear tag) s = .next (t.ok tag
        (le1 (bitsOf gone).toNat ++ le1 (t.sessionSet h.record).bits.toNat)) ∧
      (∀ i : Fin 8, (t.sessionSet h.record).bits.getLsbD i.val = (set.bits.getLsbD i.val && !gone i)) ∧
      (∀ i, (t.sessionSet h.record).recorded.get i = if gone i then .unset else set.recorded.get i) ∧
      (t.sessionSet h.record).mask = set.mask ∧ (∀ r, r ≠ h.record → t.sessionSet r = s.sessionSet r) ∧
      t.conds.kiosk = s.conds.kiosk ∧ t.conds.mode = s.conds.mode ∧ t.conds.inService = s.conds.inService ∧
      (s.touch h.record).ChangesOnly t [.conds, .link])) ∧
  (∀ (s : State) (tag : Byte) (p : List Byte), s.Offers .maskSet tag p → byteAt p 0 = 0 → s.conds.mode = .service →
    (let mask := BitVec.ofNat 16 (num2At p 3);
    let t := s.holds tag;
    let changed := (allFin 16).filter (fun i => s.conds.kiosk.bits.getLsbD i.val &&
      (s.conds.kiosk.mask.getLsbD i.val != mask.getLsbD i.val));
    let u := changed.foldl (State.resolveKiosk State.lockout .mask)
      { t with conds := { s.conds with kiosk := { s.conds.kiosk with mask := mask } } };
    exec (.maskSet tag) s = .next (u.ok tag (le2 mask.toNat ++ actionList u.conds.kiosk.bits u.kioskResolved)))) ∧
  (∀ (s : State) (tag : Byte) (p : List Byte) (h : SessionHandle), s.Offers .maskSet tag p → byteAt p 0 = 1 →
    byteAt p 1 = h.record.val → p.getD 2 0 = h.gen → s.current h = true →
    (let mask := BitVec.ofNat 8 (byteAt p 3);
    let t := (s.touch h.record).holds tag;
    let set := s.sessionSet h.record;
    let changed := (allFin 8).filter (fun i => set.bits.getLsbD i.val && (set.mask.getLsbD i.val != mask.getLsbD i.val));
    let u := changed.foldl (State.resolveSession State.suspend .mask h.record)
      (t.setSessionSet h.record { set with mask := mask });
    exec (.maskSet tag) s = .next (u.ok tag (le1 mask.toNat ++
      actionList (u.sessionSet h.record).bits (u.sessionResolved h.record))))) ∧
  (∀ (s : State) (tag : Byte) (p : List Byte), s.Offers .serviceRestore tag p →
    ((∃ i, s.kioskResolved i = .lockout) →
      exec (.serviceRestore tag) s = .next (s.answerNo tag .serviceRestore .conditionPending)) ∧
    ((∀ i, s.kioskResolved i ≠ .lockout) → exec (.serviceRestore tag) s = .next (
      let t : State := { s.holds tag with conds := { s.conds with
        inService := true, kiosk := { s.conds.kiosk with recorded := Vector.replicate 16 .unset }
        sessions := s.conds.sessions.map (fun c => { c with recorded := Vector.replicate 8 .unset }) } };
      let u := t.resolveSets .restore;
      u.ok tag (le1 (if u.conds.inService then 0 else 1)))))

/-! ### Settings, store, start-up, standby and reset (10) -/

/-- What a setting takes for a value put: a number goes to the nearer end of its range, and bits above the width of a set are ignored
(R176). -/
def settingTakes (k : SettingKind) (v : Nat) : Nat :=
  match k with
  | .range lo hi => if v < lo then lo else if hi < v then hi else v
  | .bits w => v % 2 ^ w
  | .names _ => v

/-- A used tier of 1 to 3 fails where its threshold is below 2 or not above that of a lower used tier (R177). -/
def tierFails (t : PriceTable) (z : Size) (k : Fin 4) : Prop :=
  k ≠ 0 ∧ t.threshold z k ≠ 0 ∧ (t.threshold z k < 2 ∨
    ∃ j, j ≠ 0 ∧ j < k ∧ t.threshold z j ≠ 0 ∧ t.threshold z k ≤ t.threshold z j)

/-- The settings (11.2): the area, the first and the last number of each row, and the kind of its values with the range that its rule
gives: R35, the names of sense modes and grades, R47, R50, R62, 5.5, R102, R104, R115, R144, R156, the widths of the masks, R131, R138. -/
def settingRows : List (Nat × Nat × Nat × SettingKind) :=
  [(0, 0, 0, .range 30 1800), (1, 0, 3, .names 2), (1, 4, 7, .names 4), (1, 8, 8, .range 1 255), (1, 9, 9, .range 1024 1048576),
    (1, 10, 10, .range 1048576 268435456), (1, 11, 11, .range 32 2048)] ++
  [(2, 0, 0, .range 1 1), (2, 4, 4, .range 1 1), (2, 8, 8, .range 1 1), (2, 12, 12, .range 1 1), (2, 0, 15, .range 0 999),
    (2, 16, 31, .range 0 65535), (2, 32, 34, .range 0 9999), (2, 35, 35, .range 0 3000), (2, 36, 36, .range 100 9999999)] ++
  [(3, 0, 63, .range 0 1000000), (3, 64, 64, .range 100 1000000), (3, 65, 65, .range 50 2000), (4, 0, 0, .range 1 254),
    (4, 1, 1, .range 0 9999), (5, 0, 0, .bits 16), (5, 1, 1, .bits 8), (5, 2, 2, .bits 3), (6, 0, 0, .range 64 1024),
    (6, 1, 1, .range 0 512), (7, 0, 0, .bits 7)]

/-- The kind of the setting with this number in this area: that of the first row that has it. -/
def kindOf (area n : Nat) : Option SettingKind :=
  (settingRows.find? (fun r => r.1 = area ∧ r.2.1 ≤ n ∧ n ≤ r.2.2.1)).map (fun r => r.2.2.2)

/-- SETTING_PUT: NOT_SERVICE, BUSY, BAD_VALUE, PROTECTED, in that order; then the value is set, CLAMPED where it was outside its range; the
numbers and ranges are those of `settingRows` (11.2). A setting of A2 changes the draft and marks it modified; another changes the working copy, which the blocks meet at once: a changed sense
mode sets the slot's run count to 0, a lowered maximum grade lowers the slot's grade with a SLOT notice (R40, R46); the sets of open
gates are made anew (R107), K3 and K4 follow BOX_CAPACITY (R115), K13 SPOOL_RESERVE (R138) and K11 MEDIA_LOW_MARK (R156); a running
idle timer at or past a lowered IDLE_LIMIT expires (R35, R176). What these evaluations do is stated in BoxesAndHeartbeats,
RastersAreOpenedWrittenAndAborted, PortsGoOffline and ConditionsResolveByMaskAndMode. PRICES_PUBLISH checks the draft's tiers, P1 first
and tier 1 first, and publishes it under the next revision (R177). The order in which the blocks meet the values is log 47; that the
reply goes out behind what the change sets off is log 9. -/
def Obligations.SettingsArePutAndPricesPublished : Prop :=
  (∀ (s : State) (tag : Byte) (p : List Byte), s.Offers .settingPut tag p →
    (let area := byteAt p 0;
    let n := byteAt p 1;
    let v := num4At p 3;
    let no : Status → Prop := fun e => exec (.settingPut tag) s = .next (s.answerNo tag .settingPut e);
    let named : SettingKind → Prop := fun k =>
      (area = 2 ∧ byteAt p 2 = 0 ∧ priceKind n = some k) ∨ (area ≠ 2 ∧ settingKind area n = some k);
    (s.conds.mode = .customer → no .notService) ∧
    (s.conds.mode = .service → s.store.op ≠ .idle → no .busy) ∧
    (s.conds.mode = .service → s.store.op = .idle → (∀ k, ¬ named k) → no .badValue) ∧
    (∀ k, s.conds.mode = .service → s.store.op = .idle → named k →
      (∀ j, k = .names j → j ≤ v → no .badValue) ∧
      ((∀ j, k = .names j → v < j) → area < 7 → s.store.protection.getLsbD area = true → no .isProtected) ∧
      ((∀ j, k = .names j → v < j) → 7 ≤ area ∨ s.store.protection.getLsbD area = false →
        (let value := settingTakes k v;
        let t : State := { s.holds tag with store := if area = 2 then
            { s.store with draft := setAt s.store.draft n value, modified := true }
          else { s.store with working := s.store.working.withValue area n value } };
        let u := if area = 2 then t else t.settingsChanged s.store.working;
        exec (.settingPut tag) s = .next (match k with
          | .range _ _ => if value = v then u.ok tag [] else u.replyWith tag .clamped (le4 value)
          | _ => u.ok tag [])))))) ∧
  (∀ area n : Nat, (area ≠ 2 → settingKind area n = kindOf area n) ∧ priceKind n = kindOf 2 n) ∧
  (∀ (s : State) (r : Fin 8), s.idleExpires r =
    if (s.record r).state = .active then (timerRestarted s r).raiseSession { record := r, gen := (s.record r).gen } 5 [] else s) ∧
  (∀ (s : State) (old : WorkingCopy), s.settingsChanged old = (
    let mode : WorkingCopy → Fin 4 → Nat := fun w n => w.a1.get ⟨n.val, by omega⟩;
    let slots := (allFin 4).foldl (fun w n =>
      let t := if mode old n = mode s.store.working n then w else w.setSlot n { w.slot n with run := 0 }
      match (w.slot n).grade with
      | some g => if gradeCode (s.maxGrade n) < gradeCode g then
          (t.setSlot n { t.slot n with grade := some (s.maxGrade n) }).slotNotice n .gradeLimit
        else t
      | none => t) s;
    let boxes := ((allFin 2).filter s.power.profile.usesUnit).foldl State.evalBox slots.refreshGates;
    (allFin 8).foldl (fun w r =>
      if s.idleLimit < old.a0.get 0 ∧ 1000 * s.idleLimit ≤ (w.record r).timer.count s.now then w.idleExpires r else w)
      boxes.evalPressure.evalPrints)) ∧
  (∀ (s : State) (old : WorkingCopy),
    (let t := s.settingsChanged old;
    t.store = s.store ∧
    (∀ n : Fin 4,
      (let mode : WorkingCopy → Nat := fun w => w.a1.get ⟨n.val, by omega⟩;
      let x := s.slot n;
      t.slot n = { x with
        run := if mode old = mode s.store.working then x.run else 0
        grade := x.grade.map (fun g => if gradeCode (s.maxGrade n) < gradeCode g then s.maxGrade n else g) })) ∧
    s.ChangesOnly t [.slots, .link, .sessions, .catalogue, .orders, .money, .spool, .conds, .sent])) ∧
  (∀ (s : State) (tag : Byte) (p : List Byte), s.Offers .pricesPublish tag p →
    (let no : Status → Prop := fun e => exec (.pricesPublish tag) s = .next (s.answerNo tag .pricesPublish e);
    (s.conds.mode = .customer → no .notService) ∧
    (s.conds.mode = .service → s.store.op ≠ .idle → no .busy) ∧
    (s.conds.mode = .service → s.store.op = .idle →
      (s.store.protection.getLsbD 2 = true → no .isProtected) ∧
      (∀ z k, s.store.protection.getLsbD 2 = false → tierFails s.store.draft z k → (∀ j < k, ¬ tierFails s.store.draft z j) →
        (∀ y : Size, y.code < z.code → ∀ j, ¬ tierFails s.store.draft y j) →
        exec (.pricesPublish tag) s = .next ((s.holds tag).replyWith tag .priceTableInvalid (le1 z.code ++ le1 k.val))) ∧
      (s.store.protection.getLsbD 2 = false → (∀ z k, ¬ tierFails s.store.draft z k) → exec (.pricesPublish tag) s = .next (
        State.answerOk { s with store := { s.store with
          published := s.store.draft, revision := s.store.revision + 1, valid := true, modified := false } } tag
          .pricesPublish (le2 (s.store.revision + 1).toNat))))))

/-- The values of an image, areas and numbers in order. -/
def imageValues (w : WorkingCopy) (t : PriceTable) (revision : BitVec 16) : List Nat :=
  w.a0.toList ++ w.a1.toList ++ t.toList ++ [revision.toNat] ++ w.a3.toList ++ w.a4.toList ++ w.a5.toList ++ w.a6.toList ++
    w.a7.toList

/-- STORE_SAVE, STORE_CHECK and STORE_RELOAD: NOT_SERVICE, but for a check, then BUSY; taken, the operation runs and the request stays
held. A save writes the settings and the published table closed by their CRC and answers OK or, with K2, STORE_ERROR. A check answers MATCH
or, with K2, MISMATCH. A load takes the first matching read of up to 8, each setting held to the kind and range of its row, or else the
defaults with K2, and answers the store state (R178, R179, R180). The layout of the image, what a name beyond its list is held to, and
that the attempts a command does not name are clean reads, is the model's choice (log 5). That a disturbed read-back is what the store then holds is log 28, that an end without its operation changes nothing log 3,
the detail of K2 log 11; that the K2 notice goes out before the reply is log 9, and that a reload's values reach the blocks before
STORE_FAULT log 47. -/
def Obligations.TheStoreIsSavedCheckedAndLoaded : Prop :=
  (∀ (c : RequestCode) (s : State) (tag : Byte) (p : List Byte), c ∈ [.storeSave, .storeCheck, .storeReload] →
    s.Offers c tag p →
    (s.conds.mode = .customer → c ≠ .storeCheck → exec (c.instr tag) s = .next (s.answerNo tag c .notService)) ∧
    (s.conds.mode = .service ∨ c = .storeCheck →
      (s.store.op ≠ .idle → exec (c.instr tag) s = .next (s.answerNo tag c .busy)) ∧
      (s.store.op = .idle → exec (c.instr tag) s = .next { s.holds tag with store := { s.store with op := match c with
        | .storeSave => .saving tag
        | .storeCheck => .checking tag
        | _ => .loading tag } }))) ∧
  (∀ (w : WorkingCopy) (t : PriceTable) (revision : BitVec 16),
    (let body := (imageValues w t revision).flatMap le4;
    imageMatches (body ++ crcBytes body) = true)) ∧
  (∀ (s : State) (read : StoreRead) (reads : List StoreRead) (first : FirstSamples),
    ((∀ tag, s.store.op ≠ .saving tag) → exec (.saveEnd read) s = .next s) ∧
    ((∀ tag, s.store.op ≠ .checking tag) → exec (.checkEnd read) s = .next s) ∧
    (s.power.starting = false → (∀ tag, s.store.op ≠ .loading tag) → exec (.loadEnd reads first) s = .next s)) ∧
  (∀ (s : State) (tag : Byte) (read : StoreRead), s.store.op = .saving tag →
    (let body := (imageValues s.store.working s.store.published s.store.revision).flatMap le4;
    let image := match read with
      | .clean => body ++ crcBytes body
      | .disturbed bytes => bytes;
    let t : State := { s with store := { s.store with image := image, op := .idle } };
    exec (.saveEnd read) s = .next (if imageMatches image = true then t.ok tag []
      else (t.raiseKioskQuiet 2 [0]).refuse tag .storeError))) ∧
  (∀ (s : State) (tag : Byte) (read : StoreRead), s.store.op = .checking tag →
    (let image := match read with
      | .clean => s.store.image
      | .disturbed bytes => bytes;
    let t : State := { s with store := { s.store with op := .idle } };
    exec (.checkEnd read) s = .next (if imageMatches image = true then t.ok tag [0]
      else (t.raiseKioskQuiet 2 [1]).ok tag [1]))) ∧
  (∀ (s : State) (tag : Byte) (reads : List StoreRead) (first : FirstSamples), s.power.starting = false →
    s.store.op = .loading tag →
    exec (.loadEnd reads first) s = .next (
      let t : State := { s with store := { s.store.load reads with op := .idle } };
      let u := t.settingsChanged s.store.working;
      if (s.store.load reads).loaded = true then u.ok tag [0] else (u.raiseKioskQuiet 2 [2]).ok tag [1])) ∧
  (∀ (x : Store) (reads : List StoreRead),
    (let images := ((reads ++ List.replicate 8 StoreRead.clean).take 8).map (fun r => match r with
      | .clean => x.image
      | .disturbed bytes => bytes);
    let y := x.load reads;
    y.image = x.image ∧ y.op = x.op ∧ y.draft = y.published ∧ y.modified = false ∧
    ((∀ b ∈ images, imageMatches b = false) → y = { x with
      working := WorkingCopy.defaults, protection := 0, draft := PriceTable.defaults, modified := false
      published := PriceTable.defaults, revision := 0, valid := false, loaded := false }) ∧
    (∀ before b after, images = before ++ b :: after → (∀ a ∈ before, imageMatches a = false) → imageMatches b = true →
      y.loaded = true ∧ y.valid = true ∧ y.working = imageWorking b ∧ y.protection = BitVec.ofNat 7 ((imageWorking b).a7.get 0) ∧
      y.published = imageArea b priceKind 13 37 ∧ y.revision = BitVec.ofNat 16 (min 65535 (imageValue b 50))))) ∧
  (∀ b : List Byte,
    (let v : Nat → Nat := fun k =>
      byteAt b (4 * k) + 256 * byteAt b (4 * k + 1) + 65536 * byteAt b (4 * k + 2) + 16777216 * byteAt b (4 * k + 3);
    let held : Nat → Nat → Nat → Nat := fun area n k => match kindOf area n with
      | some (.names j) => min (v k) (j - 1)
      | some kind => settingTakes kind (v k)
      | none => 0;
    let w := imageWorking b;
    (∀ k, imageValue b k = v k) ∧ (∀ i, (imageArea b priceKind 13 37).get i = held 2 i.val (13 + i.val)) ∧
    (∀ i, w.a0.get i = held 0 i.val i.val) ∧ (∀ i, w.a1.get i = held 1 i.val (1 + i.val)) ∧
    (∀ i, w.a3.get i = held 3 i.val (51 + i.val)) ∧ (∀ i, w.a4.get i = held 4 i.val (117 + i.val)) ∧
    (∀ i, w.a5.get i = held 5 i.val (119 + i.val)) ∧ (∀ i, w.a6.get i = held 6 i.val (122 + i.val)) ∧
    (∀ i, w.a7.get i = held 7 i.val (124 + i.val))))

/-- At the end of the load of start-up the blocks take their settings, the masks their defaults and the inputs their first samples;
START goes out first, then STORE_FAULT is raised where the load fell back to defaults, and SUPPLY_FAULT and DOOR_OPEN are evaluated
(R162, R164, R174, R181, R182). That the first samples are taken here is log 8, that the first probe interval starts here log 4, the detail of K2 log 11, and that K0 is
evaluated before K1 log 18. -/
def Obligations.StartUpEndsWithStart : Prop :=
  ∀ (s : State) (reads : List StoreRead) (first : FirstSamples), s.power.starting = true →
    (let y := s.store.load reads;
    let t : State := { s with
      store := y
      power := { s.power with presence := { confirmed := first.presence, run := 0 }, starting := false }
      conds := { s.conds with
        kiosk := { bits := 0, mask := BitVec.ofNat 16 (y.working.a5.get 0), recorded := Vector.replicate 16 .unset }
        sessions := Vector.replicate 8
          { bits := 0, mask := BitVec.ofNat 8 (y.working.a5.get 1), recorded := Vector.replicate 8 .unset }
        door := { confirmed := first.doorOpen, run := 0 }
        supply := { confirmed := first.supplyFault, run := 0 } }
      slots := s.slots.map (fun x => { x with lastOutcome := s.now, probeInterval := 500 }) };
    let u := t.notify 0xC0 ([if s.power.afterReset then 1 else 0] ++ [if y.loaded then 0 else 1]);
    let v := if y.loaded = true then u else u.raiseKioskQuiet 2 [2];
    exec (.loadEnd reads first) s = .next ((v.reportLevel 0 first.supplyFault).reportLevel 1 first.doorOpen))

/-- QUIESCE is refused with BUSY unless every record is IDLE, no port is FEEDING or PRINTING and no store operation runs; taken, it
enters STANDBY with the latches clear, SLEEP to every port heard and INHIBIT to every used unit (R106, R158, R183). RESUME makes the
power state ACTIVE with every latch clear (R184). The order of what is sent is log 9. -/
def Obligations.StandbyIsEnteredAndLeft : Prop :=
  (∀ (s : State) (tag : Byte) (p : List Byte), s.Offers .quiesce tag p →
    (let quiet := (∀ r, (s.record r).state = .idle) ∧ (∀ q, (s.port q).state ∉ [.feeding, .printing]) ∧ s.store.op = .idle;
    (¬ quiet → exec (.quiesce tag) s = .next (s.answerNo tag .quiesce .busy)) ∧
    (quiet → exec (.quiesce tag) s = .next (State.answerOk { s with
      power := { s.power with standby := true, latches := 0 }
      sent := s.sent ++ ((allFin 3).filter (fun q => (s.port q).state ≠ .absent)).map (fun q => .sleep q) ++
        ((allFin 2).filter s.power.profile.usesUnit).map (fun u => .inhibit u) } tag .quiesce [])))) ∧
  (∀ (s : State) (tag : Byte) (p : List Byte), s.Offers .resume tag p → exec (.resume tag) s = .next (
    State.answerOk { s with power := { s.power with standby := false, latches := 0 } } tag .resume [0]))

/-- KIOSK_RESET: NOT_SERVICE, then BUSY; taken, every other request is answered ABORTED, then it is answered OK, then START goes out
(R16). Sessions, entries, orders, money, rasters and the print queue are gone, with the generations of entries and orders kept and
what waited between the blocks dropped; used cash units are sent INHIBIT and RETURN, an authorisation in BUSY CANCEL, an attempt CANCEL;
the session masks are the default, the condition sets and their recorded actions clear but for the levels evaluated again: K0 and K1 by the inputs, K3 and K4 by the boxes, K7 by the terminal,
K8 to K11 by the ports, K13 by the spool, K15 by the empty queue; a slot with a card goes on by its state; the store, the mode, the
kiosk mask and the inputs are kept (R37, R56, R73, R100, R128, R140, R159, R174, R185). The order of the blocks, and so of the frames
after START and of what is sent, is log 9, that of the levels log 18; the record of an ended scan goes too (log 49); a probe in flight stays (log 13). -/
def Obligations.KioskResetClearsTheBlocks : Prop :=
  ∀ (s : State) (tag : Byte) (p : List Byte), s.Offers .kioskReset tag p →
    (s.conds.mode = .customer → exec (.kioskReset tag) s = .next (s.answerNo tag .kioskReset .notService)) ∧
    (s.conds.mode = .service → s.store.op ≠ .idle → exec (.kioskReset tag) s = .next (s.answerNo tag .kioskReset .busy)) ∧
    (s.conds.mode = .service → s.store.op = .idle → ∃ t, exec (.kioskReset tag) s = .next t ∧
      t.link.table = [] ∧ t.link.errors = s.link.errors ∧
      (∃ later, t.link.queue = s.link.queue ++
        (s.link.table.filter (fun e => e.tag ≠ tag)).map
          (fun e => { kind := .reply, tag := e.tag, code := e.code.byte, payload := [Status.aborted.code] }) ++
        [{ kind := .reply, tag := tag, code := RequestCode.kioskReset.byte, payload := [Status.ok.code] }] ++ later ∧
        (∀ f ∈ later, f.kind = .notice) ∧
        (s.link.queue.countP (fun f => f.kind = .notice) < 40 → s.link.queue.length + s.link.table.length < 48 → later.head? =
          some { kind := .notice, tag := 0, code := 0xC0, payload := [1, if s.store.loaded then 0 else 1] })) ∧
      t.sessions = Sessions.reset ∧
      (∀ q, t.catalogue.table.get q = { gen := (s.catalogue.table.get q).gen, entry := none }) ∧
      (∀ r, t.catalogue.lists.get r = []) ∧
      (∀ k, t.orderRecord k = { gen := (s.orderRecord k).gen, body := none }) ∧
      (∀ r, t.account r = Account.zero) ∧ t.money.till = Till.zero ∧ t.money.slips = [] ∧ t.money.slipCounter = 1 ∧
      t.money.refunds = [] ∧ t.money.challenge.running = false ∧ t.money.challenge.errors = 0 ∧
      t.money.terminal.waiting = [] ∧
      (∀ u, s.power.profile.usesUnit u = true → (t.unit u).gateOpen = false ∧ (t.unit u).jammed = false ∧
        (t.unit u).escrow = .none ∧ (t.unit u).coins = 0 ∧ (t.unit u).bills = 0 ∧ (t.unit u).boxCount = (s.unit u).boxCount) ∧
      t.spool = { Spool.reset with mem := s.spool.mem } ∧
      t.prints.queue = [] ∧ t.prints.copyId = s.prints.copyId ∧
      (∀ q, t.port q = if (s.port q).attempt = none then s.port q
        else { s.port q with attempt := none, state := .cooling, fault := none }) ∧
      t.conds.mode = .service ∧ t.conds.inService = true ∧ t.conds.kiosk.mask = s.conds.kiosk.mask ∧
      t.conds.door = s.conds.door ∧ t.conds.supply = s.conds.supply ∧
      (∀ r, (t.sessionSet r).bits = 0) ∧
      (∀ r, t.sessionSet r = { bits := 0, mask := BitVec.ofNat 8 (s.store.working.a5.get 1), recorded := Vector.replicate 8 .unset }) ∧
      (∀ i, t.conds.kiosk.recorded.get i = t.kioskResolved i) ∧
      (∀ i : Fin 16, i ∈ [2, 5, 6, 12, 14, 15] → t.conds.kiosk.recorded.get i = .unset) ∧
      t.conds.kiosk.bits.getLsbD 0 = s.conds.supply.confirmed ∧ t.conds.kiosk.bits.getLsbD 1 = s.conds.door.confirmed ∧
      (∀ i : Fin 16, i ∈ [2, 5, 6, 12, 14, 15] → t.conds.kiosk.bits.getLsbD i.val = false) ∧
      t.store = s.store ∧ t.power = { s.power with standby := false, latches := 0, afterReset := true } ∧
      (∀ n, (t.slot n).bound = none ∧ (t.slot n).reads = [] ∧ (t.slot n).present = (s.slot n).present ∧
        (t.slot n).identity = (s.slot n).identity ∧ (t.slot n).state ∈ [.empty, .settling, .mounting, .mounted]) ∧
      (∀ n : Fin 4,
        (let x := s.slot n;
        let y := { x with
          insertionOwner := none, bound := none, reads := [], scan := none, serving := none
          inFlight := if x.inFlight = some .probe then some .probe else none };
        let z := if x.state = .empty ∨ x.state = .settling then y
          else if x.state = .mounting ∨ (x.state = .fault ∧ x.faultCause = some .unreadable) then
            { y with state := .mounting, faultCause := if x.state = .mounting then x.faultCause else none, mountedAt := s.now }
          else { y with
            state := .mounted, faultCause := none, errors := 0
            grade := x.identity.map (fun c => minGrade c.capability (s.maxGrade n)) };
        t.slot n = if z.state = .mounting ∧ z.inFlight = none then
            { z with inFlight := some .identification, exchange := z.exchange + 1, issuedAt := s.now }
          else z)) ∧
      t.catalogue.handOffs = [] ∧ t.catalogue.removals = [] ∧ t.orders.reports = [] ∧
      t.money.challenge = { s.money.challenge with running := false, pending := false, errors := 0 } ∧
      (∀ u, t.unit u = if s.power.profile.usesUnit u = true then
          { s.unit u with
            jammed := false, gateOpen := false, coinSet := 0, billSet := 0, coins := 0, bills := 0, escrow := .none
            late := match (s.unit u).escrow with
              | .stacking code value _ _ => some { code := code, value := value, session := none }
              | _ => (s.unit u).late.map (fun x => { x with session := none }) }
        else s.unit u) ∧
      (let x := s.money.terminal;
      let ended : Auth → Option LastEnded := fun a => some { ref := a.ref, session := none, order := none };
      t.money.terminal = match x.state with
        | .busy a _ => { x with state := .cancelling a.ref none s.now, waiting := [], lastEnded := ended a }
        | .cancelling ref (some a) since => { x with state := .cancelling ref none since, waiting := [], lastEnded := ended a }
        | _ => { x with waiting := [], lastEnded := x.lastEnded.map (fun e => { e with session := none, order := none }) }) ∧
      (∃ cards : List Sent, (∀ x ∈ cards, ∃ n k, x = .card n k .identification) ∧
        t.sent = s.sent ++ cards ++
          ((allFin 2).filter s.power.profile.usesUnit).flatMap (fun u => [.inhibit u, .giveBack u]) ++
          (match s.money.terminal.state with
            | .busy a _ => [.cancelAuth a.ref]
            | _ => []) ++
          (allFin 3).flatMap (fun q => match (s.port q).attempt with
            | some a => [.cancelCopy q a.copyId]
            | none => [])) ∧
      (let level : Nat → Bool := fun i => t.conds.kiosk.bits.getLsbD i;
      (∀ u : Fin 2, level (3 + u.val) = (s.power.profile.usesUnit u &&
        decide (s.boxCapacity ≤ (s.unit u).boxCount ∨ (s.unit u).fullFlag = true))) ∧
      level 7 = decide (s.money.terminal.state = .lost) ∧
      (∀ q : Fin 3, level (8 + q.val) = decide ((t.port q).state ∈ [.fault, .offline])) ∧
      level 11 = decide (∃ q, (t.port q).state ≠ .absent ∧ (t.port q).units < s.mediaLowMark) ∧
      level 13 = decide (1024 < s.spoolReserve)))
end

