-- ==== Sys2Proof/Laws/State.lean ====
section
/-! SUPPORT. One lemma per field per update of State, true by rfl: a proof cites these and unfolds no record update. -/

namespace Sys2Proof.Machine

variable (s : State)

/-! ### setLink -/

@[simp] theorem State.setLink_link (x : Link) : (s.setLink x).link = x := rfl
@[simp] theorem State.setLink_sessions (x : Link) : (s.setLink x).sessions = s.sessions := rfl
@[simp] theorem State.setLink_slots (x : Link) : (s.setLink x).slots = s.slots := rfl
@[simp] theorem State.setLink_catalogue (x : Link) : (s.setLink x).catalogue = s.catalogue := rfl
@[simp] theorem State.setLink_orders (x : Link) : (s.setLink x).orders = s.orders := rfl
@[simp] theorem State.setLink_money (x : Link) : (s.setLink x).money = s.money := rfl
@[simp] theorem State.setLink_spool (x : Link) : (s.setLink x).spool = s.spool := rfl
@[simp] theorem State.setLink_prints (x : Link) : (s.setLink x).prints = s.prints := rfl
@[simp] theorem State.setLink_conds (x : Link) : (s.setLink x).conds = s.conds := rfl
@[simp] theorem State.setLink_store (x : Link) : (s.setLink x).store = s.store := rfl
@[simp] theorem State.setLink_power (x : Link) : (s.setLink x).power = s.power := rfl
@[simp] theorem State.setLink_sent (x : Link) : (s.setLink x).sent = s.sent := rfl
@[simp] theorem State.setLink_now (x : Link) : (s.setLink x).now = s.now := rfl
@[simp] theorem State.setLink_pending (x : Link) : (s.setLink x).pending = s.pending := rfl

/-! ### setSessions -/

@[simp] theorem State.setSessions_link (x : Sessions) : (s.setSessions x).link = s.link := rfl
@[simp] theorem State.setSessions_sessions (x : Sessions) : (s.setSessions x).sessions = x := rfl
@[simp] theorem State.setSessions_slots (x : Sessions) : (s.setSessions x).slots = s.slots := rfl
@[simp] theorem State.setSessions_catalogue (x : Sessions) : (s.setSessions x).catalogue = s.catalogue := rfl
@[simp] theorem State.setSessions_orders (x : Sessions) : (s.setSessions x).orders = s.orders := rfl
@[simp] theorem State.setSessions_money (x : Sessions) : (s.setSessions x).money = s.money := rfl
@[simp] theorem State.setSessions_spool (x : Sessions) : (s.setSessions x).spool = s.spool := rfl
@[simp] theorem State.setSessions_prints (x : Sessions) : (s.setSessions x).prints = s.prints := rfl
@[simp] theorem State.setSessions_conds (x : Sessions) : (s.setSessions x).conds = s.conds := rfl
@[simp] theorem State.setSessions_store (x : Sessions) : (s.setSessions x).store = s.store := rfl
@[simp] theorem State.setSessions_power (x : Sessions) : (s.setSessions x).power = s.power := rfl
@[simp] theorem State.setSessions_sent (x : Sessions) : (s.setSessions x).sent = s.sent := rfl
@[simp] theorem State.setSessions_now (x : Sessions) : (s.setSessions x).now = s.now := rfl
@[simp] theorem State.setSessions_pending (x : Sessions) : (s.setSessions x).pending = s.pending := rfl

/-! ### setSlots -/

@[simp] theorem State.setSlots_link (x : Vector Slot 4) : (s.setSlots x).link = s.link := rfl
@[simp] theorem State.setSlots_sessions (x : Vector Slot 4) : (s.setSlots x).sessions = s.sessions := rfl
@[simp] theorem State.setSlots_slots (x : Vector Slot 4) : (s.setSlots x).slots = x := rfl
@[simp] theorem State.setSlots_catalogue (x : Vector Slot 4) : (s.setSlots x).catalogue = s.catalogue := rfl
@[simp] theorem State.setSlots_orders (x : Vector Slot 4) : (s.setSlots x).orders = s.orders := rfl
@[simp] theorem State.setSlots_money (x : Vector Slot 4) : (s.setSlots x).money = s.money := rfl
@[simp] theorem State.setSlots_spool (x : Vector Slot 4) : (s.setSlots x).spool = s.spool := rfl
@[simp] theorem State.setSlots_prints (x : Vector Slot 4) : (s.setSlots x).prints = s.prints := rfl
@[simp] theorem State.setSlots_conds (x : Vector Slot 4) : (s.setSlots x).conds = s.conds := rfl
@[simp] theorem State.setSlots_store (x : Vector Slot 4) : (s.setSlots x).store = s.store := rfl
@[simp] theorem State.setSlots_power (x : Vector Slot 4) : (s.setSlots x).power = s.power := rfl
@[simp] theorem State.setSlots_sent (x : Vector Slot 4) : (s.setSlots x).sent = s.sent := rfl
@[simp] theorem State.setSlots_now (x : Vector Slot 4) : (s.setSlots x).now = s.now := rfl
@[simp] theorem State.setSlots_pending (x : Vector Slot 4) : (s.setSlots x).pending = s.pending := rfl

/-! ### setCatalogue -/

@[simp] theorem State.setCatalogue_link (x : Catalogue) : (s.setCatalogue x).link = s.link := rfl
@[simp] theorem State.setCatalogue_sessions (x : Catalogue) : (s.setCatalogue x).sessions = s.sessions := rfl
@[simp] theorem State.setCatalogue_slots (x : Catalogue) : (s.setCatalogue x).slots = s.slots := rfl
@[simp] theorem State.setCatalogue_catalogue (x : Catalogue) : (s.setCatalogue x).catalogue = x := rfl
@[simp] theorem State.setCatalogue_orders (x : Catalogue) : (s.setCatalogue x).orders = s.orders := rfl
@[simp] theorem State.setCatalogue_money (x : Catalogue) : (s.setCatalogue x).money = s.money := rfl
@[simp] theorem State.setCatalogue_spool (x : Catalogue) : (s.setCatalogue x).spool = s.spool := rfl
@[simp] theorem State.setCatalogue_prints (x : Catalogue) : (s.setCatalogue x).prints = s.prints := rfl
@[simp] theorem State.setCatalogue_conds (x : Catalogue) : (s.setCatalogue x).conds = s.conds := rfl
@[simp] theorem State.setCatalogue_store (x : Catalogue) : (s.setCatalogue x).store = s.store := rfl
@[simp] theorem State.setCatalogue_power (x : Catalogue) : (s.setCatalogue x).power = s.power := rfl
@[simp] theorem State.setCatalogue_sent (x : Catalogue) : (s.setCatalogue x).sent = s.sent := rfl
@[simp] theorem State.setCatalogue_now (x : Catalogue) : (s.setCatalogue x).now = s.now := rfl
@[simp] theorem State.setCatalogue_pending (x : Catalogue) : (s.setCatalogue x).pending = s.pending := rfl

/-! ### setOrders -/

@[simp] theorem State.setOrders_link (x : Orders) : (s.setOrders x).link = s.link := rfl
@[simp] theorem State.setOrders_sessions (x : Orders) : (s.setOrders x).sessions = s.sessions := rfl
@[simp] theorem State.setOrders_slots (x : Orders) : (s.setOrders x).slots = s.slots := rfl
@[simp] theorem State.setOrders_catalogue (x : Orders) : (s.setOrders x).catalogue = s.catalogue := rfl
@[simp] theorem State.setOrders_orders (x : Orders) : (s.setOrders x).orders = x := rfl
@[simp] theorem State.setOrders_money (x : Orders) : (s.setOrders x).money = s.money := rfl
@[simp] theorem State.setOrders_spool (x : Orders) : (s.setOrders x).spool = s.spool := rfl
@[simp] theorem State.setOrders_prints (x : Orders) : (s.setOrders x).prints = s.prints := rfl
@[simp] theorem State.setOrders_conds (x : Orders) : (s.setOrders x).conds = s.conds := rfl
@[simp] theorem State.setOrders_store (x : Orders) : (s.setOrders x).store = s.store := rfl
@[simp] theorem State.setOrders_power (x : Orders) : (s.setOrders x).power = s.power := rfl
@[simp] theorem State.setOrders_sent (x : Orders) : (s.setOrders x).sent = s.sent := rfl
@[simp] theorem State.setOrders_now (x : Orders) : (s.setOrders x).now = s.now := rfl
@[simp] theorem State.setOrders_pending (x : Orders) : (s.setOrders x).pending = s.pending := rfl

/-! ### setMoney -/

@[simp] theorem State.setMoney_link (x : Money) : (s.setMoney x).link = s.link := rfl
@[simp] theorem State.setMoney_sessions (x : Money) : (s.setMoney x).sessions = s.sessions := rfl
@[simp] theorem State.setMoney_slots (x : Money) : (s.setMoney x).slots = s.slots := rfl
@[simp] theorem State.setMoney_catalogue (x : Money) : (s.setMoney x).catalogue = s.catalogue := rfl
@[simp] theorem State.setMoney_orders (x : Money) : (s.setMoney x).orders = s.orders := rfl
@[simp] theorem State.setMoney_money (x : Money) : (s.setMoney x).money = x := rfl
@[simp] theorem State.setMoney_spool (x : Money) : (s.setMoney x).spool = s.spool := rfl
@[simp] theorem State.setMoney_prints (x : Money) : (s.setMoney x).prints = s.prints := rfl
@[simp] theorem State.setMoney_conds (x : Money) : (s.setMoney x).conds = s.conds := rfl
@[simp] theorem State.setMoney_store (x : Money) : (s.setMoney x).store = s.store := rfl
@[simp] theorem State.setMoney_power (x : Money) : (s.setMoney x).power = s.power := rfl
@[simp] theorem State.setMoney_sent (x : Money) : (s.setMoney x).sent = s.sent := rfl
@[simp] theorem State.setMoney_now (x : Money) : (s.setMoney x).now = s.now := rfl
@[simp] theorem State.setMoney_pending (x : Money) : (s.setMoney x).pending = s.pending := rfl

/-! ### setSpool -/

@[simp] theorem State.setSpool_link (x : Spool) : (s.setSpool x).link = s.link := rfl
@[simp] theorem State.setSpool_sessions (x : Spool) : (s.setSpool x).sessions = s.sessions := rfl
@[simp] theorem State.setSpool_slots (x : Spool) : (s.setSpool x).slots = s.slots := rfl
@[simp] theorem State.setSpool_catalogue (x : Spool) : (s.setSpool x).catalogue = s.catalogue := rfl
@[simp] theorem State.setSpool_orders (x : Spool) : (s.setSpool x).orders = s.orders := rfl
@[simp] theorem State.setSpool_money (x : Spool) : (s.setSpool x).money = s.money := rfl
@[simp] theorem State.setSpool_spool (x : Spool) : (s.setSpool x).spool = x := rfl
@[simp] theorem State.setSpool_prints (x : Spool) : (s.setSpool x).prints = s.prints := rfl
@[simp] theorem State.setSpool_conds (x : Spool) : (s.setSpool x).conds = s.conds := rfl
@[simp] theorem State.setSpool_store (x : Spool) : (s.setSpool x).store = s.store := rfl
@[simp] theorem State.setSpool_power (x : Spool) : (s.setSpool x).power = s.power := rfl
@[simp] theorem State.setSpool_sent (x : Spool) : (s.setSpool x).sent = s.sent := rfl
@[simp] theorem State.setSpool_now (x : Spool) : (s.setSpool x).now = s.now := rfl
@[simp] theorem State.setSpool_pending (x : Spool) : (s.setSpool x).pending = s.pending := rfl

/-! ### setPrints -/

@[simp] theorem State.setPrints_link (x : Prints) : (s.setPrints x).link = s.link := rfl
@[simp] theorem State.setPrints_sessions (x : Prints) : (s.setPrints x).sessions = s.sessions := rfl
@[simp] theorem State.setPrints_slots (x : Prints) : (s.setPrints x).slots = s.slots := rfl
@[simp] theorem State.setPrints_catalogue (x : Prints) : (s.setPrints x).catalogue = s.catalogue := rfl
@[simp] theorem State.setPrints_orders (x : Prints) : (s.setPrints x).orders = s.orders := rfl
@[simp] theorem State.setPrints_money (x : Prints) : (s.setPrints x).money = s.money := rfl
@[simp] theorem State.setPrints_spool (x : Prints) : (s.setPrints x).spool = s.spool := rfl
@[simp] theorem State.setPrints_prints (x : Prints) : (s.setPrints x).prints = x := rfl
@[simp] theorem State.setPrints_conds (x : Prints) : (s.setPrints x).conds = s.conds := rfl
@[simp] theorem State.setPrints_store (x : Prints) : (s.setPrints x).store = s.store := rfl
@[simp] theorem State.setPrints_power (x : Prints) : (s.setPrints x).power = s.power := rfl
@[simp] theorem State.setPrints_sent (x : Prints) : (s.setPrints x).sent = s.sent := rfl
@[simp] theorem State.setPrints_now (x : Prints) : (s.setPrints x).now = s.now := rfl
@[simp] theorem State.setPrints_pending (x : Prints) : (s.setPrints x).pending = s.pending := rfl

/-! ### setConds -/

@[simp] theorem State.setConds_link (x : Conditions) : (s.setConds x).link = s.link := rfl
@[simp] theorem State.setConds_sessions (x : Conditions) : (s.setConds x).sessions = s.sessions := rfl
@[simp] theorem State.setConds_slots (x : Conditions) : (s.setConds x).slots = s.slots := rfl
@[simp] theorem State.setConds_catalogue (x : Conditions) : (s.setConds x).catalogue = s.catalogue := rfl
@[simp] theorem State.setConds_orders (x : Conditions) : (s.setConds x).orders = s.orders := rfl
@[simp] theorem State.setConds_money (x : Conditions) : (s.setConds x).money = s.money := rfl
@[simp] theorem State.setConds_spool (x : Conditions) : (s.setConds x).spool = s.spool := rfl
@[simp] theorem State.setConds_prints (x : Conditions) : (s.setConds x).prints = s.prints := rfl
@[simp] theorem State.setConds_conds (x : Conditions) : (s.setConds x).conds = x := rfl
@[simp] theorem State.setConds_store (x : Conditions) : (s.setConds x).store = s.store := rfl
@[simp] theorem State.setConds_power (x : Conditions) : (s.setConds x).power = s.power := rfl
@[simp] theorem State.setConds_sent (x : Conditions) : (s.setConds x).sent = s.sent := rfl
@[simp] theorem State.setConds_now (x : Conditions) : (s.setConds x).now = s.now := rfl
@[simp] theorem State.setConds_pending (x : Conditions) : (s.setConds x).pending = s.pending := rfl

/-! ### setStore -/

@[simp] theorem State.setStore_link (x : Store) : (s.setStore x).link = s.link := rfl
@[simp] theorem State.setStore_sessions (x : Store) : (s.setStore x).sessions = s.sessions := rfl
@[simp] theorem State.setStore_slots (x : Store) : (s.setStore x).slots = s.slots := rfl
@[simp] theorem State.setStore_catalogue (x : Store) : (s.setStore x).catalogue = s.catalogue := rfl
@[simp] theorem State.setStore_orders (x : Store) : (s.setStore x).orders = s.orders := rfl
@[simp] theorem State.setStore_money (x : Store) : (s.setStore x).money = s.money := rfl
@[simp] theorem State.setStore_spool (x : Store) : (s.setStore x).spool = s.spool := rfl
@[simp] theorem State.setStore_prints (x : Store) : (s.setStore x).prints = s.prints := rfl
@[simp] theorem State.setStore_conds (x : Store) : (s.setStore x).conds = s.conds := rfl
@[simp] theorem State.setStore_store (x : Store) : (s.setStore x).store = x := rfl
@[simp] theorem State.setStore_power (x : Store) : (s.setStore x).power = s.power := rfl
@[simp] theorem State.setStore_sent (x : Store) : (s.setStore x).sent = s.sent := rfl
@[simp] theorem State.setStore_now (x : Store) : (s.setStore x).now = s.now := rfl
@[simp] theorem State.setStore_pending (x : Store) : (s.setStore x).pending = s.pending := rfl

/-! ### setPower -/

@[simp] theorem State.setPower_link (x : Power) : (s.setPower x).link = s.link := rfl
@[simp] theorem State.setPower_sessions (x : Power) : (s.setPower x).sessions = s.sessions := rfl
@[simp] theorem State.setPower_slots (x : Power) : (s.setPower x).slots = s.slots := rfl
@[simp] theorem State.setPower_catalogue (x : Power) : (s.setPower x).catalogue = s.catalogue := rfl
@[simp] theorem State.setPower_orders (x : Power) : (s.setPower x).orders = s.orders := rfl
@[simp] theorem State.setPower_money (x : Power) : (s.setPower x).money = s.money := rfl
@[simp] theorem State.setPower_spool (x : Power) : (s.setPower x).spool = s.spool := rfl
@[simp] theorem State.setPower_prints (x : Power) : (s.setPower x).prints = s.prints := rfl
@[simp] theorem State.setPower_conds (x : Power) : (s.setPower x).conds = s.conds := rfl
@[simp] theorem State.setPower_store (x : Power) : (s.setPower x).store = s.store := rfl
@[simp] theorem State.setPower_power (x : Power) : (s.setPower x).power = x := rfl
@[simp] theorem State.setPower_sent (x : Power) : (s.setPower x).sent = s.sent := rfl
@[simp] theorem State.setPower_now (x : Power) : (s.setPower x).now = s.now := rfl
@[simp] theorem State.setPower_pending (x : Power) : (s.setPower x).pending = s.pending := rfl

/-! ### setSent -/

@[simp] theorem State.setSent_link (x : List Sent) : (s.setSent x).link = s.link := rfl
@[simp] theorem State.setSent_sessions (x : List Sent) : (s.setSent x).sessions = s.sessions := rfl
@[simp] theorem State.setSent_slots (x : List Sent) : (s.setSent x).slots = s.slots := rfl
@[simp] theorem State.setSent_catalogue (x : List Sent) : (s.setSent x).catalogue = s.catalogue := rfl
@[simp] theorem State.setSent_orders (x : List Sent) : (s.setSent x).orders = s.orders := rfl
@[simp] theorem State.setSent_money (x : List Sent) : (s.setSent x).money = s.money := rfl
@[simp] theorem State.setSent_spool (x : List Sent) : (s.setSent x).spool = s.spool := rfl
@[simp] theorem State.setSent_prints (x : List Sent) : (s.setSent x).prints = s.prints := rfl
@[simp] theorem State.setSent_conds (x : List Sent) : (s.setSent x).conds = s.conds := rfl
@[simp] theorem State.setSent_store (x : List Sent) : (s.setSent x).store = s.store := rfl
@[simp] theorem State.setSent_power (x : List Sent) : (s.setSent x).power = s.power := rfl
@[simp] theorem State.setSent_sent (x : List Sent) : (s.setSent x).sent = x := rfl
@[simp] theorem State.setSent_now (x : List Sent) : (s.setSent x).now = s.now := rfl
@[simp] theorem State.setSent_pending (x : List Sent) : (s.setSent x).pending = s.pending := rfl

/-! ### setNow -/

@[simp] theorem State.setNow_link (x : Nat) : (s.setNow x).link = s.link := rfl
@[simp] theorem State.setNow_sessions (x : Nat) : (s.setNow x).sessions = s.sessions := rfl
@[simp] theorem State.setNow_slots (x : Nat) : (s.setNow x).slots = s.slots := rfl
@[simp] theorem State.setNow_catalogue (x : Nat) : (s.setNow x).catalogue = s.catalogue := rfl
@[simp] theorem State.setNow_orders (x : Nat) : (s.setNow x).orders = s.orders := rfl
@[simp] theorem State.setNow_money (x : Nat) : (s.setNow x).money = s.money := rfl
@[simp] theorem State.setNow_spool (x : Nat) : (s.setNow x).spool = s.spool := rfl
@[simp] theorem State.setNow_prints (x : Nat) : (s.setNow x).prints = s.prints := rfl
@[simp] theorem State.setNow_conds (x : Nat) : (s.setNow x).conds = s.conds := rfl
@[simp] theorem State.setNow_store (x : Nat) : (s.setNow x).store = s.store := rfl
@[simp] theorem State.setNow_power (x : Nat) : (s.setNow x).power = s.power := rfl
@[simp] theorem State.setNow_sent (x : Nat) : (s.setNow x).sent = s.sent := rfl
@[simp] theorem State.setNow_now (x : Nat) : (s.setNow x).now = x := rfl
@[simp] theorem State.setNow_pending (x : Nat) : (s.setNow x).pending = s.pending := rfl

/-! ### setPending -/

@[simp] theorem State.setPending_link (x : List Instr) : (s.setPending x).link = s.link := rfl
@[simp] theorem State.setPending_sessions (x : List Instr) : (s.setPending x).sessions = s.sessions := rfl
@[simp] theorem State.setPending_slots (x : List Instr) : (s.setPending x).slots = s.slots := rfl
@[simp] theorem State.setPending_catalogue (x : List Instr) : (s.setPending x).catalogue = s.catalogue := rfl
@[simp] theorem State.setPending_orders (x : List Instr) : (s.setPending x).orders = s.orders := rfl
@[simp] theorem State.setPending_money (x : List Instr) : (s.setPending x).money = s.money := rfl
@[simp] theorem State.setPending_spool (x : List Instr) : (s.setPending x).spool = s.spool := rfl
@[simp] theorem State.setPending_prints (x : List Instr) : (s.setPending x).prints = s.prints := rfl
@[simp] theorem State.setPending_conds (x : List Instr) : (s.setPending x).conds = s.conds := rfl
@[simp] theorem State.setPending_store (x : List Instr) : (s.setPending x).store = s.store := rfl
@[simp] theorem State.setPending_power (x : List Instr) : (s.setPending x).power = s.power := rfl
@[simp] theorem State.setPending_sent (x : List Instr) : (s.setPending x).sent = s.sent := rfl
@[simp] theorem State.setPending_now (x : List Instr) : (s.setPending x).now = s.now := rfl
@[simp] theorem State.setPending_pending (x : List Instr) : (s.setPending x).pending = x := rfl

/-! ### setRecord: it writes sessions alone -/

@[simp] theorem State.setRecord_link (r : Fin 8) (x : SessionRecord) : (s.setRecord r x).link = s.link := rfl
@[simp] theorem State.setRecord_slots (r : Fin 8) (x : SessionRecord) : (s.setRecord r x).slots = s.slots := rfl
@[simp] theorem State.setRecord_catalogue (r : Fin 8) (x : SessionRecord) : (s.setRecord r x).catalogue = s.catalogue := rfl
@[simp] theorem State.setRecord_orders (r : Fin 8) (x : SessionRecord) : (s.setRecord r x).orders = s.orders := rfl
@[simp] theorem State.setRecord_money (r : Fin 8) (x : SessionRecord) : (s.setRecord r x).money = s.money := rfl
@[simp] theorem State.setRecord_spool (r : Fin 8) (x : SessionRecord) : (s.setRecord r x).spool = s.spool := rfl
@[simp] theorem State.setRecord_prints (r : Fin 8) (x : SessionRecord) : (s.setRecord r x).prints = s.prints := rfl
@[simp] theorem State.setRecord_conds (r : Fin 8) (x : SessionRecord) : (s.setRecord r x).conds = s.conds := rfl
@[simp] theorem State.setRecord_store (r : Fin 8) (x : SessionRecord) : (s.setRecord r x).store = s.store := rfl
@[simp] theorem State.setRecord_power (r : Fin 8) (x : SessionRecord) : (s.setRecord r x).power = s.power := rfl
@[simp] theorem State.setRecord_sent (r : Fin 8) (x : SessionRecord) : (s.setRecord r x).sent = s.sent := rfl
@[simp] theorem State.setRecord_now (r : Fin 8) (x : SessionRecord) : (s.setRecord r x).now = s.now := rfl
@[simp] theorem State.setRecord_pending (r : Fin 8) (x : SessionRecord) : (s.setRecord r x).pending = s.pending := rfl

/-! ### setFront: it writes sessions alone -/

@[simp] theorem State.setFront_link (st : Station) (x : Option SessionHandle) : (s.setFront st x).link = s.link := rfl
@[simp] theorem State.setFront_slots (st : Station) (x : Option SessionHandle) : (s.setFront st x).slots = s.slots := rfl
@[simp] theorem State.setFront_catalogue (st : Station) (x : Option SessionHandle) : (s.setFront st x).catalogue = s.catalogue := rfl
@[simp] theorem State.setFront_orders (st : Station) (x : Option SessionHandle) : (s.setFront st x).orders = s.orders := rfl
@[simp] theorem State.setFront_money (st : Station) (x : Option SessionHandle) : (s.setFront st x).money = s.money := rfl
@[simp] theorem State.setFront_spool (st : Station) (x : Option SessionHandle) : (s.setFront st x).spool = s.spool := rfl
@[simp] theorem State.setFront_prints (st : Station) (x : Option SessionHandle) : (s.setFront st x).prints = s.prints := rfl
@[simp] theorem State.setFront_conds (st : Station) (x : Option SessionHandle) : (s.setFront st x).conds = s.conds := rfl
@[simp] theorem State.setFront_store (st : Station) (x : Option SessionHandle) : (s.setFront st x).store = s.store := rfl
@[simp] theorem State.setFront_power (st : Station) (x : Option SessionHandle) : (s.setFront st x).power = s.power := rfl
@[simp] theorem State.setFront_sent (st : Station) (x : Option SessionHandle) : (s.setFront st x).sent = s.sent := rfl
@[simp] theorem State.setFront_now (st : Station) (x : Option SessionHandle) : (s.setFront st x).now = s.now := rfl
@[simp] theorem State.setFront_pending (st : Station) (x : Option SessionHandle) : (s.setFront st x).pending = s.pending := rfl

/-! ### setSlot: it writes slots alone -/

@[simp] theorem State.setSlot_link (n : Fin 4) (x : Slot) : (s.setSlot n x).link = s.link := rfl
@[simp] theorem State.setSlot_sessions (n : Fin 4) (x : Slot) : (s.setSlot n x).sessions = s.sessions := rfl
@[simp] theorem State.setSlot_catalogue (n : Fin 4) (x : Slot) : (s.setSlot n x).catalogue = s.catalogue := rfl
@[simp] theorem State.setSlot_orders (n : Fin 4) (x : Slot) : (s.setSlot n x).orders = s.orders := rfl
@[simp] theorem State.setSlot_money (n : Fin 4) (x : Slot) : (s.setSlot n x).money = s.money := rfl
@[simp] theorem State.setSlot_spool (n : Fin 4) (x : Slot) : (s.setSlot n x).spool = s.spool := rfl
@[simp] theorem State.setSlot_prints (n : Fin 4) (x : Slot) : (s.setSlot n x).prints = s.prints := rfl
@[simp] theorem State.setSlot_conds (n : Fin 4) (x : Slot) : (s.setSlot n x).conds = s.conds := rfl
@[simp] theorem State.setSlot_store (n : Fin 4) (x : Slot) : (s.setSlot n x).store = s.store := rfl
@[simp] theorem State.setSlot_power (n : Fin 4) (x : Slot) : (s.setSlot n x).power = s.power := rfl
@[simp] theorem State.setSlot_sent (n : Fin 4) (x : Slot) : (s.setSlot n x).sent = s.sent := rfl
@[simp] theorem State.setSlot_now (n : Fin 4) (x : Slot) : (s.setSlot n x).now = s.now := rfl
@[simp] theorem State.setSlot_pending (n : Fin 4) (x : Slot) : (s.setSlot n x).pending = s.pending := rfl

/-! ### setAccount: it writes money alone -/

@[simp] theorem State.setAccount_link (r : Fin 8) (x : Account) : (s.setAccount r x).link = s.link := rfl
@[simp] theorem State.setAccount_sessions (r : Fin 8) (x : Account) : (s.setAccount r x).sessions = s.sessions := rfl
@[simp] theorem State.setAccount_slots (r : Fin 8) (x : Account) : (s.setAccount r x).slots = s.slots := rfl
@[simp] theorem State.setAccount_catalogue (r : Fin 8) (x : Account) : (s.setAccount r x).catalogue = s.catalogue := rfl
@[simp] theorem State.setAccount_orders (r : Fin 8) (x : Account) : (s.setAccount r x).orders = s.orders := rfl
@[simp] theorem State.setAccount_spool (r : Fin 8) (x : Account) : (s.setAccount r x).spool = s.spool := rfl
@[simp] theorem State.setAccount_prints (r : Fin 8) (x : Account) : (s.setAccount r x).prints = s.prints := rfl
@[simp] theorem State.setAccount_conds (r : Fin 8) (x : Account) : (s.setAccount r x).conds = s.conds := rfl
@[simp] theorem State.setAccount_store (r : Fin 8) (x : Account) : (s.setAccount r x).store = s.store := rfl
@[simp] theorem State.setAccount_power (r : Fin 8) (x : Account) : (s.setAccount r x).power = s.power := rfl
@[simp] theorem State.setAccount_sent (r : Fin 8) (x : Account) : (s.setAccount r x).sent = s.sent := rfl
@[simp] theorem State.setAccount_now (r : Fin 8) (x : Account) : (s.setAccount r x).now = s.now := rfl
@[simp] theorem State.setAccount_pending (r : Fin 8) (x : Account) : (s.setAccount r x).pending = s.pending := rfl

/-! ### setUnit: it writes money alone -/

@[simp] theorem State.setUnit_link (u : Fin 2) (x : CashUnit) : (s.setUnit u x).link = s.link := rfl
@[simp] theorem State.setUnit_sessions (u : Fin 2) (x : CashUnit) : (s.setUnit u x).sessions = s.sessions := rfl
@[simp] theorem State.setUnit_slots (u : Fin 2) (x : CashUnit) : (s.setUnit u x).slots = s.slots := rfl
@[simp] theorem State.setUnit_catalogue (u : Fin 2) (x : CashUnit) : (s.setUnit u x).catalogue = s.catalogue := rfl
@[simp] theorem State.setUnit_orders (u : Fin 2) (x : CashUnit) : (s.setUnit u x).orders = s.orders := rfl
@[simp] theorem State.setUnit_spool (u : Fin 2) (x : CashUnit) : (s.setUnit u x).spool = s.spool := rfl
@[simp] theorem State.setUnit_prints (u : Fin 2) (x : CashUnit) : (s.setUnit u x).prints = s.prints := rfl
@[simp] theorem State.setUnit_conds (u : Fin 2) (x : CashUnit) : (s.setUnit u x).conds = s.conds := rfl
@[simp] theorem State.setUnit_store (u : Fin 2) (x : CashUnit) : (s.setUnit u x).store = s.store := rfl
@[simp] theorem State.setUnit_power (u : Fin 2) (x : CashUnit) : (s.setUnit u x).power = s.power := rfl
@[simp] theorem State.setUnit_sent (u : Fin 2) (x : CashUnit) : (s.setUnit u x).sent = s.sent := rfl
@[simp] theorem State.setUnit_now (u : Fin 2) (x : CashUnit) : (s.setUnit u x).now = s.now := rfl
@[simp] theorem State.setUnit_pending (u : Fin 2) (x : CashUnit) : (s.setUnit u x).pending = s.pending := rfl

/-! ### setTill: it writes money alone -/

@[simp] theorem State.setTill_link (x : Till) : (s.setTill x).link = s.link := rfl
@[simp] theorem State.setTill_sessions (x : Till) : (s.setTill x).sessions = s.sessions := rfl
@[simp] theorem State.setTill_slots (x : Till) : (s.setTill x).slots = s.slots := rfl
@[simp] theorem State.setTill_catalogue (x : Till) : (s.setTill x).catalogue = s.catalogue := rfl
@[simp] theorem State.setTill_orders (x : Till) : (s.setTill x).orders = s.orders := rfl
@[simp] theorem State.setTill_spool (x : Till) : (s.setTill x).spool = s.spool := rfl
@[simp] theorem State.setTill_prints (x : Till) : (s.setTill x).prints = s.prints := rfl
@[simp] theorem State.setTill_conds (x : Till) : (s.setTill x).conds = s.conds := rfl
@[simp] theorem State.setTill_store (x : Till) : (s.setTill x).store = s.store := rfl
@[simp] theorem State.setTill_power (x : Till) : (s.setTill x).power = s.power := rfl
@[simp] theorem State.setTill_sent (x : Till) : (s.setTill x).sent = s.sent := rfl
@[simp] theorem State.setTill_now (x : Till) : (s.setTill x).now = s.now := rfl
@[simp] theorem State.setTill_pending (x : Till) : (s.setTill x).pending = s.pending := rfl

/-! ### setChallenge: it writes money alone -/

@[simp] theorem State.setChallenge_link (x : Challenge) : (s.setChallenge x).link = s.link := rfl
@[simp] theorem State.setChallenge_sessions (x : Challenge) : (s.setChallenge x).sessions = s.sessions := rfl
@[simp] theorem State.setChallenge_slots (x : Challenge) : (s.setChallenge x).slots = s.slots := rfl
@[simp] theorem State.setChallenge_catalogue (x : Challenge) : (s.setChallenge x).catalogue = s.catalogue := rfl
@[simp] theorem State.setChallenge_orders (x : Challenge) : (s.setChallenge x).orders = s.orders := rfl
@[simp] theorem State.setChallenge_spool (x : Challenge) : (s.setChallenge x).spool = s.spool := rfl
@[simp] theorem State.setChallenge_prints (x : Challenge) : (s.setChallenge x).prints = s.prints := rfl
@[simp] theorem State.setChallenge_conds (x : Challenge) : (s.setChallenge x).conds = s.conds := rfl
@[simp] theorem State.setChallenge_store (x : Challenge) : (s.setChallenge x).store = s.store := rfl
@[simp] theorem State.setChallenge_power (x : Challenge) : (s.setChallenge x).power = s.power := rfl
@[simp] theorem State.setChallenge_sent (x : Challenge) : (s.setChallenge x).sent = s.sent := rfl
@[simp] theorem State.setChallenge_now (x : Challenge) : (s.setChallenge x).now = s.now := rfl
@[simp] theorem State.setChallenge_pending (x : Challenge) : (s.setChallenge x).pending = s.pending := rfl

/-! ### setTerminal: it writes money alone -/

@[simp] theorem State.setTerminal_link (x : Terminal) : (s.setTerminal x).link = s.link := rfl
@[simp] theorem State.setTerminal_sessions (x : Terminal) : (s.setTerminal x).sessions = s.sessions := rfl
@[simp] theorem State.setTerminal_slots (x : Terminal) : (s.setTerminal x).slots = s.slots := rfl
@[simp] theorem State.setTerminal_catalogue (x : Terminal) : (s.setTerminal x).catalogue = s.catalogue := rfl
@[simp] theorem State.setTerminal_orders (x : Terminal) : (s.setTerminal x).orders = s.orders := rfl
@[simp] theorem State.setTerminal_spool (x : Terminal) : (s.setTerminal x).spool = s.spool := rfl
@[simp] theorem State.setTerminal_prints (x : Terminal) : (s.setTerminal x).prints = s.prints := rfl
@[simp] theorem State.setTerminal_conds (x : Terminal) : (s.setTerminal x).conds = s.conds := rfl
@[simp] theorem State.setTerminal_store (x : Terminal) : (s.setTerminal x).store = s.store := rfl
@[simp] theorem State.setTerminal_power (x : Terminal) : (s.setTerminal x).power = s.power := rfl
@[simp] theorem State.setTerminal_sent (x : Terminal) : (s.setTerminal x).sent = s.sent := rfl
@[simp] theorem State.setTerminal_now (x : Terminal) : (s.setTerminal x).now = s.now := rfl
@[simp] theorem State.setTerminal_pending (x : Terminal) : (s.setTerminal x).pending = s.pending := rfl

/-! ### setOrderRecord: it writes orders alone -/

@[simp] theorem State.setOrderRecord_link (o : Fin 16) (x : OrderRecord) : (s.setOrderRecord o x).link = s.link := rfl
@[simp] theorem State.setOrderRecord_sessions (o : Fin 16) (x : OrderRecord) : (s.setOrderRecord o x).sessions = s.sessions := rfl
@[simp] theorem State.setOrderRecord_slots (o : Fin 16) (x : OrderRecord) : (s.setOrderRecord o x).slots = s.slots := rfl
@[simp] theorem State.setOrderRecord_catalogue (o : Fin 16) (x : OrderRecord) : (s.setOrderRecord o x).catalogue = s.catalogue := rfl
@[simp] theorem State.setOrderRecord_money (o : Fin 16) (x : OrderRecord) : (s.setOrderRecord o x).money = s.money := rfl
@[simp] theorem State.setOrderRecord_spool (o : Fin 16) (x : OrderRecord) : (s.setOrderRecord o x).spool = s.spool := rfl
@[simp] theorem State.setOrderRecord_prints (o : Fin 16) (x : OrderRecord) : (s.setOrderRecord o x).prints = s.prints := rfl
@[simp] theorem State.setOrderRecord_conds (o : Fin 16) (x : OrderRecord) : (s.setOrderRecord o x).conds = s.conds := rfl
@[simp] theorem State.setOrderRecord_store (o : Fin 16) (x : OrderRecord) : (s.setOrderRecord o x).store = s.store := rfl
@[simp] theorem State.setOrderRecord_power (o : Fin 16) (x : OrderRecord) : (s.setOrderRecord o x).power = s.power := rfl
@[simp] theorem State.setOrderRecord_sent (o : Fin 16) (x : OrderRecord) : (s.setOrderRecord o x).sent = s.sent := rfl
@[simp] theorem State.setOrderRecord_now (o : Fin 16) (x : OrderRecord) : (s.setOrderRecord o x).now = s.now := rfl
@[simp] theorem State.setOrderRecord_pending (o : Fin 16) (x : OrderRecord) : (s.setOrderRecord o x).pending = s.pending := rfl

/-! ### setOrder: it writes orders alone -/

@[simp] theorem State.setOrder_link (o : Fin 16) (x : Order) : (s.setOrder o x).link = s.link := rfl
@[simp] theorem State.setOrder_sessions (o : Fin 16) (x : Order) : (s.setOrder o x).sessions = s.sessions := rfl
@[simp] theorem State.setOrder_slots (o : Fin 16) (x : Order) : (s.setOrder o x).slots = s.slots := rfl
@[simp] theorem State.setOrder_catalogue (o : Fin 16) (x : Order) : (s.setOrder o x).catalogue = s.catalogue := rfl
@[simp] theorem State.setOrder_money (o : Fin 16) (x : Order) : (s.setOrder o x).money = s.money := rfl
@[simp] theorem State.setOrder_spool (o : Fin 16) (x : Order) : (s.setOrder o x).spool = s.spool := rfl
@[simp] theorem State.setOrder_prints (o : Fin 16) (x : Order) : (s.setOrder o x).prints = s.prints := rfl
@[simp] theorem State.setOrder_conds (o : Fin 16) (x : Order) : (s.setOrder o x).conds = s.conds := rfl
@[simp] theorem State.setOrder_store (o : Fin 16) (x : Order) : (s.setOrder o x).store = s.store := rfl
@[simp] theorem State.setOrder_power (o : Fin 16) (x : Order) : (s.setOrder o x).power = s.power := rfl
@[simp] theorem State.setOrder_sent (o : Fin 16) (x : Order) : (s.setOrder o x).sent = s.sent := rfl
@[simp] theorem State.setOrder_now (o : Fin 16) (x : Order) : (s.setOrder o x).now = s.now := rfl
@[simp] theorem State.setOrder_pending (o : Fin 16) (x : Order) : (s.setOrder o x).pending = s.pending := rfl

/-! ### setPort: it writes prints alone -/

@[simp] theorem State.setPort_link (p : Fin 3) (x : Port) : (s.setPort p x).link = s.link := rfl
@[simp] theorem State.setPort_sessions (p : Fin 3) (x : Port) : (s.setPort p x).sessions = s.sessions := rfl
@[simp] theorem State.setPort_slots (p : Fin 3) (x : Port) : (s.setPort p x).slots = s.slots := rfl
@[simp] theorem State.setPort_catalogue (p : Fin 3) (x : Port) : (s.setPort p x).catalogue = s.catalogue := rfl
@[simp] theorem State.setPort_orders (p : Fin 3) (x : Port) : (s.setPort p x).orders = s.orders := rfl
@[simp] theorem State.setPort_money (p : Fin 3) (x : Port) : (s.setPort p x).money = s.money := rfl
@[simp] theorem State.setPort_spool (p : Fin 3) (x : Port) : (s.setPort p x).spool = s.spool := rfl
@[simp] theorem State.setPort_conds (p : Fin 3) (x : Port) : (s.setPort p x).conds = s.conds := rfl
@[simp] theorem State.setPort_store (p : Fin 3) (x : Port) : (s.setPort p x).store = s.store := rfl
@[simp] theorem State.setPort_power (p : Fin 3) (x : Port) : (s.setPort p x).power = s.power := rfl
@[simp] theorem State.setPort_sent (p : Fin 3) (x : Port) : (s.setPort p x).sent = s.sent := rfl
@[simp] theorem State.setPort_now (p : Fin 3) (x : Port) : (s.setPort p x).now = s.now := rfl
@[simp] theorem State.setPort_pending (p : Fin 3) (x : Port) : (s.setPort p x).pending = s.pending := rfl

/-! ### setReader: it writes spool alone -/

@[simp] theorem State.setReader_link (p : Fin 3) (x : Reader) : (s.setReader p x).link = s.link := rfl
@[simp] theorem State.setReader_sessions (p : Fin 3) (x : Reader) : (s.setReader p x).sessions = s.sessions := rfl
@[simp] theorem State.setReader_slots (p : Fin 3) (x : Reader) : (s.setReader p x).slots = s.slots := rfl
@[simp] theorem State.setReader_catalogue (p : Fin 3) (x : Reader) : (s.setReader p x).catalogue = s.catalogue := rfl
@[simp] theorem State.setReader_orders (p : Fin 3) (x : Reader) : (s.setReader p x).orders = s.orders := rfl
@[simp] theorem State.setReader_money (p : Fin 3) (x : Reader) : (s.setReader p x).money = s.money := rfl
@[simp] theorem State.setReader_prints (p : Fin 3) (x : Reader) : (s.setReader p x).prints = s.prints := rfl
@[simp] theorem State.setReader_conds (p : Fin 3) (x : Reader) : (s.setReader p x).conds = s.conds := rfl
@[simp] theorem State.setReader_store (p : Fin 3) (x : Reader) : (s.setReader p x).store = s.store := rfl
@[simp] theorem State.setReader_power (p : Fin 3) (x : Reader) : (s.setReader p x).power = s.power := rfl
@[simp] theorem State.setReader_sent (p : Fin 3) (x : Reader) : (s.setReader p x).sent = s.sent := rfl
@[simp] theorem State.setReader_now (p : Fin 3) (x : Reader) : (s.setReader p x).now = s.now := rfl
@[simp] theorem State.setReader_pending (p : Fin 3) (x : Reader) : (s.setReader p x).pending = s.pending := rfl

/-! ### setSessionSet: it writes conds alone -/

@[simp] theorem State.setSessionSet_link (r : Fin 8) (x : CondSet 8) : (s.setSessionSet r x).link = s.link := rfl
@[simp] theorem State.setSessionSet_sessions (r : Fin 8) (x : CondSet 8) : (s.setSessionSet r x).sessions = s.sessions := rfl
@[simp] theorem State.setSessionSet_slots (r : Fin 8) (x : CondSet 8) : (s.setSessionSet r x).slots = s.slots := rfl
@[simp] theorem State.setSessionSet_catalogue (r : Fin 8) (x : CondSet 8) : (s.setSessionSet r x).catalogue = s.catalogue := rfl
@[simp] theorem State.setSessionSet_orders (r : Fin 8) (x : CondSet 8) : (s.setSessionSet r x).orders = s.orders := rfl
@[simp] theorem State.setSessionSet_money (r : Fin 8) (x : CondSet 8) : (s.setSessionSet r x).money = s.money := rfl
@[simp] theorem State.setSessionSet_spool (r : Fin 8) (x : CondSet 8) : (s.setSessionSet r x).spool = s.spool := rfl
@[simp] theorem State.setSessionSet_prints (r : Fin 8) (x : CondSet 8) : (s.setSessionSet r x).prints = s.prints := rfl
@[simp] theorem State.setSessionSet_store (r : Fin 8) (x : CondSet 8) : (s.setSessionSet r x).store = s.store := rfl
@[simp] theorem State.setSessionSet_power (r : Fin 8) (x : CondSet 8) : (s.setSessionSet r x).power = s.power := rfl
@[simp] theorem State.setSessionSet_sent (r : Fin 8) (x : CondSet 8) : (s.setSessionSet r x).sent = s.sent := rfl
@[simp] theorem State.setSessionSet_now (r : Fin 8) (x : CondSet 8) : (s.setSessionSet r x).now = s.now := rfl
@[simp] theorem State.setSessionSet_pending (r : Fin 8) (x : CondSet 8) : (s.setSessionSet r x).pending = s.pending := rfl

/-! ### setKioskSet: it writes conds alone -/

@[simp] theorem State.setKioskSet_link (x : CondSet 16) : (s.setKioskSet x).link = s.link := rfl
@[simp] theorem State.setKioskSet_sessions (x : CondSet 16) : (s.setKioskSet x).sessions = s.sessions := rfl
@[simp] theorem State.setKioskSet_slots (x : CondSet 16) : (s.setKioskSet x).slots = s.slots := rfl
@[simp] theorem State.setKioskSet_catalogue (x : CondSet 16) : (s.setKioskSet x).catalogue = s.catalogue := rfl
@[simp] theorem State.setKioskSet_orders (x : CondSet 16) : (s.setKioskSet x).orders = s.orders := rfl
@[simp] theorem State.setKioskSet_money (x : CondSet 16) : (s.setKioskSet x).money = s.money := rfl
@[simp] theorem State.setKioskSet_spool (x : CondSet 16) : (s.setKioskSet x).spool = s.spool := rfl
@[simp] theorem State.setKioskSet_prints (x : CondSet 16) : (s.setKioskSet x).prints = s.prints := rfl
@[simp] theorem State.setKioskSet_store (x : CondSet 16) : (s.setKioskSet x).store = s.store := rfl
@[simp] theorem State.setKioskSet_power (x : CondSet 16) : (s.setKioskSet x).power = s.power := rfl
@[simp] theorem State.setKioskSet_sent (x : CondSet 16) : (s.setKioskSet x).sent = s.sent := rfl
@[simp] theorem State.setKioskSet_now (x : CondSet 16) : (s.setKioskSet x).now = s.now := rfl
@[simp] theorem State.setKioskSet_pending (x : CondSet 16) : (s.setKioskSet x).pending = s.pending := rfl

/-! ### send: it writes sent alone -/

@[simp] theorem State.send_link (x : Sent) : (s.send x).link = s.link := rfl
@[simp] theorem State.send_sessions (x : Sent) : (s.send x).sessions = s.sessions := rfl
@[simp] theorem State.send_slots (x : Sent) : (s.send x).slots = s.slots := rfl
@[simp] theorem State.send_catalogue (x : Sent) : (s.send x).catalogue = s.catalogue := rfl
@[simp] theorem State.send_orders (x : Sent) : (s.send x).orders = s.orders := rfl
@[simp] theorem State.send_money (x : Sent) : (s.send x).money = s.money := rfl
@[simp] theorem State.send_spool (x : Sent) : (s.send x).spool = s.spool := rfl
@[simp] theorem State.send_prints (x : Sent) : (s.send x).prints = s.prints := rfl
@[simp] theorem State.send_conds (x : Sent) : (s.send x).conds = s.conds := rfl
@[simp] theorem State.send_store (x : Sent) : (s.send x).store = s.store := rfl
@[simp] theorem State.send_power (x : Sent) : (s.send x).power = s.power := rfl
@[simp] theorem State.send_now (x : Sent) : (s.send x).now = s.now := rfl
@[simp] theorem State.send_pending (x : Sent) : (s.send x).pending = s.pending := rfl

/-! ### notify: it writes link alone -/

@[simp] theorem State.notify_sessions (code : Byte) (p : List Byte) : (s.notify code p).sessions = s.sessions := rfl
@[simp] theorem State.notify_slots (code : Byte) (p : List Byte) : (s.notify code p).slots = s.slots := rfl
@[simp] theorem State.notify_catalogue (code : Byte) (p : List Byte) : (s.notify code p).catalogue = s.catalogue := rfl
@[simp] theorem State.notify_orders (code : Byte) (p : List Byte) : (s.notify code p).orders = s.orders := rfl
@[simp] theorem State.notify_money (code : Byte) (p : List Byte) : (s.notify code p).money = s.money := rfl
@[simp] theorem State.notify_spool (code : Byte) (p : List Byte) : (s.notify code p).spool = s.spool := rfl
@[simp] theorem State.notify_prints (code : Byte) (p : List Byte) : (s.notify code p).prints = s.prints := rfl
@[simp] theorem State.notify_conds (code : Byte) (p : List Byte) : (s.notify code p).conds = s.conds := rfl
@[simp] theorem State.notify_store (code : Byte) (p : List Byte) : (s.notify code p).store = s.store := rfl
@[simp] theorem State.notify_power (code : Byte) (p : List Byte) : (s.notify code p).power = s.power := rfl
@[simp] theorem State.notify_sent (code : Byte) (p : List Byte) : (s.notify code p).sent = s.sent := rfl
@[simp] theorem State.notify_now (code : Byte) (p : List Byte) : (s.notify code p).now = s.now := rfl
@[simp] theorem State.notify_pending (code : Byte) (p : List Byte) : (s.notify code p).pending = s.pending := rfl

/-! ### replyWith: it writes link alone -/

@[simp] theorem State.replyWith_sessions (tag : Byte) (st : Status) (p : List Byte) : (s.replyWith tag st p).sessions = s.sessions := rfl
@[simp] theorem State.replyWith_slots (tag : Byte) (st : Status) (p : List Byte) : (s.replyWith tag st p).slots = s.slots := rfl
@[simp] theorem State.replyWith_catalogue (tag : Byte) (st : Status) (p : List Byte) : (s.replyWith tag st p).catalogue = s.catalogue := rfl
@[simp] theorem State.replyWith_orders (tag : Byte) (st : Status) (p : List Byte) : (s.replyWith tag st p).orders = s.orders := rfl
@[simp] theorem State.replyWith_money (tag : Byte) (st : Status) (p : List Byte) : (s.replyWith tag st p).money = s.money := rfl
@[simp] theorem State.replyWith_spool (tag : Byte) (st : Status) (p : List Byte) : (s.replyWith tag st p).spool = s.spool := rfl
@[simp] theorem State.replyWith_prints (tag : Byte) (st : Status) (p : List Byte) : (s.replyWith tag st p).prints = s.prints := rfl
@[simp] theorem State.replyWith_conds (tag : Byte) (st : Status) (p : List Byte) : (s.replyWith tag st p).conds = s.conds := rfl
@[simp] theorem State.replyWith_store (tag : Byte) (st : Status) (p : List Byte) : (s.replyWith tag st p).store = s.store := rfl
@[simp] theorem State.replyWith_power (tag : Byte) (st : Status) (p : List Byte) : (s.replyWith tag st p).power = s.power := rfl
@[simp] theorem State.replyWith_sent (tag : Byte) (st : Status) (p : List Byte) : (s.replyWith tag st p).sent = s.sent := rfl
@[simp] theorem State.replyWith_now (tag : Byte) (st : Status) (p : List Byte) : (s.replyWith tag st p).now = s.now := rfl
@[simp] theorem State.replyWith_pending (tag : Byte) (st : Status) (p : List Byte) : (s.replyWith tag st p).pending = s.pending := rfl

/-! ### ok: it writes link alone -/

@[simp] theorem State.ok_sessions (tag : Byte) (p : List Byte) : (s.ok tag p).sessions = s.sessions := rfl
@[simp] theorem State.ok_slots (tag : Byte) (p : List Byte) : (s.ok tag p).slots = s.slots := rfl
@[simp] theorem State.ok_catalogue (tag : Byte) (p : List Byte) : (s.ok tag p).catalogue = s.catalogue := rfl
@[simp] theorem State.ok_orders (tag : Byte) (p : List Byte) : (s.ok tag p).orders = s.orders := rfl
@[simp] theorem State.ok_money (tag : Byte) (p : List Byte) : (s.ok tag p).money = s.money := rfl
@[simp] theorem State.ok_spool (tag : Byte) (p : List Byte) : (s.ok tag p).spool = s.spool := rfl
@[simp] theorem State.ok_prints (tag : Byte) (p : List Byte) : (s.ok tag p).prints = s.prints := rfl
@[simp] theorem State.ok_conds (tag : Byte) (p : List Byte) : (s.ok tag p).conds = s.conds := rfl
@[simp] theorem State.ok_store (tag : Byte) (p : List Byte) : (s.ok tag p).store = s.store := rfl
@[simp] theorem State.ok_power (tag : Byte) (p : List Byte) : (s.ok tag p).power = s.power := rfl
@[simp] theorem State.ok_sent (tag : Byte) (p : List Byte) : (s.ok tag p).sent = s.sent := rfl
@[simp] theorem State.ok_now (tag : Byte) (p : List Byte) : (s.ok tag p).now = s.now := rfl
@[simp] theorem State.ok_pending (tag : Byte) (p : List Byte) : (s.ok tag p).pending = s.pending := rfl

/-! ### refuse: it writes link alone -/

@[simp] theorem State.refuse_sessions (tag : Byte) (st : Status) : (s.refuse tag st).sessions = s.sessions := rfl
@[simp] theorem State.refuse_slots (tag : Byte) (st : Status) : (s.refuse tag st).slots = s.slots := rfl
@[simp] theorem State.refuse_catalogue (tag : Byte) (st : Status) : (s.refuse tag st).catalogue = s.catalogue := rfl
@[simp] theorem State.refuse_orders (tag : Byte) (st : Status) : (s.refuse tag st).orders = s.orders := rfl
@[simp] theorem State.refuse_money (tag : Byte) (st : Status) : (s.refuse tag st).money = s.money := rfl
@[simp] theorem State.refuse_spool (tag : Byte) (st : Status) : (s.refuse tag st).spool = s.spool := rfl
@[simp] theorem State.refuse_prints (tag : Byte) (st : Status) : (s.refuse tag st).prints = s.prints := rfl
@[simp] theorem State.refuse_conds (tag : Byte) (st : Status) : (s.refuse tag st).conds = s.conds := rfl
@[simp] theorem State.refuse_store (tag : Byte) (st : Status) : (s.refuse tag st).store = s.store := rfl
@[simp] theorem State.refuse_power (tag : Byte) (st : Status) : (s.refuse tag st).power = s.power := rfl
@[simp] theorem State.refuse_sent (tag : Byte) (st : Status) : (s.refuse tag st).sent = s.sent := rfl
@[simp] theorem State.refuse_now (tag : Byte) (st : Status) : (s.refuse tag st).now = s.now := rfl
@[simp] theorem State.refuse_pending (tag : Byte) (st : Status) : (s.refuse tag st).pending = s.pending := rfl

/-! ### What the written field holds -/

@[simp] theorem State.send_sent (x : Sent) : (s.send x).sent = s.sent ++ [x] := rfl
@[simp] theorem State.notify_link (code : Byte) (p : List Byte) : (s.notify code p).link = s.link.notice code p := rfl
@[simp] theorem State.replyWith_link (tag : Byte) (st : Status) (p : List Byte) :
    (s.replyWith tag st p).link = s.link.reply tag (st.code :: p) := rfl
@[simp] theorem State.ok_link (tag : Byte) (p : List Byte) :
    (s.ok tag p).link = s.link.reply tag (Status.ok.code :: p) := rfl
@[simp] theorem State.refuse_link (tag : Byte) (st : Status) :
    (s.refuse tag st).link = s.link.reply tag [st.code] := rfl

/-- The item of a table after one item was replaced. -/
theorem get_put {α : Type} {n : Nat} (v : Vector α n) (i j : Fin n) (x : α) :
    (put v i x).get j = if i = j then x else v.get j := by
  simp only [put, Vector.get_eq_getElem, Vector.getElem_set, Fin.ext_iff]

@[simp] theorem get_put_same {α : Type} {n : Nat} (v : Vector α n) (i : Fin n) (x : α) : (put v i x).get i = x := by
  simp [get_put]

theorem get_put_ne {α : Type} {n : Nat} (v : Vector α n) {i j : Fin n} (h : i ≠ j) (x : α) :
    (put v i x).get j = v.get j := by
  simp [get_put, h]

@[simp] theorem State.record_setRecord (r : Fin 8) (x : SessionRecord) : (s.setRecord r x).record r = x :=
  get_put_same _ _ _
@[simp] theorem State.slot_setSlot (n : Fin 4) (x : Slot) : (s.setSlot n x).slot n = x := get_put_same _ _ _
@[simp] theorem State.account_setAccount (r : Fin 8) (x : Account) : (s.setAccount r x).account r = x :=
  get_put_same _ _ _
@[simp] theorem State.unit_setUnit (u : Fin 2) (x : CashUnit) : (s.setUnit u x).unit u = x := get_put_same _ _ _
@[simp] theorem State.orderRecord_setOrderRecord (o : Fin 16) (x : OrderRecord) :
    (s.setOrderRecord o x).orderRecord o = x := get_put_same _ _ _
@[simp] theorem State.port_setPort (p : Fin 3) (x : Port) : (s.setPort p x).port p = x := get_put_same _ _ _
@[simp] theorem State.reader_setReader (p : Fin 3) (x : Reader) : (s.setReader p x).reader p = x := get_put_same _ _ _
@[simp] theorem State.sessionSet_setSessionSet (r : Fin 8) (x : CondSet 8) :
    (s.setSessionSet r x).sessionSet r = x := get_put_same _ _ _

theorem State.record_setRecord_ne {r r' : Fin 8} (h : r ≠ r') (x : SessionRecord) :
    (s.setRecord r x).record r' = s.record r' := get_put_ne _ h _
theorem State.slot_setSlot_ne {n m : Fin 4} (h : n ≠ m) (x : Slot) : (s.setSlot n x).slot m = s.slot m :=
  get_put_ne _ h _
theorem State.account_setAccount_ne {r r' : Fin 8} (h : r ≠ r') (x : Account) :
    (s.setAccount r x).account r' = s.account r' := get_put_ne _ h _
theorem State.unit_setUnit_ne {u v : Fin 2} (h : u ≠ v) (x : CashUnit) : (s.setUnit u x).unit v = s.unit v :=
  get_put_ne _ h _
theorem State.orderRecord_setOrderRecord_ne {o q : Fin 16} (h : o ≠ q) (x : OrderRecord) :
    (s.setOrderRecord o x).orderRecord q = s.orderRecord q := get_put_ne _ h _
theorem State.port_setPort_ne {p q : Fin 3} (h : p ≠ q) (x : Port) : (s.setPort p x).port q = s.port q :=
  get_put_ne _ h _

end Sys2Proof.Machine
end

