-- ==== Sys2Proof/Laws/Link.lean ====
section
/-! SUPPORT. The Link Interface: every operation keeps its bounds, what a notice and a reply leave, and the taking of a request
that stands ready. -/

namespace Sys2Proof.Machine

/-! ### Bounds -/

/-- Frames that join the queue's tail leave the frame in sending as it is. -/
theorem Link.InFrame.queued {l m : Link} (h : l.InFrame) (f : Frame) (hq : m.queue = l.queue ++ [f])
    (hs : m.sending = l.sending) : m.InFrame := by
  unfold Link.InFrame at h ⊢
  rw [hq, hs]
  cases hl : l.queue with
  | nil =>
    rw [hl] at h
    simp only at h
    simp [h, Frame.bytes]
  | cons g rest =>
    rw [hl] at h
    exact h

theorem Link.Bounded.notice {l : Link} (h : l.Bounded) (code : Byte) (payload : List Byte) :
    (l.notice code payload).Bounded := by
  unfold Link.notice
  split_ifs with hc
  · obtain ⟨hf, hn⟩ := hc
    refine ⟨h.table, ?_, ?_, h.errors, h.tags, h.sending.queued _ rfl rfl⟩
    · simp [Link.free] at hf ⊢; omega
    · simp [Link.notices] at hn ⊢; omega
  · exact ⟨h.table, h.places, h.notices, h.errors, h.tags, h.sending⟩

theorem Link.Bounded.countError {l : Link} (h : l.Bounded) : l.countError.Bounded :=
  ⟨h.table, h.places, h.notices, by simp [Link.countError], h.tags, h.sending⟩

theorem Link.Bounded.answerAtOnce {l : Link} (h : l.Bounded) (hf : l.free ≠ 0) (tag code : Byte) (e : Status) :
    (l.answerAtOnce tag code e).Bounded := by
  refine ⟨h.table, ?_, ?_, h.errors, h.tags, h.sending.queued _ rfl rfl⟩
  · simp [Link.answerAtOnce, Link.free] at hf ⊢; omega
  · simpa [Link.answerAtOnce, Link.notices] using h.notices

theorem Link.Bounded.reply {l : Link} (h : l.Bounded) (tag : Byte) (payload : List Byte) :
    (l.reply tag payload).Bounded := by
  unfold Link.reply
  split
  · exact h
  · rename_i e he
    have hmem := List.mem_of_find?_eq_some he
    have htag : e.tag = tag := by simpa using List.find?_some he
    have hlt : (l.table.filter (fun x => x.tag ≠ tag)).length < l.table.length := by
      apply List.length_filter_lt_length_iff_exists.2
      exact ⟨e, hmem, by simp [htag]⟩
    refine ⟨?_, ?_, ?_, h.errors, ?_, h.sending.queued _ rfl rfl⟩
    · have := h.table; simp only; omega
    · have := h.places; simp only [List.length_append, List.length_singleton]; omega
    · have := h.notices; simpa [Link.notices] using this
    · exact h.tags.sublist (List.filter_sublist.map _)

theorem Link.markTaken_tags (l : Link) (tag : Byte) :
    (l.markTaken tag).table.map (fun e => e.tag) = l.table.map (fun e => e.tag) := by
  simp only [Link.markTaken, List.map_map]
  apply List.map_congr_left
  intro e _
  by_cases h : e.tag = tag <;> simp [h]

theorem Link.Bounded.markTaken {l : Link} (h : l.Bounded) (tag : Byte) : (l.markTaken tag).Bounded := by
  refine ⟨?_, ?_, h.notices, h.errors, ?_, h.sending⟩
  · simpa [Link.markTaken] using h.table
  · simpa [Link.markTaken] using h.places
  · rw [Link.markTaken_tags]; exact h.tags

theorem Link.Bounded.arrive {l : Link} (h : l.Bounded) (standby : Bool) (tag code : Byte) (payload : List Byte) :
    (l.arrive standby tag code payload).Bounded := by
  unfold Link.arrive
  split_ifs with hf ht hs
  · exact h.countError
  · exact h.answerAtOnce hf _ _ _
  · exact h.answerAtOnce hf _ _ _
  · split
    · exact h.answerAtOnce hf _ _ _
    · split_ifs
      · exact h.answerAtOnce hf _ _ _
      · exact h.answerAtOnce hf _ _ _
      · refine ⟨?_, ?_, h.notices, h.errors, ?_, h.sending⟩
        · simp; omega
        · simp [Link.free] at hf ⊢; omega
        · simp only [List.map_append, List.map_cons, List.map_nil]
          apply List.Nodup.append h.tags (by simp)
          intro x hx hy
          simp at hy; subst hy
          simp at ht hx
          obtain ⟨e, he, hx⟩ := hx
          exact ht e he hx

theorem Link.Bounded.receiver {l : Link} (h : l.Bounded) (held : List Byte) (last : Nat) :
    ({ l with held := held, lastByte := last } : Link).Bounded :=
  ⟨h.table, h.places, h.notices, h.errors, h.tags, h.sending⟩

theorem Link.Bounded.examine {l : Link} (h : l.Bounded) (standby : Bool) (fuel : Nat) :
    (Link.examine standby fuel l).Bounded := by
  induction fuel generalizing l with
  | zero => exact h
  | succ n ih =>
    simp only [Link.examine]
    split_ifs
    · exact h.receiver _ _
    · exact ih (h.countError.receiver _ _)
    · exact h.receiver _ _
    · exact ih (h.countError.receiver _ _)
    · exact ih (h.countError.receiver _ _)
    · exact ih ((h.receiver _ _).arrive _ _ _ _)

/-- The oldest frame gone. -/
theorem Link.Bounded.frameGone {l : Link} (h : l.Bounded) {f : Frame} {rest : List Frame} (hq : l.queue = f :: rest) :
    ({ l with queue := rest, sending := 0 } : Link).Bounded := by
  refine ⟨h.table, ?_, ?_, h.errors, h.tags, ?_⟩
  · have := h.places; rw [hq] at this; simp at this ⊢; omega
  · have := h.notices; unfold Link.notices at this ⊢; rw [hq, List.countP_cons] at this; simp only; omega
  · unfold Link.InFrame; cases rest <;> simp [Frame.bytes]

/-- A byte sent leaves the bounds, and with its last byte the frame leaves the queue. -/
theorem Link.Bounded.outputSent {l : Link} (h : l.Bounded) : l.outputSent.Bounded := by
  unfold Link.outputSent
  split
  · exact h
  · rename_i f rest hq
    split_ifs with hl
    · exact ⟨h.table, h.places, h.notices, h.errors, h.tags, by unfold Link.InFrame; rw [hq]; exact hl⟩
    · exact h.frameGone hq

theorem Link.Bounded.receive {l : Link} (h : l.Bounded) (standby : Bool) (now : Nat) (b : Byte) :
    (l.receive standby now b).Bounded :=
  (h.receiver _ _).examine _ _

theorem Link.Bounded.reset : Link.reset.Bounded := by
  constructor <;> simp [Link.reset, Link.notices, Link.InFrame]

/-! ### What a notice and a reply leave -/

@[simp] theorem Link.notice_table (l : Link) (c : Byte) (p : List Byte) : (l.notice c p).table = l.table := by
  unfold Link.notice; split_ifs <;> rfl
@[simp] theorem Link.notice_held (l : Link) (c : Byte) (p : List Byte) : (l.notice c p).held = l.held := by
  unfold Link.notice; split_ifs <;> rfl
@[simp] theorem Link.notice_errors (l : Link) (c : Byte) (p : List Byte) : (l.notice c p).errors = l.errors := by
  unfold Link.notice; split_ifs <;> rfl
@[simp] theorem Link.notice_lastByte (l : Link) (c : Byte) (p : List Byte) :
    (l.notice c p).lastByte = l.lastByte := by
  unfold Link.notice; split_ifs <;> rfl

/-- Marking a request as taken does not meet a notice. -/
theorem Link.markTaken_notice (l : Link) (tag c : Byte) (p : List Byte) :
    (l.markTaken tag).notice c p = (l.notice c p).markTaken tag := by
  unfold Link.notice Link.markTaken Link.free Link.notices
  simp only [List.length_map]
  split_ifs <;> rfl

/-! ### The taking of a request -/

/-- The first entry an owner has not taken, where it is under tag `tag`, is found under that tag. -/
theorem Link.find_markTaken {l : Link} {tag : Byte} {e : Entry} (hmem : e ∈ l.table) (htag : e.tag = tag)
    (hd : (l.table.map (fun e => e.tag)).Nodup) :
    (l.markTaken tag).table.find? (fun x => x.tag = tag) = some { e with taken := true } := by
  unfold Link.markTaken
  revert hmem hd
  generalize l.table = t
  intro hmem hd
  induction t with
  | nil => simp at hmem
  | cons x rest ih =>
    simp only [List.map_cons, List.nodup_cons] at hd
    rcases List.mem_cons.1 hmem with rfl | hm
    · simp [htag]
    · have hne : x.tag ≠ tag := by
        intro hx
        apply hd.1
        rw [hx, ← htag]
        exact List.mem_map_of_mem (f := fun e => e.tag) hm
      simp only [List.map_cons, hne, if_false]
      rw [List.find?_cons_of_neg (by simp [hne])]
      exact ih hm hd.2

theorem Link.filter_markTaken (l : Link) (tag : Byte) :
    (l.markTaken tag).table.filter (fun e => e.tag ≠ tag) = l.table.filter (fun e => e.tag ≠ tag) := by
  unfold Link.markTaken
  simp only
  generalize l.table = t
  induction t with
  | nil => rfl
  | cons x rest ih => by_cases hx : x.tag = tag <;> simp_all

/-- A reply to a request taken. -/
theorem Link.reply_markTaken {l : Link} {tag : Byte} {e : Entry} (payload : List Byte) (hmem : e ∈ l.table)
    (htag : e.tag = tag) (hd : (l.table.map (fun e => e.tag)).Nodup) :
    (l.markTaken tag).reply tag payload = l.answered tag e.code payload := by
  unfold Link.reply
  rw [Link.find_markTaken hmem htag hd]
  simp only [Link.answered, Link.filter_markTaken]
  rfl

variable {s : State} {c : RequestCode} {tag : Byte} {p : List Byte}

theorem State.Offers.mem (h : s.Offers c tag p) :
    ({ tag := tag, code := c, payload := p, taken := false } : Entry) ∈ s.link.table :=
  List.mem_of_find?_eq_some h.2.2.2

/-- The request at hand is taken. -/
theorem State.Offers.take (h : s.Offers c tag p) (act : State → List Byte → State) :
    s.take c tag act = act (s.holds tag) p := by
  obtain ⟨h1, h2, h3, h4⟩ := h
  unfold State.take
  rw [h1, h4]
  simp only [Bool.false_eq_true, if_false, and_self, if_true]
  rw [if_neg]
  · rfl
  · rintro ⟨hs, hc, hn⟩
    rcases h2 hs with h | h
    · simp [h] at hc
    · exact hn h

/-- Any reply to a request taken, whatever notices came before it. -/
theorem State.Offers.reply (h : s.Offers c tag p) (t : State) (l : Link) (hl : t.link = l.markTaken tag)
    (ht : l.table = s.link.table) (e : Status) (fields : List Byte) :
    t.replyWith tag e fields = { t with link := l.answered tag c (e.code :: fields) } := by
  unfold State.replyWith State.setLink
  rw [hl, Link.reply_markTaken (e := { tag := tag, code := c, payload := p, taken := false }) _ _ rfl]
  · rw [ht]; exact h.2.2.1
  · rw [ht]; exact h.mem

theorem State.Offers.refuse (h : s.Offers c tag p) (e : Status) :
    (s.holds tag).refuse tag e = s.answerNo tag c e := by
  unfold State.refuse
  rw [h.reply (s.holds tag) s.link rfl rfl]; rfl

theorem State.Offers.ok (h : s.Offers c tag p) (fields : List Byte) :
    (s.holds tag).ok tag fields = s.answerOk tag c fields := by
  unfold State.ok
  rw [h.reply (s.holds tag) s.link rfl rfl]; rfl

end Sys2Proof.Machine
end

