-- ==== Sys2Proof/Laws/Changes.lean ====
section
/-! SUPPORT. Which blocks of State each operation can change, said once per operation: `op` says it of the operation by itself
(the list is the smallest that always holds), and the same list serves a chain of operations through `after`. -/

namespace Sys2Proof.Machine

set_option maxRecDepth 4000

namespace State.ChangesOnly

variable {s t u : State} {L M : List Block}

@[simp] theorem refl (s : State) (L : List Block) : s.ChangesOnly s L := fun b _ => by cases b <;> rfl

theorem trans (h : s.ChangesOnly t L) (k : t.ChangesOnly u L) : s.ChangesOnly u L := by
  intro b hb
  have h1 := h b hb
  have h2 := k b hb
  cases b <;> exact Eq.trans h2 h1

theorem mono (h : s.ChangesOnly t M) (hl : M ⊆ L) : s.ChangesOnly t L := fun b hb => h b (fun hm => hb (hl hm))

theorem after (h : s.ChangesOnly t L) (k : t.ChangesOnly u M) (hl : M ⊆ L) : s.ChangesOnly u L := h.trans (k.mono hl)

/-! ### What a frame gives, block by block -/

theorem link (h : s.ChangesOnly t L) (hb : Block.link ∉ L := by decide) : t.link = s.link := h .link hb
theorem sessions (h : s.ChangesOnly t L) (hb : Block.sessions ∉ L := by decide) : t.sessions = s.sessions := h .sessions hb
theorem slots (h : s.ChangesOnly t L) (hb : Block.slots ∉ L := by decide) : t.slots = s.slots := h .slots hb
theorem catalogue (h : s.ChangesOnly t L) (hb : Block.catalogue ∉ L := by decide) : t.catalogue = s.catalogue := h .catalogue hb
theorem orders (h : s.ChangesOnly t L) (hb : Block.orders ∉ L := by decide) : t.orders = s.orders := h .orders hb
theorem money (h : s.ChangesOnly t L) (hb : Block.money ∉ L := by decide) : t.money = s.money := h .money hb
theorem spool (h : s.ChangesOnly t L) (hb : Block.spool ∉ L := by decide) : t.spool = s.spool := h .spool hb
theorem prints (h : s.ChangesOnly t L) (hb : Block.prints ∉ L := by decide) : t.prints = s.prints := h .prints hb
theorem conds (h : s.ChangesOnly t L) (hb : Block.conds ∉ L := by decide) : t.conds = s.conds := h .conds hb
theorem store (h : s.ChangesOnly t L) (hb : Block.store ∉ L := by decide) : t.store = s.store := h .store hb
theorem power (h : s.ChangesOnly t L) (hb : Block.power ∉ L := by decide) : t.power = s.power := h .power hb
theorem sent (h : s.ChangesOnly t L) (hb : Block.sent ∉ L := by decide) : t.sent = s.sent := h .sent hb
theorem now (h : s.ChangesOnly t L) (hb : Block.now ∉ L := by decide) : t.now = s.now := h .now hb
theorem pending (h : s.ChangesOnly t L) (hb : Block.pending ∉ L := by decide) : t.pending = s.pending := h .pending hb

/-! ### Updates of one block -/

@[simp] theorem setLink (h : s.ChangesOnly t L) (x : Link) (hl : Block.link ∈ L) : s.ChangesOnly (t.setLink x) L :=
  fun b hb => by have := h b hb; cases b <;> first | exact this | exact absurd hl hb
@[simp] theorem setSessions (h : s.ChangesOnly t L) (x : Sessions) (hl : Block.sessions ∈ L) : s.ChangesOnly (t.setSessions x) L :=
  fun b hb => by have := h b hb; cases b <;> first | exact this | exact absurd hl hb
@[simp] theorem setSlots (h : s.ChangesOnly t L) (x : Vector Slot 4) (hl : Block.slots ∈ L) : s.ChangesOnly (t.setSlots x) L :=
  fun b hb => by have := h b hb; cases b <;> first | exact this | exact absurd hl hb
@[simp] theorem setCatalogue (h : s.ChangesOnly t L) (x : Catalogue) (hl : Block.catalogue ∈ L) : s.ChangesOnly (t.setCatalogue x) L :=
  fun b hb => by have := h b hb; cases b <;> first | exact this | exact absurd hl hb
@[simp] theorem setOrders (h : s.ChangesOnly t L) (x : Orders) (hl : Block.orders ∈ L) : s.ChangesOnly (t.setOrders x) L :=
  fun b hb => by have := h b hb; cases b <;> first | exact this | exact absurd hl hb
@[simp] theorem setMoney (h : s.ChangesOnly t L) (x : Money) (hl : Block.money ∈ L) : s.ChangesOnly (t.setMoney x) L :=
  fun b hb => by have := h b hb; cases b <;> first | exact this | exact absurd hl hb
@[simp] theorem setSpool (h : s.ChangesOnly t L) (x : Spool) (hl : Block.spool ∈ L) : s.ChangesOnly (t.setSpool x) L :=
  fun b hb => by have := h b hb; cases b <;> first | exact this | exact absurd hl hb
@[simp] theorem setPrints (h : s.ChangesOnly t L) (x : Prints) (hl : Block.prints ∈ L) : s.ChangesOnly (t.setPrints x) L :=
  fun b hb => by have := h b hb; cases b <;> first | exact this | exact absurd hl hb
@[simp] theorem setConds (h : s.ChangesOnly t L) (x : Conditions) (hl : Block.conds ∈ L) : s.ChangesOnly (t.setConds x) L :=
  fun b hb => by have := h b hb; cases b <;> first | exact this | exact absurd hl hb
@[simp] theorem setStore (h : s.ChangesOnly t L) (x : Store) (hl : Block.store ∈ L) : s.ChangesOnly (t.setStore x) L :=
  fun b hb => by have := h b hb; cases b <;> first | exact this | exact absurd hl hb
@[simp] theorem setPower (h : s.ChangesOnly t L) (x : Power) (hl : Block.power ∈ L) : s.ChangesOnly (t.setPower x) L :=
  fun b hb => by have := h b hb; cases b <;> first | exact this | exact absurd hl hb
@[simp] theorem setSent (h : s.ChangesOnly t L) (x : List Sent) (hl : Block.sent ∈ L) : s.ChangesOnly (t.setSent x) L :=
  fun b hb => by have := h b hb; cases b <;> first | exact this | exact absurd hl hb

/-! ### Operations -/

theorem setRecord_op (t : State) (r : Fin 8) (x : SessionRecord) : t.ChangesOnly (t.setRecord r x) [.sessions] := by
  simp only [State.setRecord]
  simp (decide := true) (maxDischargeDepth := 20)
@[simp] theorem setRecord (h : s.ChangesOnly t L) (r : Fin 8) (x : SessionRecord) (hl : [.sessions] ⊆ L) : s.ChangesOnly (t.setRecord r x) L :=
  h.after (setRecord_op t r x) hl
theorem setFront_op (t : State) (r : Station) (x : Option SessionHandle) : t.ChangesOnly (t.setFront r x) [.sessions] := by
  simp only [State.setFront]
  simp (decide := true) (maxDischargeDepth := 20)
@[simp] theorem setFront (h : s.ChangesOnly t L) (r : Station) (x : Option SessionHandle) (hl : [.sessions] ⊆ L) : s.ChangesOnly (t.setFront r x) L :=
  h.after (setFront_op t r x) hl
theorem setSlot_op (t : State) (r : Fin 4) (x : Slot) : t.ChangesOnly (t.setSlot r x) [.slots] := by
  simp only [State.setSlot]
  simp (decide := true) (maxDischargeDepth := 20)
@[simp] theorem setSlot (h : s.ChangesOnly t L) (r : Fin 4) (x : Slot) (hl : [.slots] ⊆ L) : s.ChangesOnly (t.setSlot r x) L :=
  h.after (setSlot_op t r x) hl
theorem setAccount_op (t : State) (r : Fin 8) (x : Account) : t.ChangesOnly (t.setAccount r x) [.money] := by
  simp only [State.setAccount]
  simp (decide := true) (maxDischargeDepth := 20)
@[simp] theorem setAccount (h : s.ChangesOnly t L) (r : Fin 8) (x : Account) (hl : [.money] ⊆ L) : s.ChangesOnly (t.setAccount r x) L :=
  h.after (setAccount_op t r x) hl
theorem setUnit_op (t : State) (r : Fin 2) (x : CashUnit) : t.ChangesOnly (t.setUnit r x) [.money] := by
  simp only [State.setUnit]
  simp (decide := true) (maxDischargeDepth := 20)
@[simp] theorem setUnit (h : s.ChangesOnly t L) (r : Fin 2) (x : CashUnit) (hl : [.money] ⊆ L) : s.ChangesOnly (t.setUnit r x) L :=
  h.after (setUnit_op t r x) hl
theorem setTill_op (t : State) (x : Till) : t.ChangesOnly (t.setTill x) [.money] := by
  simp only [State.setTill]
  simp (decide := true) (maxDischargeDepth := 20)
@[simp] theorem setTill (h : s.ChangesOnly t L) (x : Till) (hl : [.money] ⊆ L) : s.ChangesOnly (t.setTill x) L :=
  h.after (setTill_op t x) hl
theorem setChallenge_op (t : State) (x : Challenge) : t.ChangesOnly (t.setChallenge x) [.money] := by
  simp only [State.setChallenge]
  simp (decide := true) (maxDischargeDepth := 20)
@[simp] theorem setChallenge (h : s.ChangesOnly t L) (x : Challenge) (hl : [.money] ⊆ L) : s.ChangesOnly (t.setChallenge x) L :=
  h.after (setChallenge_op t x) hl
theorem setTerminal_op (t : State) (x : Terminal) : t.ChangesOnly (t.setTerminal x) [.money] := by
  simp only [State.setTerminal]
  simp (decide := true) (maxDischargeDepth := 20)
@[simp] theorem setTerminal (h : s.ChangesOnly t L) (x : Terminal) (hl : [.money] ⊆ L) : s.ChangesOnly (t.setTerminal x) L :=
  h.after (setTerminal_op t x) hl
theorem setOrderRecord_op (t : State) (r : Fin 16) (x : OrderRecord) : t.ChangesOnly (t.setOrderRecord r x) [.orders] := by
  simp only [State.setOrderRecord]
  simp (decide := true) (maxDischargeDepth := 20)
@[simp] theorem setOrderRecord (h : s.ChangesOnly t L) (r : Fin 16) (x : OrderRecord) (hl : [.orders] ⊆ L) : s.ChangesOnly (t.setOrderRecord r x) L :=
  h.after (setOrderRecord_op t r x) hl
theorem setOrder_op (t : State) (r : Fin 16) (x : Order) : t.ChangesOnly (t.setOrder r x) [.orders] := by
  simp only [State.setOrder]
  simp (decide := true) (maxDischargeDepth := 20)
@[simp] theorem setOrder (h : s.ChangesOnly t L) (r : Fin 16) (x : Order) (hl : [.orders] ⊆ L) : s.ChangesOnly (t.setOrder r x) L :=
  h.after (setOrder_op t r x) hl
theorem setPort_op (t : State) (r : Fin 3) (x : Port) : t.ChangesOnly (t.setPort r x) [.prints] := by
  simp only [State.setPort]
  simp (decide := true) (maxDischargeDepth := 20)
@[simp] theorem setPort (h : s.ChangesOnly t L) (r : Fin 3) (x : Port) (hl : [.prints] ⊆ L) : s.ChangesOnly (t.setPort r x) L :=
  h.after (setPort_op t r x) hl
theorem setReader_op (t : State) (r : Fin 3) (x : Reader) : t.ChangesOnly (t.setReader r x) [.spool] := by
  simp only [State.setReader]
  simp (decide := true) (maxDischargeDepth := 20)
@[simp] theorem setReader (h : s.ChangesOnly t L) (r : Fin 3) (x : Reader) (hl : [.spool] ⊆ L) : s.ChangesOnly (t.setReader r x) L :=
  h.after (setReader_op t r x) hl
theorem setSessionSet_op (t : State) (r : Fin 8) (x : CondSet 8) : t.ChangesOnly (t.setSessionSet r x) [.conds] := by
  simp only [State.setSessionSet]
  simp (decide := true) (maxDischargeDepth := 20)
@[simp] theorem setSessionSet (h : s.ChangesOnly t L) (r : Fin 8) (x : CondSet 8) (hl : [.conds] ⊆ L) : s.ChangesOnly (t.setSessionSet r x) L :=
  h.after (setSessionSet_op t r x) hl
theorem setKioskSet_op (t : State) (x : CondSet 16) : t.ChangesOnly (t.setKioskSet x) [.conds] := by
  simp only [State.setKioskSet]
  simp (decide := true) (maxDischargeDepth := 20)
@[simp] theorem setKioskSet (h : s.ChangesOnly t L) (x : CondSet 16) (hl : [.conds] ⊆ L) : s.ChangesOnly (t.setKioskSet x) L :=
  h.after (setKioskSet_op t x) hl
theorem send_op (t : State) (x : Sent) : t.ChangesOnly (t.send x) [.sent] := by
  simp only [State.send]
  simp (decide := true) (maxDischargeDepth := 20)
@[simp] theorem send (h : s.ChangesOnly t L) (x : Sent) (hl : [.sent] ⊆ L) : s.ChangesOnly (t.send x) L :=
  h.after (send_op t x) hl
theorem notify_op (t : State) (c : Byte) (p : List Byte) : t.ChangesOnly (t.notify c p) [.link] := by
  simp only [State.notify]
  simp (decide := true) (maxDischargeDepth := 20)
@[simp] theorem notify (h : s.ChangesOnly t L) (c : Byte) (p : List Byte) (hl : [.link] ⊆ L) : s.ChangesOnly (t.notify c p) L :=
  h.after (notify_op t c p) hl
theorem replyWith_op (t : State) (g : Byte) (e : Status) (p : List Byte) : t.ChangesOnly (t.replyWith g e p) [.link] := by
  simp only [State.replyWith]
  simp (decide := true) (maxDischargeDepth := 20)
@[simp] theorem replyWith (h : s.ChangesOnly t L) (g : Byte) (e : Status) (p : List Byte) (hl : [.link] ⊆ L) : s.ChangesOnly (t.replyWith g e p) L :=
  h.after (replyWith_op t g e p) hl
theorem ok_op (t : State) (g : Byte) (p : List Byte) : t.ChangesOnly (t.ok g p) [.link] := by
  simp only [State.ok]
  simp (decide := true) (maxDischargeDepth := 20)
@[simp] theorem ok (h : s.ChangesOnly t L) (g : Byte) (p : List Byte) (hl : [.link] ⊆ L) : s.ChangesOnly (t.ok g p) L :=
  h.after (ok_op t g p) hl
theorem refuse_op (t : State) (g : Byte) (e : Status) : t.ChangesOnly (t.refuse g e) [.link] := by
  simp only [State.refuse]
  simp (decide := true) (maxDischargeDepth := 20)
@[simp] theorem refuse (h : s.ChangesOnly t L) (g : Byte) (e : Status) (hl : [.link] ⊆ L) : s.ChangesOnly (t.refuse g e) L :=
  h.after (refuse_op t g e) hl
theorem holds_op (t : State) (g : Byte) : t.ChangesOnly (t.holds g) [.link] := fun b hb => by cases b <;> first | rfl | simp at hb
@[simp] theorem holds (h : s.ChangesOnly t L) (g : Byte) (hl : [.link] ⊆ L) : s.ChangesOnly (t.holds g) L :=
  h.after (holds_op t g) hl

theorem each {α : Type} (h : s.ChangesOnly t L) (xs : List α) (f : State → α → State) (hf : ∀ (v : State) (a : α), v.ChangesOnly (f v a) L) :
    s.ChangesOnly (t.each xs f) L := by
  induction xs generalizing t with
  | nil => exact h
  | cons x rest ih => exact ih (h.trans (hf t x))

theorem touch_op (t : State) (r : Fin 8) : t.ChangesOnly (t.touch r) [.sessions] := by
  simp only [State.touch]
  split <;> simp (decide := true) (maxDischargeDepth := 20)
@[simp] theorem touch (h : s.ChangesOnly t L) (r : Fin 8) (hl : [.sessions] ⊆ L) : s.ChangesOnly (t.touch r) L :=
  h.after (touch_op t r) hl
theorem touchHandle_op (t : State) (x : SessionHandle) : t.ChangesOnly (t.touchHandle x) [.sessions] := by
  simp only [State.touchHandle]
  split <;> simp (decide := true) (maxDischargeDepth := 20)
@[simp] theorem touchHandle (h : s.ChangesOnly t L) (x : SessionHandle) (hl : [.sessions] ⊆ L) : s.ChangesOnly (t.touchHandle x) L :=
  h.after (touchHandle_op t x) hl

/-! ### Conditions -/

theorem conditionNotice_op (t : State) (x : Option SessionHandle) (n : Nat) (a : Action) (g : Trigger) : t.ChangesOnly (t.conditionNotice x n a g) [.link] := by
  simp only [State.conditionNotice]
  simp (decide := true) (maxDischargeDepth := 20)
@[simp] theorem conditionNotice (h : s.ChangesOnly t L) (x : Option SessionHandle) (n : Nat) (a : Action) (g : Trigger) (hl : [.link] ⊆ L) : s.ChangesOnly (t.conditionNotice x n a g) L :=
  h.after (conditionNotice_op t x n a g) hl
theorem resolveKiosk (h : s.ChangesOnly t L) (lock : State → State) (hk : ∀ v : State, v.ChangesOnly (lock v) L) (g : Trigger)
    (i : Fin 16) (h1 : Block.conds ∈ L) (h2 : Block.link ∈ L) : s.ChangesOnly (State.resolveKiosk lock g t i) L := by
  simp only [State.resolveKiosk]
  split
  · refine trans ?_ (hk _)
    split <;> simp [h, h1, h2]
  · split <;> simp [h, h1, h2]

theorem resolveSession (h : s.ChangesOnly t L) (susp : State → Fin 8 → State) (hk : ∀ (v : State) (r : Fin 8), v.ChangesOnly (susp v r) L)
    (g : Trigger) (r i : Fin 8) (h1 : Block.conds ∈ L) (h2 : Block.link ∈ L) :
    s.ChangesOnly (State.resolveSession susp g r t i) L := by
  simp only [State.resolveSession]
  split
  · refine trans ?_ (hk _ _)
    split <;> simp [h, h1, h2]
  · split <;> simp [h, h1, h2]

theorem raiseKioskWith (h : s.ChangesOnly t L) (lock : State → State) (hk : ∀ v : State, v.ChangesOnly (lock v) L) (i : Fin 16)
    (d : List Byte) (h1 : Block.conds ∈ L) (h2 : Block.link ∈ L) : s.ChangesOnly (t.raiseKioskWith lock i d) L := by
  unfold State.raiseKioskWith
  split
  · exact h
  · exact resolveKiosk (by simp [h, h1]) lock hk _ _ h1 h2

theorem reportLevelWith (h : s.ChangesOnly t L) (lock : State → State) (hk : ∀ v : State, v.ChangesOnly (lock v) L) (i : Fin 16)
    (b : Bool) (h1 : Block.conds ∈ L) (h2 : Block.link ∈ L) : s.ChangesOnly (t.reportLevelWith lock i b) L := by
  unfold State.reportLevelWith
  split
  · split
    · exact h
    · exact resolveKiosk (by simp [h, h1]) lock hk _ _ h1 h2
  · simp [h, h1]

theorem raiseSessionWith (h : s.ChangesOnly t L) (susp : State → Fin 8 → State) (hk : ∀ (v : State) (r : Fin 8), v.ChangesOnly (susp v r) L)
    (x : SessionHandle) (i : Fin 8) (d : List Byte) (h1 : Block.conds ∈ L) (h2 : Block.link ∈ L) :
    s.ChangesOnly (t.raiseSessionWith susp x i d) L := by
  unfold State.raiseSessionWith
  split
  · split
    · exact h
    · exact resolveSession (by simp [h, h1]) susp hk _ _ _ h1 h2
  · exact h

theorem resolveAll (h : s.ChangesOnly t L) (lock : State → State) (hk : ∀ v : State, v.ChangesOnly (lock v) L)
    (susp : State → Fin 8 → State) (hs : ∀ (v : State) (r : Fin 8), v.ChangesOnly (susp v r) L) (g : Trigger) (h1 : Block.conds ∈ L)
    (h2 : Block.link ∈ L) : s.ChangesOnly (State.resolveAll lock susp g t) L := by
  unfold State.resolveAll
  refine each (h.each _ _ (fun v a => resolveKiosk (refl v _) lock hk g a h1 h2)) _ _ (fun v r => ?_)
  exact (refl v _).each _ _ (fun w a => resolveSession (refl w _) susp hs g r a h1 h2)

theorem raiseKioskQuiet_op (t : State) (i : Fin 16) (d : List Byte) : t.ChangesOnly (t.raiseKioskQuiet i d) [.conds, .link] := raiseKioskWith (refl t _) id (fun v => refl v _) i d (by decide) (by decide)
@[simp] theorem raiseKioskQuiet (h : s.ChangesOnly t L) (i : Fin 16) (d : List Byte) (hl : [.conds, .link] ⊆ L) : s.ChangesOnly (t.raiseKioskQuiet i d) L :=
  h.after (raiseKioskQuiet_op t i d) hl
theorem reportLevelQuiet_op (t : State) (i : Fin 16) (b : Bool) : t.ChangesOnly (t.reportLevelQuiet i b) [.conds, .link] := reportLevelWith (refl t _) id (fun v => refl v _) i b (by decide) (by decide)
@[simp] theorem reportLevelQuiet (h : s.ChangesOnly t L) (i : Fin 16) (b : Bool) (hl : [.conds, .link] ⊆ L) : s.ChangesOnly (t.reportLevelQuiet i b) L :=
  h.after (reportLevelQuiet_op t i b) hl

/-! ### Cash -/

theorem refreshGate_op (t : State) (u : Fin 2) : t.ChangesOnly (t.refreshGate u) [.money, .sent] := by
  simp only [State.refreshGate]
  split <;> simp (decide := true) (maxDischargeDepth := 20)
@[simp] theorem refreshGate (h : s.ChangesOnly t L) (u : Fin 2) (hl : [.money, .sent] ⊆ L) : s.ChangesOnly (t.refreshGate u) L :=
  h.after (refreshGate_op t u) hl
theorem refreshGates_op (t : State) : t.ChangesOnly (t.refreshGates) [.money, .sent] := by
  simp only [State.refreshGates]
  simp (decide := true) (maxDischargeDepth := 20)
@[simp] theorem refreshGates (h : s.ChangesOnly t L) (hl : [.money, .sent] ⊆ L) : s.ChangesOnly (t.refreshGates) L :=
  h.after (refreshGates_op t) hl
theorem issueToken_op (t : State) (x : Byte) : t.ChangesOnly (t.issueToken x) [.money, .link] := by
  simp only [State.issueToken]
  simp (decide := true) (maxDischargeDepth := 20)
@[simp] theorem issueToken (h : s.ChangesOnly t L) (x : Byte) (hl : [.money, .link] ⊆ L) : s.ChangesOnly (t.issueToken x) L :=
  h.after (issueToken_op t x) hl
theorem stopChallenge_op (t : State) : t.ChangesOnly (t.stopChallenge) [.money] := by
  simp only [State.stopChallenge]
  simp (decide := true) (maxDischargeDepth := 20)
@[simp] theorem stopChallenge (h : s.ChangesOnly t L) (hl : [.money] ⊆ L) : s.ChangesOnly (t.stopChallenge) L :=
  h.after (stopChallenge_op t) hl
theorem giveBackHeld_op (t : State) (u : Fin 2) : t.ChangesOnly (t.giveBackHeld u) [.money, .sent] := by
  simp only [State.giveBackHeld]
  split <;> simp (decide := true) (maxDischargeDepth := 20)
@[simp] theorem giveBackHeld (h : s.ChangesOnly t L) (u : Fin 2) (hl : [.money, .sent] ⊆ L) : s.ChangesOnly (t.giveBackHeld u) L :=
  h.after (giveBackHeld_op t u) hl
theorem closeGate_op (t : State) (u : Fin 2) (c : Option GateCause) : t.ChangesOnly (t.closeGate u c) [.money, .sent, .link] := by
  simp only [State.closeGate]
  split <;> (try split) <;> (try split) <;> simp (decide := true) (maxDischargeDepth := 20)
@[simp] theorem closeGate (h : s.ChangesOnly t L) (u : Fin 2) (c : Option GateCause) (hl : [.money, .sent, .link] ⊆ L) : s.ChangesOnly (t.closeGate u c) L :=
  h.after (closeGate_op t u c) hl
theorem closeStationGate_op (t : State) (x : Option Station) (c : Option GateCause) : t.ChangesOnly (t.closeStationGate x c) [.money, .sent, .link] := by
  simp only [State.closeStationGate]
  split <;> simp (decide := true) (maxDischargeDepth := 20)
@[simp] theorem closeStationGate (h : s.ChangesOnly t L) (x : Option Station) (c : Option GateCause) (hl : [.money, .sent, .link] ⊆ L) : s.ChangesOnly (t.closeStationGate x c) L :=
  h.after (closeStationGate_op t x c) hl
theorem closeGates_op (t : State) (c : GateCause) : t.ChangesOnly (t.closeGates c) [.money, .sent, .link] := by
  simp only [State.closeGates]
  simp (decide := true) (maxDischargeDepth := 20)
@[simp] theorem closeGates (h : s.ChangesOnly t L) (c : GateCause) (hl : [.money, .sent, .link] ⊆ L) : s.ChangesOnly (t.closeGates c) L :=
  h.after (closeGates_op t c) hl
theorem setCredit_op (t : State) (r : Fin 8) (v : Nat) : t.ChangesOnly (t.setCredit r v) [.money, .sent] := by
  simp only [State.setCredit]
  simp (decide := true) (maxDischargeDepth := 20)
@[simp] theorem setCredit (h : s.ChangesOnly t L) (r : Fin 8) (v : Nat) (hl : [.money, .sent] ⊆ L) : s.ChangesOnly (t.setCredit r v) L :=
  h.after (setCredit_op t r v) hl
theorem addCredit_op (t : State) (r : Fin 8) (v : Nat) : t.ChangesOnly (t.addCredit r v) [.money, .sent] := by
  simp only [State.addCredit]
  simp (decide := true) (maxDischargeDepth := 20)
@[simp] theorem addCredit (h : s.ChangesOnly t L) (r : Fin 8) (v : Nat) (hl : [.money, .sent] ⊆ L) : s.ChangesOnly (t.addCredit r v) L :=
  h.after (addCredit_op t r v) hl
theorem tillCashIn_op (t : State) (v : Nat) : t.ChangesOnly (t.tillCashIn v) [.money] := by
  simp only [State.tillCashIn]
  simp (decide := true) (maxDischargeDepth := 20)
@[simp] theorem tillCashIn (h : s.ChangesOnly t L) (v : Nat) (hl : [.money] ⊆ L) : s.ChangesOnly (t.tillCashIn v) L :=
  h.after (tillCashIn_op t v) hl
theorem tillCardIn_op (t : State) (v : Nat) : t.ChangesOnly (t.tillCardIn v) [.money] := by
  simp only [State.tillCardIn]
  simp (decide := true) (maxDischargeDepth := 20)
@[simp] theorem tillCardIn (h : s.ChangesOnly t L) (v : Nat) (hl : [.money] ⊆ L) : s.ChangesOnly (t.tillCardIn v) L :=
  h.after (tillCardIn_op t v) hl
theorem tillEarned_op (t : State) (v : Nat) : t.ChangesOnly (t.tillEarned v) [.money] := by
  simp only [State.tillEarned]
  simp (decide := true) (maxDischargeDepth := 20)
@[simp] theorem tillEarned (h : s.ChangesOnly t L) (v : Nat) (hl : [.money] ⊆ L) : s.ChangesOnly (t.tillEarned v) L :=
  h.after (tillEarned_op t v) hl
theorem tillOverage_op (t : State) (v : Nat) : t.ChangesOnly (t.tillOverage v) [.money] := by
  simp only [State.tillOverage]
  simp (decide := true) (maxDischargeDepth := 20)
@[simp] theorem tillOverage (h : s.ChangesOnly t L) (v : Nat) (hl : [.money] ⊆ L) : s.ChangesOnly (t.tillOverage v) L :=
  h.after (tillOverage_op t v) hl
theorem creditCash_op (t : State) (x : SessionHandle) (u : Fin 2) (k : CreditKind) (v : Nat) : t.ChangesOnly (t.creditCash x u k v) [.money, .sessions, .link, .sent] := by
  simp only [State.creditCash]
  simp (decide := true) (maxDischargeDepth := 20)
@[simp] theorem creditCash (h : s.ChangesOnly t L) (x : SessionHandle) (u : Fin 2) (k : CreditKind) (v : Nat) (hl : [.money, .sessions, .link, .sent] ⊆ L) : s.ChangesOnly (t.creditCash x u k v) L :=
  h.after (creditCash_op t x u k v) hl
theorem issueSlip_op (t : State) (x : Option SessionHandle) (v : Nat) (c : SlipCause) : t.ChangesOnly (t.issueSlip x v c) [.money, .link] := by
  simp only [State.issueSlip]
  simp (decide := true) (maxDischargeDepth := 20)
@[simp] theorem issueSlip (h : s.ChangesOnly t L) (x : Option SessionHandle) (v : Nat) (c : SlipCause) (hl : [.money, .link] ⊆ L) : s.ChangesOnly (t.issueSlip x v c) L :=
  h.after (issueSlip_op t x v c) hl
theorem makeRefund_op (t : State) (x : CardRefund) : t.ChangesOnly (t.makeRefund x) [.money, .link] := by
  simp only [State.makeRefund]
  simp (decide := true) (maxDischargeDepth := 20)
@[simp] theorem makeRefund (h : s.ChangesOnly t L) (x : CardRefund) (hl : [.money, .link] ⊆ L) : s.ChangesOnly (t.makeRefund x) L :=
  h.after (makeRefund_op t x) hl

/-! ### Sessions -/

theorem sessionNotice_op (t : State) (r : Fin 8) (c : SessionCause) (b : List Byte) : t.ChangesOnly (t.sessionNotice r c b) [.link] := by
  simp only [State.sessionNotice]
  simp (decide := true) (maxDischargeDepth := 20)
@[simp] theorem sessionNotice (h : s.ChangesOnly t L) (r : Fin 8) (c : SessionCause) (b : List Byte) (hl : [.link] ⊆ L) : s.ChangesOnly (t.sessionNotice r c b) L :=
  h.after (sessionNotice_op t r c b) hl
theorem suspendFor_op (t : State) (r : Fin 8) (c : SessionCause) (g : GateCause) : t.ChangesOnly (t.suspendFor r c g) [.sessions, .link, .money, .sent] := by
  simp only [State.suspendFor]
  split <;> simp (decide := true) (maxDischargeDepth := 20)
@[simp] theorem suspendFor (h : s.ChangesOnly t L) (r : Fin 8) (c : SessionCause) (g : GateCause) (hl : [.sessions, .link, .money, .sent] ⊆ L) : s.ChangesOnly (t.suspendFor r c g) L :=
  h.after (suspendFor_op t r c g) hl
theorem suspend_op (t : State) (r : Fin 8) : t.ChangesOnly (t.suspend r) [.sessions, .link, .money, .sent] := by
  simp only [State.suspend]
  simp (decide := true) (maxDischargeDepth := 20)
@[simp] theorem suspend (h : s.ChangesOnly t L) (r : Fin 8) (hl : [.sessions, .link, .money, .sent] ⊆ L) : s.ChangesOnly (t.suspend r) L :=
  h.after (suspend_op t r) hl
theorem raiseSession_op (t : State) (x : SessionHandle) (i : Fin 8) (d : List Byte) : t.ChangesOnly (t.raiseSession x i d) [.sessions, .link, .money, .sent, .conds] := raiseSessionWith (refl t _) _ (fun v r => (suspend_op v r).mono (by decide)) _ _ _ (by decide) (by decide)
@[simp] theorem raiseSession (h : s.ChangesOnly t L) (x : SessionHandle) (i : Fin 8) (d : List Byte) (hl : [.sessions, .link, .money, .sent, .conds] ⊆ L) : s.ChangesOnly (t.raiseSession x i d) L :=
  h.after (raiseSession_op t x i d) hl
theorem idleExpires_op (t : State) (r : Fin 8) : t.ChangesOnly (t.idleExpires r) [.sessions, .link, .money, .sent, .conds] := by
  simp only [State.idleExpires]
  split <;> simp (decide := true) (maxDischargeDepth := 20)
@[simp] theorem idleExpires (h : s.ChangesOnly t L) (r : Fin 8) (hl : [.sessions, .link, .money, .sent, .conds] ⊆ L) : s.ChangesOnly (t.idleExpires r) L :=
  h.after (idleExpires_op t r) hl
theorem goIdle_op (t : State) (r : Fin 8) (x : Option (Nat × BitVec 16)) : t.ChangesOnly (t.goIdle r x) [.sessions, .money, .conds, .link] := by
  simp only [State.goIdle]
  simp (decide := true) (maxDischargeDepth := 20)
@[simp] theorem goIdle (h : s.ChangesOnly t L) (r : Fin 8) (x : Option (Nat × BitVec 16)) (hl : [.sessions, .money, .conds, .link] ⊆ L) : s.ChangesOnly (t.goIdle r x) L :=
  h.after (goIdle_op t r x) hl
theorem slipAndIdle_op (t : State) (r : Fin 8) : t.ChangesOnly (t.slipAndIdle r) [.sessions, .money, .conds, .link] := by
  simp only [State.slipAndIdle]
  simp (decide := true) (maxDischargeDepth := 20)
@[simp] theorem slipAndIdle (h : s.ChangesOnly t L) (r : Fin 8) (hl : [.sessions, .money, .conds, .link] ⊆ L) : s.ChangesOnly (t.slipAndIdle r) L :=
  h.after (slipAndIdle_op t r) hl
theorem settle_op (t : State) (r : Fin 8) : t.ChangesOnly (t.settle r) [.sessions, .money, .conds, .link] := by
  simp only [State.settle]
  split <;> (try split) <;> simp (decide := true) (maxDischargeDepth := 20)
@[simp] theorem settle (h : s.ChangesOnly t L) (r : Fin 8) (hl : [.sessions, .money, .conds, .link] ⊆ L) : s.ChangesOnly (t.settle r) L :=
  h.after (settle_op t r) hl
theorem settleHead_op (t : State) : t.ChangesOnly (t.settleHead) [.sessions, .money, .conds, .link] := by
  simp only [State.settleHead]
  split <;> simp (decide := true) (maxDischargeDepth := 20)
@[simp] theorem settleHead (h : s.ChangesOnly t L) (hl : [.sessions, .money, .conds, .link] ⊆ L) : s.ChangesOnly (t.settleHead) L :=
  h.after (settleHead_op t) hl
theorem leaveClosing_op (t : State) (r : Fin 8) : t.ChangesOnly (t.leaveClosing r) [.sessions, .money, .conds, .link] := by
  simp only [State.leaveClosing]
  split <;> (try split) <;> simp (decide := true) (maxDischargeDepth := 20)
@[simp] theorem leaveClosing (h : s.ChangesOnly t L) (r : Fin 8) (hl : [.sessions, .money, .conds, .link] ⊆ L) : s.ChangesOnly (t.leaveClosing r) L :=
  h.after (leaveClosing_op t r) hl
theorem closingExit_op (t : State) (r : Fin 8) : t.ChangesOnly (t.closingExit r) [.sessions, .money, .conds, .link] := by
  simp only [State.closingExit]
  split <;> simp (decide := true) (maxDischargeDepth := 20)
@[simp] theorem closingExit (h : s.ChangesOnly t L) (r : Fin 8) (hl : [.sessions, .money, .conds, .link] ⊆ L) : s.ChangesOnly (t.closingExit r) L :=
  h.after (closingExit_op t r) hl
theorem closingExitOf_op (t : State) (x : Option SessionHandle) : t.ChangesOnly (t.closingExitOf x) [.sessions, .money, .conds, .link] := by
  simp only [State.closingExitOf]
  split <;> (try split) <;> simp (decide := true) (maxDischargeDepth := 20)
@[simp] theorem closingExitOf (h : s.ChangesOnly t L) (x : Option SessionHandle) (hl : [.sessions, .money, .conds, .link] ⊆ L) : s.ChangesOnly (t.closingExitOf x) L :=
  h.after (closingExitOf_op t x) hl
theorem orderLeft_op (t : State) (x : SessionHandle) (o : OrderHandle) (a b : Nat) : t.ChangesOnly (t.orderLeft x o a b) [.sessions, .money, .conds, .link] := by
  simp only [State.orderLeft]
  split <;> (try split) <;> simp (decide := true) (maxDischargeDepth := 20)
@[simp] theorem orderLeft (h : s.ChangesOnly t L) (x : SessionHandle) (o : OrderHandle) (a b : Nat) (hl : [.sessions, .money, .conds, .link] ⊆ L) : s.ChangesOnly (t.orderLeft x o a b) L :=
  h.after (orderLeft_op t x o a b) hl

/-! ### The spool -/

theorem grantSpool_op (t : State) : t.ChangesOnly (t.grantSpool) [.spool] := by
  simp only [State.grantSpool]
  simp (decide := true) (maxDischargeDepth := 20)
@[simp] theorem grantSpool (h : s.ChangesOnly t L) (hl : [.spool] ⊆ L) : s.ChangesOnly (t.grantSpool) L :=
  h.after (grantSpool_op t) hl
theorem startReader_op (t : State) (p : Fin 3) (o : OrderHandle) (l : Fin 16) : t.ChangesOnly (t.startReader p o l) [.spool] := by
  simp only [State.startReader]
  simp (decide := true) (maxDischargeDepth := 20)
@[simp] theorem startReader (h : s.ChangesOnly t L) (p : Fin 3) (o : OrderHandle) (l : Fin 16) (hl : [.spool] ⊆ L) : s.ChangesOnly (t.startReader p o l) L :=
  h.after (startReader_op t p o l) hl
theorem stopReader_op (t : State) (p : Fin 3) : t.ChangesOnly (t.stopReader p) [.spool] := by
  simp only [State.stopReader]
  simp (decide := true) (maxDischargeDepth := 20)
@[simp] theorem stopReader (h : s.ChangesOnly t L) (p : Fin 3) (hl : [.spool] ⊆ L) : s.ChangesOnly (t.stopReader p) L :=
  h.after (stopReader_op t p) hl
theorem updateRaster_op (t : State) (o : OrderHandle) (l : Fin 16) (f : Raster → Raster) : t.ChangesOnly (t.updateRaster o l f) [.spool] := by
  simp only [State.updateRaster]
  simp (decide := true) (maxDischargeDepth := 20)
@[simp] theorem updateRaster (h : s.ChangesOnly t L) (o : OrderHandle) (l : Fin 16) (f : Raster → Raster) (hl : [.spool] ⊆ L) :
    s.ChangesOnly (t.updateRaster o l f) L :=
  h.after (updateRaster_op t o l f) hl
theorem unchargeOrder_op (t : State) (o : OrderHandle) : t.ChangesOnly (t.unchargeOrder o) [.spool] := by
  simp only [State.unchargeOrder]
  simp (decide := true) (maxDischargeDepth := 20)
@[simp] theorem unchargeOrder (h : s.ChangesOnly t L) (o : OrderHandle) (hl : [.spool] ⊆ L) : s.ChangesOnly (t.unchargeOrder o) L :=
  h.after (unchargeOrder_op t o) hl
theorem evalPressure_op (t : State) : t.ChangesOnly (t.evalPressure) [.conds, .link] := by
  simp only [State.evalPressure]
  simp (decide := true) (maxDischargeDepth := 20)
@[simp] theorem evalPressure (h : s.ChangesOnly t L) (hl : [.conds, .link] ⊆ L) : s.ChangesOnly (t.evalPressure) L :=
  h.after (evalPressure_op t) hl
theorem freeRaster_op (t : State) (o : OrderHandle) (l : Fin 16) : t.ChangesOnly (t.freeRaster o l) [.spool, .link, .conds] := by
  unfold State.freeRaster
  split
  · simp
  · have h := each (refl t [.spool, .link, .conds]) (t.spool.writes.filter (fun w => w.isOf o l))
      (fun t w => t.refuse w.tag .noRaster) (fun v w => by simp (decide := true))
    simp (decide := true) (maxDischargeDepth := 20) [h]
@[simp] theorem freeRaster (h : s.ChangesOnly t L) (o : OrderHandle) (l : Fin 16) (hl : [.spool, .link, .conds] ⊆ L) : s.ChangesOnly (t.freeRaster o l) L :=
  h.after (freeRaster_op t o l) hl

/-! ### The catalogue -/

theorem refRises_op (t : State) (x : CatHandle) : t.ChangesOnly (t.refRises x) [.catalogue] := by
  simp only [State.refRises]
  simp (decide := true) (maxDischargeDepth := 20)
@[simp] theorem refRises (h : s.ChangesOnly t L) (x : CatHandle) (hl : [.catalogue] ⊆ L) : s.ChangesOnly (t.refRises x) L :=
  h.after (refRises_op t x) hl
theorem refFalls_op (t : State) (x : CatHandle) : t.ChangesOnly (t.refFalls x) [.catalogue] := by
  simp only [State.refFalls]
  simp (decide := true) (maxDischargeDepth := 20)
@[simp] theorem refFalls (h : s.ChangesOnly t L) (x : CatHandle) (hl : [.catalogue] ⊆ L) : s.ChangesOnly (t.refFalls x) L :=
  h.after (refFalls_op t x) hl
theorem refuseImage_op (t : State) (g : Byte) (x : SessionHandle) (p : List Byte) (k : Nat) (e : Status) : t.ChangesOnly (t.refuseImage g x p k e) [.sessions, .link, .money, .sent, .conds] := by
  simp only [State.refuseImage]
  split <;> simp (decide := true) (maxDischargeDepth := 20)
@[simp] theorem refuseImage (h : s.ChangesOnly t L) (g : Byte) (x : SessionHandle) (p : List Byte) (k : Nat) (e : Status) (hl : [.sessions, .link, .money, .sent, .conds] ⊆ L) : s.ChangesOnly (t.refuseImage g x p k e) L :=
  h.after (refuseImage_op t g x p k e) hl

/-! ### Orders -/

theorem setLineRaster_op (t : State) (x : OrderHandle) (k : Fin 16) (r : RasterState) : t.ChangesOnly (t.setLineRaster x k r) [.orders] := by
  simp only [State.setLineRaster]
  split <;> (try split) <;> simp (decide := true) (maxDischargeDepth := 20)
@[simp] theorem setLineRaster (h : s.ChangesOnly t L) (x : OrderHandle) (k : Fin 16) (r : RasterState) (hl : [.orders] ⊆ L) : s.ChangesOnly (t.setLineRaster x k r) L :=
  h.after (setLineRaster_op t x k r) hl
theorem orderNotice_op (t : State) (x : OrderHandle) (y : SessionHandle) (n : Nat) (c : OrderCause) (b : List Byte) : t.ChangesOnly (t.orderNotice x y n c b) [.link] := by
  simp only [State.orderNotice]
  simp (decide := true) (maxDischargeDepth := 20)
@[simp] theorem orderNotice (h : s.ChangesOnly t L) (x : OrderHandle) (y : SessionHandle) (n : Nat) (c : OrderCause) (b : List Byte) (hl : [.link] ⊆ L) : s.ChangesOnly (t.orderNotice x y n c b) L :=
  h.after (orderNotice_op t x y n c b) hl
theorem clearUncommitted_op (t : State) (x : SessionHandle) (o : OrderHandle) : t.ChangesOnly (t.clearUncommitted x o) [.sessions] := by
  simp only [State.clearUncommitted]
  split <;> simp (decide := true) (maxDischargeDepth := 20)
@[simp] theorem clearUncommitted (h : s.ChangesOnly t L) (x : SessionHandle) (o : OrderHandle) (hl : [.sessions] ⊆ L) :
    s.ChangesOnly (t.clearUncommitted x o) L :=
  h.after (clearUncommitted_op t x o) hl
theorem cancelOrder_op (t : State) (x : OrderHandle) (o : Order) : t.ChangesOnly (t.cancelOrder x o) [.spool, .link, .conds, .catalogue, .sessions, .orders] := by
  simp only [State.cancelOrder]
  have h := each (each (refl t [.spool, .link, .conds, .catalogue, .sessions, .orders]) o.used
    (fun t y => t.freeRaster x y.1) (fun v a => by simp (decide := true))) o.used (fun t x => t.refFalls x.2.image)
    (fun v a => by simp (decide := true))
  simp (decide := true) (maxDischargeDepth := 20) [h]
@[simp] theorem cancelOrder (h : s.ChangesOnly t L) (x : OrderHandle) (o : Order) (hl : [.spool, .link, .conds, .catalogue, .sessions, .orders] ⊆ L) : s.ChangesOnly (t.cancelOrder x o) L :=
  h.after (cancelOrder_op t x o) hl
theorem handTerminal_op (t : State) : t.ChangesOnly (t.handTerminal) [.money, .sent] := by
  simp only [State.handTerminal]
  split <;> simp (decide := true) (maxDischargeDepth := 20)
@[simp] theorem handTerminal (h : s.ChangesOnly t L) (hl : [.money, .sent] ⊆ L) : s.ChangesOnly (t.handTerminal) L :=
  h.after (handTerminal_op t) hl
theorem terminalIdle_op (t : State) : t.ChangesOnly (t.terminalIdle) [.money, .sent] := by
  simp only [State.terminalIdle]
  simp (decide := true) (maxDischargeDepth := 20)
@[simp] theorem terminalIdle (h : s.ChangesOnly t L) (hl : [.money, .sent] ⊆ L) : s.ChangesOnly (t.terminalIdle) L :=
  h.after (terminalIdle_op t) hl
theorem endUnapproved_op (t : State) (a : Auth) (c : OrderCause) : t.ChangesOnly (t.endUnapproved a c) [.money, .sent, .sessions, .spool, .link, .conds, .catalogue, .orders] := by
  simp only [State.endUnapproved]
  split <;> (try split) <;> simp (decide := true) (maxDischargeDepth := 20)
@[simp] theorem endUnapproved (h : s.ChangesOnly t L) (a : Auth) (c : OrderCause) (hl : [.money, .sent, .sessions, .spool, .link, .conds, .catalogue, .orders] ⊆ L) : s.ChangesOnly (t.endUnapproved a c) L :=
  h.after (endUnapproved_op t a c) hl
theorem setLastEnded_op (t : State) (a : Auth) : t.ChangesOnly (t.setLastEnded a) [.money] := by
  simp only [State.setLastEnded]
  simp (decide := true) (maxDischargeDepth := 20)
@[simp] theorem setLastEnded (h : s.ChangesOnly t L) (a : Auth) (hl : [.money] ⊆ L) : s.ChangesOnly (t.setLastEnded a) L :=
  h.after (setLastEnded_op t a) hl
theorem endWithCondition_op (t : State) (a : Auth) (c : OrderCause) (i : Fin 8) : t.ChangesOnly (t.endWithCondition a c i) [.money, .sent, .sessions, .spool, .link, .conds, .catalogue, .orders] := by
  simp only [State.endWithCondition]
  split <;> simp (decide := true) (maxDischargeDepth := 20)
@[simp] theorem endWithCondition (h : s.ChangesOnly t L) (a : Auth) (c : OrderCause) (i : Fin 8) (hl : [.money, .sent, .sessions, .spool, .link, .conds, .catalogue, .orders] ⊆ L) : s.ChangesOnly (t.endWithCondition a c i) L :=
  h.after (endWithCondition_op t a c i) hl
theorem cancelAuth_op (t : State) (x : OrderHandle) : t.ChangesOnly (t.cancelAuth x) [.money, .sent, .sessions, .spool, .link, .conds, .catalogue, .orders] := by
  simp only [State.cancelAuth]
  split <;> (try split) <;> (try split) <;> simp (decide := true) (maxDischargeDepth := 20)
@[simp] theorem cancelAuth (h : s.ChangesOnly t L) (x : OrderHandle) (hl : [.money, .sent, .sessions, .spool, .link, .conds, .catalogue, .orders] ⊆ L) : s.ChangesOnly (t.cancelAuth x) L :=
  h.after (cancelAuth_op t x) hl
theorem copyNotice_op (t : State) (x : OrderHandle) (y : SessionHandle) (k : Fin 16) (a b c d : Nat) (e : Counters) (f : List Byte) : t.ChangesOnly (t.copyNotice x y k a b c d e f) [.link] := by
  simp only [State.copyNotice]
  simp (decide := true) (maxDischargeDepth := 20)
@[simp] theorem copyNotice (h : s.ChangesOnly t L) (x : OrderHandle) (y : SessionHandle) (k : Fin 16) (a b c d : Nat) (e : Counters) (f : List Byte) (hl : [.link] ⊆ L) : s.ChangesOnly (t.copyNotice x y k a b c d e f) L :=
  h.after (copyNotice_op t x y k a b c d e f) hl
theorem refundCopies (h : s.ChangesOnly t L) (x : OrderHandle) (o : Order) (b : Nat)
    (hl : [.orders, .money, .sent, .link] ⊆ L) : s.ChangesOnly (t.refundCopies x o b).1 L := by
  refine after h ?_ hl
  unfold State.refundCopies
  dsimp only
  split <;> simp (decide := true) (maxDischargeDepth := 20)
theorem finishOrder_op (t : State) (x : OrderHandle) (o : Order) : t.ChangesOnly (t.finishOrder x o) [.money, .link, .sessions, .conds, .orders] := by
  simp only [State.finishOrder]
  simp (decide := true) (maxDischargeDepth := 20)
@[simp] theorem finishOrder (h : s.ChangesOnly t L) (x : OrderHandle) (o : Order) (hl : [.money, .link, .sessions, .conds, .orders] ⊆ L) : s.ChangesOnly (t.finishOrder x o) L :=
  h.after (finishOrder_op t x o) hl
theorem finishLine_op (t : State) (x : OrderHandle) (k : Fin 16) : t.ChangesOnly (t.finishLine x k) [.prints, .spool, .link, .conds, .orders] := by
  simp only [State.finishLine]
  simp (decide := true) (maxDischargeDepth := 20)
@[simp] theorem finishLine (h : s.ChangesOnly t L) (x : OrderHandle) (k : Fin 16) (hl : [.prints, .spool, .link, .conds, .orders] ⊆ L) : s.ChangesOnly (t.finishLine x k) L :=
  h.after (finishLine_op t x k) hl
theorem settleLines_op (t : State) (x : OrderHandle) (ks : List (Fin 16)) : t.ChangesOnly (t.settleLines x ks) [.prints, .spool, .link, .conds, .orders, .money, .sessions] := by
  simp only [State.settleLines]
  have h := each (refl t [.prints, .spool, .link, .conds, .orders, .money, .sessions]) ks (fun t k =>
    match (t.order? x).bind (fun o => o.lines.get k) with
    | some l => if l.final then t.finishLine x k else t
    | none => t) (fun v a => by split <;> (try split) <;> simp (decide := true))
  split
  · split
    · exact h.finishOrder _ _ (by decide)
    · exact h
  · exact h
@[simp] theorem settleLines (h : s.ChangesOnly t L) (x : OrderHandle) (ks : List (Fin 16)) (hl : [.prints, .spool, .link, .conds, .orders, .money, .sessions] ⊆ L) : s.ChangesOnly (t.settleLines x ks) L :=
  h.after (settleLines_op t x ks) hl

/-! ### Conditions that reach other blocks -/

theorem lockout_op (t : State) : t.ChangesOnly (t.lockout) [.conds, .sessions, .link, .money, .sent, .spool, .catalogue, .orders] := by
  simp only [State.lockout]
  refine each ?_ _ _ (fun v a => by simp (decide := true))
  refine setTerminal (closeGates (each ?_ _ _ (fun v a => by simp (decide := true))) _ (by decide)) _ (by decide)
  simp (decide := true)
@[simp] theorem lockout (h : s.ChangesOnly t L) (hl : [.conds, .sessions, .link, .money, .sent, .spool, .catalogue, .orders] ⊆ L) : s.ChangesOnly (t.lockout) L :=
  h.after (lockout_op t) hl
theorem raiseKiosk_op (t : State) (i : Fin 16) (d : List Byte) : t.ChangesOnly (t.raiseKiosk i d) [.conds, .sessions, .link, .money, .sent, .spool, .catalogue, .orders] := raiseKioskWith (refl t _) _ lockout_op i d (by decide) (by decide)
@[simp] theorem raiseKiosk (h : s.ChangesOnly t L) (i : Fin 16) (d : List Byte) (hl : [.conds, .sessions, .link, .money, .sent, .spool, .catalogue, .orders] ⊆ L) : s.ChangesOnly (t.raiseKiosk i d) L :=
  h.after (raiseKiosk_op t i d) hl
theorem reportLevel_op (t : State) (i : Fin 16) (b : Bool) : t.ChangesOnly (t.reportLevel i b) [.conds, .sessions, .link, .money, .sent, .spool, .catalogue, .orders] := reportLevelWith (refl t _) _ lockout_op i b (by decide) (by decide)
@[simp] theorem reportLevel (h : s.ChangesOnly t L) (i : Fin 16) (b : Bool) (hl : [.conds, .sessions, .link, .money, .sent, .spool, .catalogue, .orders] ⊆ L) : s.ChangesOnly (t.reportLevel i b) L :=
  h.after (reportLevel_op t i b) hl
theorem resolveSets_op (t : State) (g : Trigger) : t.ChangesOnly (t.resolveSets g) [.conds, .sessions, .link, .money, .sent, .spool, .catalogue, .orders] := resolveAll (refl t _) _ lockout_op _ (fun v r => (suspend_op v r).mono (by decide)) g (by decide) (by decide)
@[simp] theorem resolveSets (h : s.ChangesOnly t L) (g : Trigger) (hl : [.conds, .sessions, .link, .money, .sent, .spool, .catalogue, .orders] ⊆ L) : s.ChangesOnly (t.resolveSets g) L :=
  h.after (resolveSets_op t g) hl
theorem challengeError_op (t : State) : t.ChangesOnly (t.challengeError) [.conds, .sessions, .link, .money, .sent, .spool, .catalogue, .orders] := by
  simp only [State.challengeError]
  split <;> simp (decide := true) (maxDischargeDepth := 20)
@[simp] theorem challengeError (h : s.ChangesOnly t L) (hl : [.conds, .sessions, .link, .money, .sent, .spool, .catalogue, .orders] ⊆ L) : s.ChangesOnly (t.challengeError) L :=
  h.after (challengeError_op t) hl
theorem evalBox_op (t : State) (u : Fin 2) : t.ChangesOnly (t.evalBox u) [.conds, .link] := by
  simp only [State.evalBox]
  simp (decide := true) (maxDischargeDepth := 20)
@[simp] theorem evalBox (h : s.ChangesOnly t L) (u : Fin 2) (hl : [.conds, .link] ⊆ L) : s.ChangesOnly (t.evalBox u) L :=
  h.after (evalBox_op t u) hl
theorem wakeCause_op (t : State) (c : WakeCause) : t.ChangesOnly (t.wakeCause c) [.power, .link] := by
  simp only [State.wakeCause]
  split <;> simp (decide := true) (maxDischargeDepth := 20)
@[simp] theorem wakeCause (h : s.ChangesOnly t L) (c : WakeCause) (hl : [.power, .link] ⊆ L) : s.ChangesOnly (t.wakeCause c) L :=
  h.after (wakeCause_op t c) hl

/-! ### Printers -/

theorem evalPrints_op (t : State) : t.ChangesOnly (t.evalPrints) [.conds, .sessions, .link, .money, .sent, .spool, .catalogue, .orders] := by
  simp only [State.evalPrints]
  simp (decide := true) (maxDischargeDepth := 20)
@[simp] theorem evalPrints (h : s.ChangesOnly t L) (hl : [.conds, .sessions, .link, .money, .sent, .spool, .catalogue, .orders] ⊆ L) : s.ChangesOnly (t.evalPrints) L :=
  h.after (evalPrints_op t) hl
theorem handOut_op (t : State) (p : Fin 3) (x : Task) (o : Order) (l : Line) : t.ChangesOnly (t.handOut p x o l) [.prints, .orders, .sent, .spool] := by
  simp only [State.handOut]
  simp (decide := true) (maxDischargeDepth := 20)
@[simp] theorem handOut (h : s.ChangesOnly t L) (p : Fin 3) (x : Task) (o : Order) (l : Line) (hl : [.prints, .orders, .sent, .spool] ⊆ L) : s.ChangesOnly (t.handOut p x o l) L :=
  h.after (handOut_op t p x o l) hl
theorem portTake_op (t : State) (p : Fin 3) : t.ChangesOnly (t.portTake p) [.prints, .orders, .sent, .spool] := by
  simp only [State.portTake]
  split <;> (try split) <;> (try split) <;> simp (decide := true) (maxDischargeDepth := 20)
@[simp] theorem portTake (h : s.ChangesOnly t L) (p : Fin 3) (hl : [.prints, .orders, .sent, .spool] ⊆ L) : s.ChangesOnly (t.portTake p) L :=
  h.after (portTake_op t p) hl
theorem takeAll_op (t : State) : t.ChangesOnly (t.takeAll) [.prints, .orders, .sent, .spool] := by
  simp only [State.takeAll]
  simp (decide := true) (maxDischargeDepth := 20)
@[simp] theorem takeAll (h : s.ChangesOnly t L) (hl : [.prints, .orders, .sent, .spool] ⊆ L) : s.ChangesOnly (t.takeAll) L :=
  h.after (takeAll_op t) hl
theorem takeOnEntry_op (t : State) (p : Fin 3) : t.ChangesOnly (t.takeOnEntry p) [.prints, .orders, .sent, .spool] := by
  simp only [State.takeOnEntry]
  split <;> simp (decide := true) (maxDischargeDepth := 20)
@[simp] theorem takeOnEntry (h : s.ChangesOnly t L) (p : Fin 3) (hl : [.prints, .orders, .sent, .spool] ⊆ L) : s.ChangesOnly (t.takeOnEntry p) L :=
  h.after (takeOnEntry_op t p) hl
theorem printerNotice_op (t : State) (p : Fin 3) (c : PrinterCause) : t.ChangesOnly (t.printerNotice p c) [.link] := by
  simp only [State.printerNotice]
  simp (decide := true) (maxDischargeDepth := 20)
@[simp] theorem printerNotice (h : s.ChangesOnly t L) (p : Fin 3) (c : PrinterCause) (hl : [.link] ⊆ L) : s.ChangesOnly (t.printerNotice p c) L :=
  h.after (printerNotice_op t p c) hl
theorem movePort_op (t : State) (p : Fin 3) (x : PortState) (f : Option Reason) (c : PrinterCause) : t.ChangesOnly (t.movePort p x f c) [.prints, .link] := by
  simp only [State.movePort]
  simp (decide := true) (maxDischargeDepth := 20)
@[simp] theorem movePort (h : s.ChangesOnly t L) (p : Fin 3) (x : PortState) (f : Option Reason) (c : PrinterCause) (hl : [.prints, .link] ⊆ L) : s.ChangesOnly (t.movePort p x f c) L :=
  h.after (movePort_op t p x f c) hl
theorem copyDelivered_op (t : State) (p : Fin 3) (a : Attempt) : t.ChangesOnly (t.copyDelivered p a) [.prints, .orders, .sent, .spool, .link, .conds, .money, .sessions] := by
  simp only [State.copyDelivered]
  split <;> (try split) <;> simp (decide := true) (maxDischargeDepth := 20)
@[simp] theorem copyDelivered (h : s.ChangesOnly t L) (p : Fin 3) (a : Attempt) (hl : [.prints, .orders, .sent, .spool, .link, .conds, .money, .sessions] ⊆ L) : s.ChangesOnly (t.copyDelivered p a) L :=
  h.after (copyDelivered_op t p a) hl
theorem copyFailed_op (t : State) (p : Fin 3) (a : Attempt) (r : Reason) : t.ChangesOnly (t.copyFailed p a r) [.prints, .orders, .sent, .spool, .link, .conds, .money, .sessions] := by
  simp only [State.copyFailed]
  split
  · simp
  · split
    · simp
    · split
      · simp (decide := true) (maxDischargeDepth := 20)
      · have h := fun o1 b => refundCopies (refl t [.prints, .orders, .sent, .spool, .link, .conds, .money, .sessions]) a.order o1 b (by decide)
        simp (decide := true) (maxDischargeDepth := 20) [h]
@[simp] theorem copyFailed (h : s.ChangesOnly t L) (p : Fin 3) (a : Attempt) (r : Reason) (hl : [.prints, .orders, .sent, .spool, .link, .conds, .money, .sessions] ⊆ L) : s.ChangesOnly (t.copyFailed p a r) L :=
  h.after (copyFailed_op t p a r) hl
theorem failAttempt_op (t : State) (p : Fin 3) (a : Attempt) (b : Bool) (r : Reason) : t.ChangesOnly (t.failAttempt p a b r) [.prints, .orders, .sent, .spool, .link, .conds, .money, .sessions] := by
  simp only [State.failAttempt]
  split <;> simp (decide := true) (maxDischargeDepth := 20)
@[simp] theorem failAttempt (h : s.ChangesOnly t L) (p : Fin 3) (a : Attempt) (b : Bool) (r : Reason) (hl : [.prints, .orders, .sent, .spool, .link, .conds, .money, .sessions] ⊆ L) : s.ChangesOnly (t.failAttempt p a b r) L :=
  h.after (failAttempt_op t p a b r) hl
theorem attemptFails_op (t : State) (p : Fin 3) (r : Reason) : t.ChangesOnly (t.attemptFails p r) [.prints, .orders, .sent, .spool, .link, .conds, .money, .sessions, .catalogue] := by
  simp only [State.attemptFails]
  split <;> (try split) <;> simp (decide := true) (maxDischargeDepth := 20)
@[simp] theorem attemptFails (h : s.ChangesOnly t L) (p : Fin 3) (r : Reason) (hl : [.prints, .orders, .sent, .spool, .link, .conds, .money, .sessions, .catalogue] ⊆ L) : s.ChangesOnly (t.attemptFails p r) L :=
  h.after (attemptFails_op t p r) hl
theorem goOffline_op (t : State) (p : Fin 3) (c : PrinterCause) : t.ChangesOnly (t.goOffline p c) [.prints, .orders, .sent, .spool, .link, .conds, .money, .sessions, .catalogue] := by
  simp only [State.goOffline]
  split <;> (try split) <;> simp (decide := true) (maxDischargeDepth := 20)
@[simp] theorem goOffline (h : s.ChangesOnly t L) (p : Fin 3) (c : PrinterCause) (hl : [.prints, .orders, .sent, .spool, .link, .conds, .money, .sessions, .catalogue] ⊆ L) : s.ChangesOnly (t.goOffline p c) L :=
  h.after (goOffline_op t p c) hl
theorem commitOrder_op (t : State) (x : OrderHandle) (o : Order) (n : Nat) : t.ChangesOnly (t.commitOrder x o n) [.orders, .catalogue, .spool, .sessions, .prints] := by
  simp only [State.commitOrder]
  have h := each (setOrder (refl t [.orders, .catalogue, .spool, .sessions, .prints]) x.record (o.committed n) (by decide))
    o.used (fun t x => t.refFalls x.2.image) (fun v a => by simp (decide := true))
  split <;> simp (decide := true) (maxDischargeDepth := 20) [h]
@[simp] theorem commitOrder (h : s.ChangesOnly t L) (x : OrderHandle) (o : Order) (n : Nat) (hl : [.orders, .catalogue, .spool, .sessions, .prints] ⊆ L) : s.ChangesOnly (t.commitOrder x o n) L :=
  h.after (commitOrder_op t x o n) hl
theorem tasksJoined_op (t : State) : t.ChangesOnly (t.tasksJoined) [.prints, .orders, .sent, .spool, .link, .conds, .money, .sessions, .catalogue] := by
  simp only [State.tasksJoined]
  simp (decide := true) (maxDischargeDepth := 20)
@[simp] theorem tasksJoined (h : s.ChangesOnly t L) (hl : [.prints, .orders, .sent, .spool, .link, .conds, .money, .sessions, .catalogue] ⊆ L) : s.ChangesOnly (t.tasksJoined) L :=
  h.after (tasksJoined_op t) hl

/-! ### Slots -/

theorem slotNotice_op (t : State) (n : Fin 4) (c : SlotCause) : t.ChangesOnly (t.slotNotice n c) [.link] := by
  simp only [State.slotNotice]
  simp (decide := true) (maxDischargeDepth := 20)
@[simp] theorem slotNotice (h : s.ChangesOnly t L) (n : Fin 4) (c : SlotCause) (hl : [.link] ⊆ L) : s.ChangesOnly (t.slotNotice n c) L :=
  h.after (slotNotice_op t n c) hl
theorem scanNotice_op (t : State) (n : Fin 4) (c : ScanOutcome) : t.ChangesOnly (t.scanNotice n c) [.link] := by
  simp only [State.scanNotice]
  simp (decide := true) (maxDischargeDepth := 20)
@[simp] theorem scanNotice (h : s.ChangesOnly t L) (n : Fin 4) (c : ScanOutcome) (hl : [.link] ⊆ L) : s.ChangesOnly (t.scanNotice n c) L :=
  h.after (scanNotice_op t n c) hl
theorem issue_op (t : State) (n : Fin 4) (c : CardCommand) : t.ChangesOnly (t.issue n c) [.slots, .sent] := by
  simp only [State.issue]
  simp (decide := true) (maxDischargeDepth := 20)
@[simp] theorem issue (h : s.ChangesOnly t L) (n : Fin 4) (c : CardCommand) (hl : [.slots, .sent] ⊆ L) : s.ChangesOnly (t.issue n c) L :=
  h.after (issue_op t n c) hl
theorem busOutcome_op (t : State) (n : Fin 4) : t.ChangesOnly (t.busOutcome n) [.slots] := by
  simp only [State.busOutcome]
  simp (decide := true) (maxDischargeDepth := 20)
@[simp] theorem busOutcome (h : s.ChangesOnly t L) (n : Fin 4) (hl : [.slots] ⊆ L) : s.ChangesOnly (t.busOutcome n) L :=
  h.after (busOutcome_op t n) hl
theorem serveNext_op (t : State) (n : Fin 4) : t.ChangesOnly (t.serveNext n) [.slots, .sent] := by
  simp only [State.serveNext]
  split <;> (try split) <;> (try split) <;> simp (decide := true) (maxDischargeDepth := 20)
@[simp] theorem serveNext (h : s.ChangesOnly t L) (n : Fin 4) (hl : [.slots, .sent] ⊆ L) : s.ChangesOnly (t.serveNext n) L :=
  h.after (serveNext_op t n) hl
theorem bindSlot_op (t : State) (n : Fin 4) (x : SessionHandle) (c : SlotCause) : t.ChangesOnly (t.bindSlot n x c) [.slots, .sent, .catalogue, .link] := by
  simp only [State.bindSlot]
  simp (decide := true) (maxDischargeDepth := 20)
@[simp] theorem bindSlot (h : s.ChangesOnly t L) (n : Fin 4) (x : SessionHandle) (c : SlotCause) (hl : [.slots, .sent, .catalogue, .link] ⊆ L) : s.ChangesOnly (t.bindSlot n x c) L :=
  h.after (bindSlot_op t n x c) hl
theorem insertionConfirmed_op (t : State) (n : Fin 4) : t.ChangesOnly (t.insertionConfirmed n) [.slots, .sent, .link, .power] := by
  simp only [State.insertionConfirmed]
  simp (decide := true) (maxDischargeDepth := 20)
@[simp] theorem insertionConfirmed (h : s.ChangesOnly t L) (n : Fin 4) (hl : [.slots, .sent, .link, .power] ⊆ L) : s.ChangesOnly (t.insertionConfirmed n) L :=
  h.after (insertionConfirmed_op t n) hl
theorem removalConfirmed_op (t : State) (n : Fin 4) : t.ChangesOnly (t.removalConfirmed n) [.slots, .link, .catalogue] := by
  simp only [State.removalConfirmed]
  have h := each (refl t [.slots, .link, .catalogue]) (t.slot n).reads (fun t r => t.refuse r.tag .mediaGone)
    (fun v a => by simp (decide := true))
  split <;> split <;> simp (decide := true) (maxDischargeDepth := 20) [h]
@[simp] theorem removalConfirmed (h : s.ChangesOnly t L) (n : Fin 4) (hl : [.slots, .link, .catalogue] ⊆ L) : s.ChangesOnly (t.removalConfirmed n) L :=
  h.after (removalConfirmed_op t n) hl
theorem slotReading_op (t : State) (n : Fin 4) (b : Bool) (k : Nat) : t.ChangesOnly (t.slotReading n b k) [.slots, .sent, .link, .power, .catalogue] := by
  simp only [State.slotReading]
  split <;> (try split) <;> (try split) <;> simp (decide := true) (maxDischargeDepth := 20)
@[simp] theorem slotReading (h : s.ChangesOnly t L) (n : Fin 4) (b : Bool) (k : Nat) (hl : [.slots, .sent, .link, .power, .catalogue] ⊆ L) : s.ChangesOnly (t.slotReading n b k) L :=
  h.after (slotReading_op t n b k) hl
theorem busReading_op (t : State) (n : Fin 4) (b : Bool) : t.ChangesOnly (t.busReading n b) [.slots, .sent, .link, .power, .catalogue] := by
  simp only [State.busReading]
  split <;> simp (decide := true) (maxDischargeDepth := 20)
@[simp] theorem busReading (h : s.ChangesOnly t L) (n : Fin 4) (b : Bool) (hl : [.slots, .sent, .link, .power, .catalogue] ⊆ L) : s.ChangesOnly (t.busReading n b) L :=
  h.after (busReading_op t n b) hl
theorem unreadable_op (t : State) (n : Fin 4) : t.ChangesOnly (t.unreadable n) [.slots, .link] := by
  simp only [State.unreadable]
  simp (decide := true) (maxDischargeDepth := 20)
@[simp] theorem unreadable (h : s.ChangesOnly t L) (n : Fin 4) (hl : [.slots, .link] ⊆ L) : s.ChangesOnly (t.unreadable n) L :=
  h.after (unreadable_op t n) hl
theorem identified_op (t : State) (n : Fin 4) (g : Grade) (k : Nat) : t.ChangesOnly (t.identified n g k) [.slots, .sent, .catalogue, .link] := by
  simp only [State.identified]
  split <;> (try split) <;> simp (decide := true) (maxDischargeDepth := 20)
@[simp] theorem identified (h : s.ChangesOnly t L) (n : Fin 4) (g : Grade) (k : Nat) (hl : [.slots, .sent, .catalogue, .link] ⊆ L) : s.ChangesOnly (t.identified n g k) L :=
  h.after (identified_op t n g k) hl
theorem endScan_op (t : State) (n : Fin 4) (c : ScanOutcome) : t.ChangesOnly (t.endScan n c) [.slots, .link, .sessions, .money, .sent, .conds] := by
  simp only [State.endScan]
  split <;> (try split) <;> simp (decide := true) (maxDischargeDepth := 20)
@[simp] theorem endScan (h : s.ChangesOnly t L) (n : Fin 4) (c : ScanOutcome) (hl : [.slots, .link, .sessions, .money, .sent, .conds] ⊆ L) : s.ChangesOnly (t.endScan n c) L :=
  h.after (endScan_op t n c) hl
theorem finishStep_op (t : State) (n : Fin 4) (b : Bool) : t.ChangesOnly (t.finishStep n b) [.slots, .link, .sessions, .money, .sent, .conds] := by
  simp only [State.finishStep]
  split <;> (try split) <;> simp (decide := true) (maxDischargeDepth := 20)
@[simp] theorem finishStep (h : s.ChangesOnly t L) (n : Fin 4) (b : Bool) (hl : [.slots, .link, .sessions, .money, .sent, .conds] ⊆ L) : s.ChangesOnly (t.finishStep n b) L :=
  h.after (finishStep_op t n b) hl
theorem countScan_op (t : State) (n : Fin 4) (f : Scan → Scan) : t.ChangesOnly (t.countScan n f) [.slots] := by
  simp only [State.countScan]
  simp (decide := true) (maxDischargeDepth := 20)
@[simp] theorem countScan (h : s.ChangesOnly t L) (n : Fin 4) (f : Scan → Scan) (hl : [.slots] ⊆ L) : s.ChangesOnly (t.countScan n f) L :=
  h.after (countScan_op t n f) hl
theorem nextBlock_op (t : State) (n : Fin 4) (x : Serving) : t.ChangesOnly (t.nextBlock n x) [.slots, .sent] := by
  simp only [State.nextBlock]
  simp (decide := true) (maxDischargeDepth := 20)
@[simp] theorem nextBlock (h : s.ChangesOnly t L) (n : Fin 4) (x : Serving) (hl : [.slots, .sent] ⊆ L) : s.ChangesOnly (t.nextBlock n x) L :=
  h.after (nextBlock_op t n x) hl
theorem fileFound_op (t : State) (n : Fin 4) (f : FileRecord) : t.ChangesOnly (t.fileFound n f) [.slots, .link, .sessions, .money, .sent, .conds] := by
  simp only [State.fileFound]
  split <;> (try split) <;> simp (decide := true) (maxDischargeDepth := 20)
@[simp] theorem fileFound (h : s.ChangesOnly t L) (n : Fin 4) (f : FileRecord) (hl : [.slots, .link, .sessions, .money, .sent, .conds] ⊆ L) : s.ChangesOnly (t.fileFound n f) L :=
  h.after (fileFound_op t n f) hl
theorem handOff_op (t : State) (n : Fin 4) (f : FileRecord) (x : HeaderFields) : t.ChangesOnly (t.handOff n f x) [.slots, .catalogue] := by
  simp only [State.handOff]
  split <;> simp (decide := true) (maxDischargeDepth := 20)
@[simp] theorem handOff (h : s.ChangesOnly t L) (n : Fin 4) (f : FileRecord) (x : HeaderFields) (hl : [.slots, .catalogue] ⊆ L) : s.ChangesOnly (t.handOff n f x) L :=
  h.after (handOff_op t n f x) hl
theorem readEnds (h : s.ChangesOnly t L) (n : Fin 4) (p : Read → Status × List Byte) (a : State → State)
    (ha : ∀ v : State, v.ChangesOnly (a v) L) (hl : [.slots, .link, .sent] ⊆ L) : s.ChangesOnly (t.readEnds n p a) L := by
  have h1 : Block.slots ∈ L := hl (by decide)
  have h2 : Block.link ∈ L := hl (by decide)
  have h3 : Block.sent ∈ L := hl (by decide)
  simp only [State.readEnds]; split
  · exact h
  · exact serveNext (trans (replyWith (setSlot h _ _ (by simpa using h1)) _ _ _ (by simpa using h2)) (ha _)) _ (by simp [h1, h3])
theorem mediaFault_op (t : State) (n : Fin 4) : t.ChangesOnly (t.mediaFault n) [.slots, .link, .sessions, .money, .sent, .conds] := by
  simp only [State.mediaFault]
  refine raiseKioskQuiet (slotNotice (setSlot (each ?_ _ _ (fun v a => by simp (decide := true))) _ _ (by decide)) _ _ (by decide)) _ _ (by decide)
  split <;> split <;> (try split) <;> simp (decide := true) (maxDischargeDepth := 20)
@[simp] theorem mediaFault (h : s.ChangesOnly t L) (n : Fin 4) (hl : [.slots, .link, .sessions, .money, .sent, .conds] ⊆ L) : s.ChangesOnly (t.mediaFault n) L :=
  h.after (mediaFault_op t n) hl
theorem blockFailed_op (t : State) (n : Fin 4) : t.ChangesOnly (t.blockFailed n) [.slots, .link, .sessions, .money, .sent, .conds] := by
  simp only [State.blockFailed]
  split <;> (try split) <;> simp (decide := true) (maxDischargeDepth := 20)
@[simp] theorem blockFailed (h : s.ChangesOnly t L) (n : Fin 4) (hl : [.slots, .link, .sessions, .money, .sent, .conds] ⊆ L) : s.ChangesOnly (t.blockFailed n) L :=
  h.after (blockFailed_op t n) hl
theorem blockGood_op (t : State) (n : Fin 4) : t.ChangesOnly (t.blockGood n) [.slots] := by
  simp only [State.blockGood]
  simp (decide := true) (maxDischargeDepth := 20)
@[simp] theorem blockGood (h : s.ChangesOnly t L) (n : Fin 4) (hl : [.slots] ⊆ L) : s.ChangesOnly (t.blockGood n) L :=
  h.after (blockGood_op t n) hl
theorem goodBlock_op (t : State) (n : Fin 4) (c : BlockContent) : t.ChangesOnly (t.goodBlock n c) [.slots, .link, .sessions, .money, .sent, .conds, .catalogue] := by
  simp only [State.goodBlock]
  split
  · split
    · exact readEnds (refl t _) _ _ _ (fun v => refl v _) (by decide)
    · simp (decide := true)
  · simp (decide := true)
  · simp (decide := true)
  · split <;> simp (decide := true)
  · simp (decide := true)
  · simp
@[simp] theorem goodBlock (h : s.ChangesOnly t L) (n : Fin 4) (c : BlockContent) (hl : [.slots, .link, .sessions, .money, .sent, .conds, .catalogue] ⊆ L) : s.ChangesOnly (t.goodBlock n c) L :=
  h.after (goodBlock_op t n c) hl
theorem failedBlock_op (t : State) (n : Fin 4) : t.ChangesOnly (t.failedBlock n) [.slots, .link, .sessions, .money, .sent, .conds, .catalogue] := by
  simp only [State.failedBlock]
  split
  · exact readEnds (refl t _) _ _ _ (fun v => (blockFailed_op v n).mono (by decide)) (by decide)
  · split <;> simp (decide := true) (maxDischargeDepth := 20)
  · split <;> simp (decide := true) (maxDischargeDepth := 20)
  · simp
@[simp] theorem failedBlock (h : s.ChangesOnly t L) (n : Fin 4) (hl : [.slots, .link, .sessions, .money, .sent, .conds, .catalogue] ⊆ L) : s.ChangesOnly (t.failedBlock n) L :=
  h.after (failedBlock_op t n) hl
theorem closeSlot_op (t : State) (n : Fin 4) : t.ChangesOnly (t.closeSlot n) [.slots, .link] := by
  simp only [State.closeSlot]
  have h := each (refl t [.slots, .link]) (t.slot n).reads (fun t r => t.refuse r.tag .staleHandle)
    (fun v a => by simp (decide := true))
  split <;> simp (decide := true) (maxDischargeDepth := 20) [h]
@[simp] theorem closeSlot (h : s.ChangesOnly t L) (n : Fin 4) (hl : [.slots, .link] ⊆ L) : s.ChangesOnly (t.closeSlot n) L :=
  h.after (closeSlot_op t n) hl

end State.ChangesOnly

end Sys2Proof.Machine
end

