-- ==== Sys2Proof/Laws/Memory.lean ====
section
/-! SUPPORT. The spool memory: every operation keeps its canonical form, and a byte read is the byte last written. -/

namespace Sys2Proof.Machine

theorem Memory.wf_cons (a : Nat) (v : Byte) (m : Memory) :
    Memory.wf ((a, v) :: m) = true ↔
      v ≠ Config.unwrittenByte ∧ (∀ c ∈ m, a < c.1) ∧ Memory.wf m = true := by
  simp [Memory.wf, and_assoc]

/-- A write adds no address but its own. -/
theorem Memory.mem_write (m : Memory) (a : Nat) (v : Byte) (c : Host.Cell) (h : c ∈ Memory.write m a v) :
    c.1 = a ∨ c ∈ m := by
  induction m with
  | nil =>
    simp only [Memory.write] at h
    split at h <;> simp_all
  | cons x rest ih =>
    obtain ⟨b, w⟩ := x
    simp only [Memory.write] at h
    split_ifs at h <;> simp_all
    · rcases h with rfl | h
      · exact Or.inl rfl
      · exact Or.inr h
    · rcases h with rfl | h
      · exact Or.inl rfl
      · exact Or.inr (Or.inr h)
    · tauto

/-- A write keeps the canonical form. -/
theorem Memory.wf_write (m : Memory) (a : Nat) (v : Byte) (h : Memory.wf m = true) :
    Memory.wf (Memory.write m a v) = true := by
  induction m with
  | nil =>
    simp only [Memory.write]
    split_ifs with hv
    · rfl
    · simp [Memory.wf, hv]
  | cons x rest ih =>
    obtain ⟨b, w⟩ := x
    rw [Memory.wf_cons] at h
    obtain ⟨hw, hlt, hrest⟩ := h
    simp only [Memory.write]
    split_ifs with h1 h2 h3 h4
    · rw [Memory.wf_cons]; exact ⟨hw, hlt, hrest⟩
    · rw [Memory.wf_cons, Memory.wf_cons]
      refine ⟨h2, ?_, hw, hlt, hrest⟩
      intro c hc
      rcases List.mem_cons.1 hc with rfl | hc
      · exact h1
      · exact lt_trans h1 (hlt c hc)
    · exact hrest
    · rw [Memory.wf_cons]
      subst h3
      exact ⟨h4, hlt, hrest⟩
    · rw [Memory.wf_cons]
      refine ⟨hw, ?_, ih hrest⟩
      intro c hc
      rcases Memory.mem_write rest a v c hc with rfl | hc
      · omega
      · exact hlt c hc

/-- The bytes of a raster write keep the canonical form. -/
theorem Memory.wf_storeRaster (blocks : List Nat) (bytes : List Byte) (m : Memory) (k : Nat)
    (h : Memory.wf m = true) : Memory.wf (Memory.storeRaster m blocks k bytes) = true := by
  induction bytes generalizing m k with
  | nil => exact h
  | cons v rest ih =>
    simp only [Memory.storeRaster]
    split
    · exact ih _ _ (Memory.wf_write _ _ _ h)
    · exact ih _ _ h

/-- An address below every listed one reads as an unwritten byte. -/
theorem Memory.read_below (m : Memory) (a : Nat) (h : ∀ c ∈ m, a < c.1) : Memory.read m a = Config.unwrittenByte := by
  induction m with
  | nil => rfl
  | cons x rest ih =>
    obtain ⟨b, w⟩ := x
    have hb : a < b := h (b, w) (by simp)
    simp only [Memory.read]
    rw [if_neg (by omega)]
    exact ih (fun c hc => h c (by simp [hc]))

/-- Reading after a write. -/
theorem Memory.read_write (m : Memory) (a b : Nat) (v : Byte) (h : Memory.wf m = true) :
    Memory.read (Memory.write m a v) b = if a = b then v else Memory.read m b := by
  induction m with
  | nil =>
    simp only [Memory.write]
    split_ifs with h1 h2 h3 <;> simp_all [Memory.read]
  | cons x rest ih =>
    obtain ⟨c, w⟩ := x
    rw [Memory.wf_cons] at h
    obtain ⟨hw, hlt, hrest⟩ := h
    simp only [Memory.write]
    have below : ∀ x, x ≤ c → Memory.read rest x = Config.unwrittenByte := fun x hx =>
      Memory.read_below _ _ (fun d hd => lt_of_le_of_lt hx (hlt d hd))
    rcases lt_trichotomy a c with hac | hac | hac
    · rw [if_pos hac]
      by_cases hv : v = Config.unwrittenByte
      · rw [if_pos hv]
        by_cases hab : a = b
        · subst hab
          rw [if_pos rfl, Memory.read, if_neg (by omega), below _ (by omega), hv]
        · rw [if_neg hab]
      · rw [if_neg hv, Memory.read]
    · subst hac
      rw [if_neg (lt_irrefl _), if_pos rfl]
      by_cases hv : v = Config.unwrittenByte
      · rw [if_pos hv]
        by_cases hab : a = b
        · subst hab; rw [if_pos rfl, below _ le_rfl, hv]
        · rw [if_neg hab, Memory.read, if_neg hab]
      · rw [if_neg hv, Memory.read, Memory.read]
        by_cases hab : a = b
        · rw [if_pos hab, if_pos hab]
        · rw [if_neg hab, if_neg hab, if_neg hab]
    · rw [if_neg (by omega), if_neg (by omega), Memory.read, ih hrest, Memory.read]
      by_cases hcb : c = b
      · rw [if_pos hcb, if_pos hcb, if_neg (by omega)]
      · rw [if_neg hcb, if_neg hcb]

theorem Memory.wf_reset : Memory.wf State.reset.spool.mem = true := rfl

end Sys2Proof.Machine
end

