-- ==== Sys2Proof/Laws/Spool.lean ====
section
/-! SUPPORT. The blocks of the spool: every operation leaves each block in the free list or in one raster's block list, once. -/

namespace Sys2Proof.Machine

/-- The count follows from the free list, the sizes and the block lists alone. -/
theorem Spool.BlocksCounted.congr {x y : Spool} (h : x.BlocksCounted) (hf : y.free = x.free)
    (hr : y.rasters.map (fun r => (r.size, r.blocks)) = x.rasters.map (fun r => (r.size, r.blocks))) : y.BlocksCounted := by
  have hb : y.rasters.flatMap (fun r => r.blocks) = x.rasters.flatMap (fun r => r.blocks) := by
    have := congrArg (fun l => l.flatMap (fun p : Size × List Nat => p.2)) hr
    simpa [List.flatMap_map] using this
  refine ⟨by rw [hf, hb]; exact h.blocks, fun r hm => ?_⟩
  have : (r.size, r.blocks) ∈ x.rasters.map (fun r => (r.size, r.blocks)) := by
    rw [← hr]; exact List.mem_map_of_mem (f := fun r : Raster => (r.size, r.blocks)) hm
  obtain ⟨q, hq, he⟩ := List.mem_map.1 this
  have h1 := h.sizes q hq
  simp only [Prod.mk.injEq] at he
  rw [← he.1, ← he.2]; exact h1

/-- The first record with a property gone and its blocks at the tail of the free list. -/
theorem Spool.BlocksCounted.freed {x : Spool} (h : x.BlocksCounted) (p : Raster → Bool) (r : Raster)
    (hr : x.rasters.find? p = some r) (w : List Write) (g : Option Requester) :
    ({ x with free := x.free ++ r.blocks, rasters := x.rasters.eraseP p, writes := w, granted := g } : Spool).BlocksCounted := by
  refine ⟨?_, fun q hq => h.sizes q (List.mem_of_mem_eraseP hq)⟩
  refine List.Perm.trans ?_ h.blocks
  have : (r.blocks ++ (x.rasters.eraseP p).flatMap (fun y => y.blocks)).Perm (x.rasters.flatMap (fun y => y.blocks)) := by
    clear h
    generalize x.rasters = l at hr
    induction l with
    | nil => simp at hr
    | cons a rest ih =>
      by_cases ha : p a = true
      · rw [List.find?_cons_of_pos ha] at hr
        cases hr
        simp [ha]
      · rw [List.find?_cons_of_neg ha] at hr
        simp only [ha, Bool.false_eq_true, not_false_eq_true, List.eraseP_cons_of_neg, List.flatMap_cons]
        refine List.Perm.trans ?_ (List.Perm.append_left _ (ih hr))
        rw [← List.append_assoc, ← List.append_assoc]
        exact List.Perm.append_right _ List.perm_append_comm
  simp only [List.append_assoc]
  exact List.Perm.append_left _ this

/-- Blocks taken from the head of the free list for a new record. -/
theorem Spool.BlocksCounted.opened {x : Spool} (h : x.BlocksCounted) (r : Raster) (n : Nat) (hb : r.blocks = x.free.take n)
    (hn : r.size.blocks = n) (hl : n ≤ x.free.length) :
    ({ x with free := x.free.drop n, rasters := x.rasters ++ [r] } : Spool).BlocksCounted := by
  constructor
  · refine List.Perm.trans ?_ h.blocks
    simp only [List.flatMap_append, List.flatMap_cons, List.flatMap_nil, List.append_nil, hb]
    refine List.Perm.trans (List.Perm.append_left _ List.perm_append_comm) ?_
    rw [← List.append_assoc]
    refine List.Perm.append_right _ ?_
    refine List.Perm.trans List.perm_append_comm ?_
    rw [List.take_append_drop]
  · intro q hq
    rcases List.mem_append.1 hq with hq | hq
    · exact h.sizes q hq
    · simp only [List.mem_singleton] at hq
      subst hq
      rw [hb, hn, List.length_take]; omega

theorem Spool.BlocksCounted.reset (m : Memory) : ({ Spool.reset with mem := m } : Spool).BlocksCounted :=
  ⟨by simp [Spool.reset], by simp [Spool.reset]⟩

theorem Spool.BlocksCounted.arbitrate {x : Spool} (h : x.BlocksCounted) : x.arbitrate.BlocksCounted := by
  unfold Spool.arbitrate
  split
  · split
    · exact h.congr rfl rfl
    · exact h
  · exact h

theorem Spool.BlocksCounted.release {x : Spool} (h : x.BlocksCounted) (r : Requester) : (x.release r).BlocksCounted := by
  unfold Spool.release
  split
  · exact h.congr rfl rfl
  · exact h

end Sys2Proof.Machine
end

