-- ==== Sys2Proof/Laws/Keeps.lean ====
section
/-! SUPPORT. What every operation keeps, said once: the queue of commands and the timebase as they were, what was sent only
growing, and each of the invariants of State.Sound kept. One lemma per operation, in the form "what has been kept so far is
still kept after it", so that a proof goes through a chain of operations from its end. -/

namespace Sys2Proof.Machine

/-- What every operation keeps from `s` to `t`. -/
structure Keeps (s t : State) : Prop where
  pending : t.pending = s.pending
  now : t.now = s.now
  sent : s.sent <+: t.sent
  memory : Memory.wf s.spool.mem = true → Memory.wf t.spool.mem = true
  link : s.link.Bounded → t.link.Bounded
  copies : s.orders.CopiesCounted → t.orders.CopiesCounted
  door : s.DoorKept → t.DoorKept
  blocks : s.spool.BlocksCounted → t.spool.BlocksCounted

namespace Keeps

variable {s t u : State}

@[simp] theorem refl (s : State) : Keeps s s := ⟨rfl, rfl, List.prefix_rfl, id, id, id, id, id⟩

theorem trans (h : Keeps s t) (k : Keeps t u) : Keeps s u :=
  ⟨k.pending.trans h.pending, k.now.trans h.now, h.sent.trans k.sent, k.memory ∘ h.memory, k.link ∘ h.link,
    k.copies ∘ h.copies, k.door ∘ h.door, k.blocks ∘ h.blocks⟩

theorem sound (h : Keeps s t) (k : s.Sound) : t.Sound :=
  ⟨h.memory k.memory, h.link k.link, h.copies k.copies, h.door k.door, h.blocks k.blocks⟩

/-! ### Updates of one block -/

@[simp] theorem setSessions (h : Keeps s t) (x : Sessions) : Keeps s (t.setSessions x) := ⟨h.1, h.2, h.3, h.4, h.5, h.6, h.7, h.8⟩
@[simp] theorem setSlots (h : Keeps s t) (x : Vector Slot 4) : Keeps s (t.setSlots x) := ⟨h.1, h.2, h.3, h.4, h.5, h.6, h.7, h.8⟩
@[simp] theorem setCatalogue (h : Keeps s t) (x : Catalogue) : Keeps s (t.setCatalogue x) := ⟨h.1, h.2, h.3, h.4, h.5, h.6, h.7, h.8⟩
@[simp] theorem setMoney (h : Keeps s t) (x : Money) : Keeps s (t.setMoney x) := ⟨h.1, h.2, h.3, h.4, h.5, h.6, h.7, h.8⟩
@[simp] theorem setPrints (h : Keeps s t) (x : Prints) : Keeps s (t.setPrints x) := ⟨h.1, h.2, h.3, h.4, h.5, h.6, h.7, h.8⟩
@[simp] theorem setStore (h : Keeps s t) (x : Store) : Keeps s (t.setStore x) := ⟨h.1, h.2, h.3, h.4, h.5, h.6, h.7, h.8⟩
@[simp] theorem setSpool (h : Keeps s t) (x : Spool) (hm : x.mem = t.spool.mem)
    (hb : t.spool.BlocksCounted → x.BlocksCounted) : Keeps s (t.setSpool x) :=
  ⟨h.1, h.2, h.3, fun k => by simpa [hm] using h.4 k, h.5, h.6, h.7, hb ∘ h.8⟩
@[simp] theorem setConds (h : Keeps s t) (x : Conditions) (hm : x.mode = t.conds.mode) (hd : x.door = t.conds.door) :
    Keeps s (t.setConds x) :=
  ⟨h.1, h.2, h.3, h.4, h.5, h.6, fun k => by simpa [State.DoorKept, hm, hd] using h.7 k, h.8⟩
@[simp] theorem setPower (h : Keeps s t) (x : Power) (hp : x.starting = t.power.starting) : Keeps s (t.setPower x) :=
  ⟨h.1, h.2, h.3, h.4, h.5, h.6, fun k => by simpa [State.DoorKept, hp] using h.7 k, h.8⟩
theorem setLink (h : Keeps s t) (x : Link) (hl : t.link.Bounded → x.Bounded) : Keeps s (t.setLink x) :=
  ⟨h.1, h.2, h.3, h.4, hl ∘ h.5, h.6, h.7, h.8⟩
theorem setOrders (h : Keeps s t) (x : Orders) (ho : t.orders.CopiesCounted → x.CopiesCounted) : Keeps s (t.setOrders x) :=
  ⟨h.1, h.2, h.3, h.4, h.5, ho ∘ h.6, h.7, h.8⟩

/-! ### Updates of one record -/

@[simp] theorem setRecord (h : Keeps s t) (r : Fin 8) (x : SessionRecord) : Keeps s (t.setRecord r x) := h.setSessions _
@[simp] theorem setFront (h : Keeps s t) (st : Station) (x : Option SessionHandle) : Keeps s (t.setFront st x) := h.setSessions _
@[simp] theorem setSlot (h : Keeps s t) (n : Fin 4) (x : Slot) : Keeps s (t.setSlot n x) := h.setSlots _
@[simp] theorem setAccount (h : Keeps s t) (r : Fin 8) (x : Account) : Keeps s (t.setAccount r x) := h.setMoney _
@[simp] theorem setUnit (h : Keeps s t) (n : Fin 2) (x : CashUnit) : Keeps s (t.setUnit n x) := h.setMoney _
@[simp] theorem setTill (h : Keeps s t) (x : Till) : Keeps s (t.setTill x) := h.setMoney _
@[simp] theorem setChallenge (h : Keeps s t) (x : Challenge) : Keeps s (t.setChallenge x) := h.setMoney _
@[simp] theorem setTerminal (h : Keeps s t) (x : Terminal) : Keeps s (t.setTerminal x) := h.setMoney _
@[simp] theorem setPort (h : Keeps s t) (p : Fin 3) (x : Port) : Keeps s (t.setPort p x) := h.setPrints _
@[simp] theorem setReader (h : Keeps s t) (p : Fin 3) (x : Reader) : Keeps s (t.setReader p x) :=
  h.setSpool _ rfl (fun k => k.congr rfl rfl)
@[simp] theorem setSessionSet (h : Keeps s t) (r : Fin 8) (x : CondSet 8) : Keeps s (t.setSessionSet r x) := h.setConds _ rfl rfl
@[simp] theorem setKioskSet (h : Keeps s t) (x : CondSet 16) : Keeps s (t.setKioskSet x) := h.setConds _ rfl rfl
@[simp] theorem send (h : Keeps s t) (x : Sent) : Keeps s (t.send x) :=
  ⟨h.1, h.2, h.3.trans (List.prefix_append _ _), h.4, h.5, h.6, h.7, h.8⟩

/-- More sent at once. -/
theorem setSent (h : Keeps s t) (xs : List Sent) (hx : t.sent <+: xs) : Keeps s (t.setSent xs) :=
  ⟨h.1, h.2, h.3.trans hx, h.4, h.5, h.6, h.7, h.8⟩

/-! ### Order records -/

theorem setOrderRecord (h : Keeps s t) (o : Fin 16) (x : OrderRecord)
    (hx : t.orders.CopiesCounted → ∀ y, x.body = some y → y.CopiesCounted) : Keeps s (t.setOrderRecord o x) := by
  refine h.setOrders _ (fun k i y hy => ?_)
  by_cases hi : o = i
  · subst hi
    simp only [put, Vector.get_eq_getElem, Vector.getElem_set_self] at hy
    exact hx k y hy
  · simp only [put, Vector.get_eq_getElem] at hy
    rw [Vector.getElem_set_ne _ _ (by omega)] at hy
    exact k i y hy

@[simp] theorem freeOrder (h : Keeps s t) (o : Fin 16) (g : Byte) : Keeps s (t.setOrderRecord o { gen := g, body := none }) :=
  h.setOrderRecord o _ (fun _ _ hy => by simp at hy)

theorem setOrder (h : Keeps s t) (o : Fin 16) (x : Order) (hx : t.orders.CopiesCounted → x.CopiesCounted) :
    Keeps s (t.setOrder o x) :=
  h.setOrderRecord o _ (fun k y hy => by simp at hy; subst hy; exact hx k)

/-- An order that is not committed has no copies to count. -/
theorem setOrderUncommitted (h : Keeps s t) (o : Fin 16) (x : Order) (hx : x.state ≠ .committed) :
    Keeps s (t.setOrder o x) :=
  h.setOrder o x (fun _ hc => absurd hc hx)

/-! ### The link -/

@[simp] theorem notify (h : Keeps s t) (c : Byte) (p : List Byte) : Keeps s (t.notify c p) :=
  h.setLink _ (fun k => k.notice c p)
@[simp] theorem replyWith (h : Keeps s t) (tag : Byte) (e : Status) (p : List Byte) : Keeps s (t.replyWith tag e p) :=
  h.setLink _ (fun k => k.reply tag _)
@[simp] theorem ok (h : Keeps s t) (tag : Byte) (p : List Byte) : Keeps s (t.ok tag p) := h.replyWith _ _ _
@[simp] theorem refuse (h : Keeps s t) (tag : Byte) (e : Status) : Keeps s (t.refuse tag e) := h.replyWith _ _ _

theorem each {α : Type} (h : Keeps s t) (xs : List α) (f : State → α → State) (hf : ∀ v a, Keeps v (f v a)) :
    Keeps s (t.each xs f) := by
  induction xs generalizing t with
  | nil => exact h
  | cons x rest ih => exact ih (h.trans (hf t x))

/-- The taking of a request. -/
theorem take (c : RequestCode) (tag : Byte) (act : State → List Byte → State) (s : State)
    (ha : ∀ p, Keeps (s.setLink (s.link.markTaken tag)) (act (s.setLink (s.link.markTaken tag)) p)) :
    Keeps s (s.take c tag act) := by
  unfold State.take
  have hm : Keeps s (s.setLink (s.link.markTaken tag)) := (refl s).setLink _ (fun k => k.markTaken tag)
  split
  · exact refl s
  · split
    · exact refl s
    · split
      · dsimp only
        split
        · exact hm.refuse _ _
        · exact hm.trans (ha _)
      · exact refl s

theorem heard (act : State → State) (s : State) (ha : Keeps s (act s)) : Keeps s (s.heard act) := by
  unfold State.heard; split_ifs
  · exact refl s
  · exact ha

/-! ### Checks -/

theorem checked (s : State) (tag : Byte) (l : List (Bool × Status)) (act : State) (ha : Keeps s act) :
    Keeps s (s.checked tag l act) := by
  unfold State.checked; split
  · exact (refl s).refuse _ _
  · exact ha

@[simp] theorem touch (h : Keeps s t) (r : Fin 8) : Keeps s (t.touch r) := by
  unfold State.touch; split <;> simp [h]
@[simp] theorem touchHandle (h : Keeps s t) (x : SessionHandle) : Keeps s (t.touchHandle x) := by
  unfold State.touchHandle; split_ifs <;> simp [h]

theorem withSession (s : State) (c : RequestCode) (tag : Byte) (p : List Byte) (k : Nat)
    (act : State → SessionHandle → State) (ha : ∀ u x, Keeps u (act u x)) : Keeps s (s.withSession c tag p k act) := by
  unfold State.withSession
  split
  · simp
  · dsimp only
    split
    · simp
    · exact ((refl s).touch _).trans (ha _ _)

/-- The order a handle names is one of the state's. -/
theorem order?_mem {s : State} {h : OrderHandle} {o : Order} (ho : s.order? h = some o) :
    (s.orders.records.get h.record).body = some o := by
  unfold State.order? at ho
  split_ifs at ho
  exact ho

theorem withAnyOrder (s : State) (tag : Byte) (p : List Byte) (k : Nat) (act : State → OrderHandle → Order → State)
    (ha : ∀ u x o, u.order? x = some o → Keeps u (act u x o)) : Keeps s (s.withAnyOrder tag p k act) := by
  unfold State.withAnyOrder
  split
  · simp
  · rename_i h o ho
    refine ((refl s).touchHandle _).trans (ha _ _ _ ?_)
    have hs : s.order? h = some o := by
      unfold State.orderAt at ho
      split at ho
      · simp at ho
      · dsimp only at ho
        split at ho
        · simp at ho; obtain ⟨rfl, rfl⟩ := ho; assumption
        · simp at ho
    have : (s.touchHandle o.session).orders = s.orders := by
      unfold State.touchHandle State.touch; split_ifs <;> try split <;> rfl
      rfl
    unfold State.order? State.orderRecord at hs ⊢
    rw [this]; exact hs

theorem unlessClosed (s : State) (tag : Byte) (p : List Byte) (k : Nat) {act : State} (ha : Keeps s act) :
    Keeps s (s.unlessClosed tag p k act) := by
  unfold State.unlessClosed; split
  · simp
  · exact ha

theorem withOrder (s : State) (c : RequestCode) (tag : Byte) (p : List Byte) (k : Nat)
    (act : State → OrderHandle → Order → State) (ha : ∀ u x o, u.order? x = some o → Keeps u (act u x o)) :
    Keeps s (s.withOrder c tag p k act) := by
  refine unlessClosed s tag p k (withAnyOrder s tag p k _ (fun u x o ho => ?_))
  split
  · simp
  · exact ha u x o ho

end Keeps

end Sys2Proof.Machine
end

