-- ==== Sys2Proof/Laws/KeepsOps.lean ====
section
/-! SUPPORT. `Keeps` for the shared operations of the blocks, in the order of their files. -/

namespace Sys2Proof.Machine

set_option maxRecDepth 4000

namespace Keeps

variable {s t : State}

/-! ### Conditions (Flags) -/

@[simp] theorem conditionNotice (h : Keeps s t) (x : Option SessionHandle) (n : Nat) (a : Action) (g : Trigger) :
    Keeps s (t.conditionNotice x n a g) := h.notify _ _

theorem resolveKiosk (h : Keeps s t) (lock : State → State) (hl : ∀ v, Keeps v (lock v)) (g : Trigger) (i : Fin 16) :
    Keeps s (State.resolveKiosk lock g t i) := by
  simp only [State.resolveKiosk]
  have h1 : Keeps s (if (t.kioskResolved i).acting && !(t.conds.kiosk.recorded.get i).acting then
      (t.setKioskSet (t.conds.kiosk.record i (t.kioskResolved i))).conditionNotice none i.val (t.kioskResolved i) g
      else t.setKioskSet (t.conds.kiosk.record i (t.kioskResolved i))) := by
    split <;> simp [h]
  split
  · exact h1.trans (hl _)
  · exact h1

theorem resolveSession (h : Keeps s t) (susp : State → Fin 8 → State) (hs : ∀ v r, Keeps v (susp v r)) (g : Trigger)
    (r : Fin 8) (i : Fin 8) : Keeps s (State.resolveSession susp g r t i) := by
  simp only [State.resolveSession]
  split
  · refine Keeps.trans ?_ (hs _ _)
    split <;> simp [h]
  · split <;> simp [h]

theorem raiseKioskWith (h : Keeps s t) (lock : State → State) (hl : ∀ v, Keeps v (lock v)) (i : Fin 16) (d : List Byte) :
    Keeps s (t.raiseKioskWith lock i d) := by
  unfold State.raiseKioskWith
  split
  · exact h
  · exact (h.setKioskSet _).resolveKiosk lock hl _ _

theorem reportLevelWith (h : Keeps s t) (lock : State → State) (hl : ∀ v, Keeps v (lock v)) (i : Fin 16) (b : Bool) :
    Keeps s (t.reportLevelWith lock i b) := by
  unfold State.reportLevelWith
  split
  · split
    · exact h
    · exact (h.setKioskSet _).resolveKiosk lock hl _ _
  · exact h.setKioskSet _

@[simp] theorem raiseKioskQuiet (h : Keeps s t) (i : Fin 16) (d : List Byte) : Keeps s (t.raiseKioskQuiet i d) :=
  h.raiseKioskWith id refl i d
@[simp] theorem reportLevelQuiet (h : Keeps s t) (i : Fin 16) (b : Bool) : Keeps s (t.reportLevelQuiet i b) :=
  h.reportLevelWith id refl i b

theorem raiseSessionWith (h : Keeps s t) (susp : State → Fin 8 → State) (hs : ∀ v r, Keeps v (susp v r))
    (x : SessionHandle) (i : Fin 8) (d : List Byte) : Keeps s (t.raiseSessionWith susp x i d) := by
  unfold State.raiseSessionWith
  split
  · split
    · exact h
    · exact (h.setSessionSet _ _).resolveSession susp hs _ _ _
  · exact h

theorem resolveAll (h : Keeps s t) (lock : State → State) (hl : ∀ v, Keeps v (lock v)) (susp : State → Fin 8 → State)
    (hs : ∀ v r, Keeps v (susp v r)) (g : Trigger) : Keeps s (State.resolveAll lock susp g t) := by
  unfold State.resolveAll
  refine Keeps.each (h.each _ _ (fun v a => (refl v).resolveKiosk lock hl g a)) _ _ (fun v r => ?_)
  exact (refl v).each _ _ (fun w a => (refl w).resolveSession susp hs g r a)

/-! ### Cash -/

@[simp] theorem refreshGate (h : Keeps s t) (u : Fin 2) : Keeps s (t.refreshGate u) := by
  unfold State.refreshGate; split <;> simp [h]
@[simp] theorem refreshGates (h : Keeps s t) : Keeps s t.refreshGates := (h.refreshGate 0).refreshGate 1
@[simp] theorem issueToken (h : Keeps s t) (x : Byte) : Keeps s (t.issueToken x) := (h.setChallenge _).notify _ _
@[simp] theorem stopChallenge (h : Keeps s t) : Keeps s t.stopChallenge := h.setChallenge _
@[simp] theorem giveBackHeld (h : Keeps s t) (u : Fin 2) : Keeps s (t.giveBackHeld u) := by
  unfold State.giveBackHeld; split <;> simp [h]
@[simp] theorem closeGate (h : Keeps s t) (u : Fin 2) (c : Option GateCause) : Keeps s (t.closeGate u c) := by
  unfold State.closeGate
  split
  · dsimp only
    split <;> split <;> simp (maxDischargeDepth := 10) [h]
  · exact h
@[simp] theorem closeStationGate (h : Keeps s t) (x : Option Station) (c : Option GateCause) :
    Keeps s (t.closeStationGate x c) := by
  unfold State.closeStationGate; split <;> simp [h]
@[simp] theorem closeGates (h : Keeps s t) (c : GateCause) : Keeps s (t.closeGates c) := (h.closeGate 0 _).closeGate 1 _
@[simp] theorem setCredit (h : Keeps s t) (r : Fin 8) (v : Nat) : Keeps s (t.setCredit r v) := (h.setAccount _ _).refreshGates
@[simp] theorem addCredit (h : Keeps s t) (r : Fin 8) (v : Nat) : Keeps s (t.addCredit r v) := h.setCredit _ _
@[simp] theorem tillCashIn (h : Keeps s t) (v : Nat) : Keeps s (t.tillCashIn v) := h.setTill _
@[simp] theorem tillCardIn (h : Keeps s t) (v : Nat) : Keeps s (t.tillCardIn v) := h.setTill _
@[simp] theorem tillEarned (h : Keeps s t) (v : Nat) : Keeps s (t.tillEarned v) := h.setTill _
@[simp] theorem tillOverage (h : Keeps s t) (v : Nat) : Keeps s (t.tillOverage v) := h.setTill _
@[simp] theorem creditCash (h : Keeps s t) (x : SessionHandle) (u : Fin 2) (k : CreditKind) (v : Nat) :
    Keeps s (t.creditCash x u k v) := ((((h.setAccount _ _).tillCashIn _).touch _).notify _ _).refreshGates
@[simp] theorem issueSlip (h : Keeps s t) (x : Option SessionHandle) (v : Nat) (c : SlipCause) :
    Keeps s (t.issueSlip x v c) := (h.setMoney _).notify _ _
@[simp] theorem makeRefund (h : Keeps s t) (x : CardRefund) : Keeps s (t.makeRefund x) := (h.setMoney _).notify _ _

/-! ### Sessions -/

@[simp] theorem sessionNotice (h : Keeps s t) (r : Fin 8) (c : SessionCause) (b : List Byte) :
    Keeps s (t.sessionNotice r c b) := h.notify _ _
@[simp] theorem suspendFor (h : Keeps s t) (r : Fin 8) (c : SessionCause) (g : GateCause) : Keeps s (t.suspendFor r c g) := by
  simp only [State.suspendFor]
  split
  · exact ((h.setRecord _ _).sessionNotice _ _ _).closeStationGate _ _
  · exact h
@[simp] theorem suspend (h : Keeps s t) (r : Fin 8) : Keeps s (t.suspend r) := h.suspendFor _ _ _
@[simp] theorem raiseSession (h : Keeps s t) (x : SessionHandle) (i : Fin 8) (d : List Byte) :
    Keeps s (t.raiseSession x i d) := h.raiseSessionWith _ (fun v r => (refl v).suspend r) _ _ _
@[simp] theorem idleExpires (h : Keeps s t) (r : Fin 8) : Keeps s (t.idleExpires r) := by
  unfold State.idleExpires; split <;> simp [h]
@[simp] theorem goIdle (h : Keeps s t) (r : Fin 8) (x : Option (Nat × BitVec 16)) : Keeps s (t.goIdle r x) :=
  (((h.setRecord _ _).setAccount _ _).setSessionSet _ _).sessionNotice _ _ _
@[simp] theorem slipAndIdle (h : Keeps s t) (r : Fin 8) : Keeps s (t.slipAndIdle r) := (h.issueSlip _ _ _).goIdle _ _
@[simp] theorem settle (h : Keeps s t) (r : Fin 8) : Keeps s (t.settle r) := by
  unfold State.settle
  split
  · simp [h]
  · split <;> simp (maxDischargeDepth := 10) [h]
@[simp] theorem settleHead (h : Keeps s t) : Keeps s t.settleHead := by
  unfold State.settleHead; split <;> simp [h]
@[simp] theorem leaveClosing (h : Keeps s t) (r : Fin 8) : Keeps s (t.leaveClosing r) := by
  simp only [State.leaveClosing]
  split <;> split <;> simp (maxDischargeDepth := 10) [h]
@[simp] theorem closingExit (h : Keeps s t) (r : Fin 8) : Keeps s (t.closingExit r) := by
  unfold State.closingExit; split <;> simp [h]
@[simp] theorem closingExitOf (h : Keeps s t) (x : Option SessionHandle) : Keeps s (t.closingExitOf x) := by
  unfold State.closingExitOf
  split
  · split <;> simp [h]
  · exact h
@[simp] theorem orderLeft (h : Keeps s t) (x : SessionHandle) (o : OrderHandle) (a b : Nat) : Keeps s (t.orderLeft x o a b) := by
  simp only [State.orderLeft]
  split
  · split <;> simp [h]
  · exact h

/-! ### The link -/

@[simp] theorem clockByte (h : Keeps s t) (b : Byte) : Keeps s (t.clockByte b) :=
  (h.setLink _ (fun k => k.outputSent.receive _ _ b)).send _

@[simp] theorem receiveBytes (h : Keeps s t) (bytes : List Byte) : Keeps s (t.receiveBytes bytes) :=
  h.each bytes State.clockByte (fun v b => (refl v).clockByte b)

/-! ### The spool -/

theorem arbitrate_mem (x : Spool) : x.arbitrate.mem = x.mem := by
  unfold Spool.arbitrate; split
  · split <;> rfl
  · rfl
theorem release_mem (x : Spool) (r : Requester) : (x.release r).mem = x.mem := by
  unfold Spool.release; split <;> rfl

theorem release_rasters (x : Spool) (r : Requester) : (x.release r).rasters = x.rasters := by
  unfold Spool.release; split <;> rfl

@[simp] theorem grantSpool (h : Keeps s t) : Keeps s t.grantSpool := h.setSpool _ (arbitrate_mem _) (fun k => k.arbitrate)
@[simp] theorem startReader (h : Keeps s t) (p : Fin 3) (o : OrderHandle) (l : Fin 16) : Keeps s (t.startReader p o l) :=
  (h.setReader _ _).grantSpool
@[simp] theorem stopReader (h : Keeps s t) (p : Fin 3) : Keeps s (t.stopReader p) :=
  ((h.setReader _ _).setSpool _ (release_mem _ _) (fun k => k.release _)).grantSpool
theorem updateRaster (h : Keeps s t) (o : OrderHandle) (l : Fin 16) (f : Raster → Raster)
    (hf : ∀ x, (f x).size = x.size ∧ (f x).blocks = x.blocks) : Keeps s (t.updateRaster o l f) := by
  refine h.setSpool _ rfl (fun k => k.congr rfl ?_)
  simp only [List.map_map]
  refine List.map_congr_left (fun x _ => ?_)
  simp only [Function.comp]
  split
  · rw [(hf x).1, (hf x).2]
  · rfl
@[simp] theorem unchargeOrder (h : Keeps s t) (o : OrderHandle) : Keeps s (t.unchargeOrder o) := by
  refine h.setSpool _ rfl (fun k => k.congr rfl ?_)
  simp only [List.map_map]
  refine List.map_congr_left (fun x _ => ?_)
  simp only [Function.comp]
  split <;> rfl
@[simp] theorem evalPressure (h : Keeps s t) : Keeps s t.evalPressure := h.reportLevelQuiet _ _

theorem refuseAll_spool (xs : List Write) (e : Status) (t : State) :
    (t.each xs (fun t w => t.refuse w.tag e)).spool = t.spool := by
  induction xs generalizing t with
  | nil => rfl
  | cons x rest ih => exact (ih _).trans rfl

@[simp] theorem freeRaster (h : Keeps s t) (o : OrderHandle) (l : Fin 16) : Keeps s (t.freeRaster o l) := by
  unfold State.freeRaster
  split
  · exact h
  · rename_i x hx
    dsimp only
    refine Keeps.evalPressure (Keeps.grantSpool (Keeps.setSpool ?_ _ ?_ ?_))
    · exact h.each _ _ (fun v w => (refl v).refuse _ _)
    · rw [refuseAll_spool]
      dsimp only
      split
      · exact release_mem _ _
      · rfl
    · rw [refuseAll_spool]
      intro k
      split
      · have hr := k.release .writer
        refine hr.freed _ x ?_ _ _
        rw [release_rasters]; exact hx
      · exact k.freed _ x hx _ _

/-! ### The catalogue -/

@[simp] theorem refRises (h : Keeps s t) (x : CatHandle) : Keeps s (t.refRises x) := h.setCatalogue _
@[simp] theorem refFalls (h : Keeps s t) (x : CatHandle) : Keeps s (t.refFalls x) := h.setCatalogue _
@[simp] theorem refuseImage (h : Keeps s t) (tag : Byte) (x : SessionHandle) (p : List Byte) (k : Nat) (e : Status) :
    Keeps s (t.refuseImage tag x p k e) := by
  simp only [State.refuseImage]; split <;> simp [h]

end Keeps

end Sys2Proof.Machine
end

