-- ==== Sys2Proof/Laws/KeepsUnits.lean ====
section
/-! SUPPORT. `Keeps` for the operations of the orders, the conditions, the printers and the slots. -/

namespace Sys2Proof.Machine

set_option maxRecDepth 4000

/-! ### Counted copies of one order -/

theorem get_setLine (o : Order) (k j : Fin 16) (x : Option Line) :
    (o.setLine k x).lines.get j = if k = j then x else o.lines.get j := by
  simp only [Order.setLine, put, Vector.get_eq_getElem]
  by_cases h : k = j
  · subst h; rw [if_pos rfl]; exact Vector.getElem_set_self _
  · rw [if_neg h]; exact Vector.getElem_set_ne _ _ (by omega)

theorem Order.CopiesCounted.setLine {o : Order} (h : o.CopiesCounted) (k : Fin 16) (l : Line)
    (hl : o.state = .committed → l.copies.sum = l.quantity) : (o.setLine k (some l)).CopiesCounted := by
  intro hs j x hx
  rw [get_setLine] at hx
  split at hx
  · simp at hx; subst hx; exact hl hs
  · exact h hs j x hx

/-- A change of the order's other fields. -/
theorem Order.CopiesCounted.of_lines {o x : Order} (h : o.CopiesCounted) (hl : x.lines = o.lines)
    (hs : x.state = .committed → o.state = .committed) : x.CopiesCounted :=
  fun hc k l hk => h (hs hc) k l (hl ▸ hk)

theorem Order.CopiesCounted.map {o x : Order} (h : o.CopiesCounted) (f : Line → Line)
    (hl : x.lines = o.lines.map (fun l => l.map f)) (hs : x.state = .committed → o.state = .committed)
    (hf : ∀ l, l.copies.sum = l.quantity → (f l).copies.sum = (f l).quantity) : x.CopiesCounted := by
  intro hc k l hk
  have : x.lines.get k = (o.lines.get k).map f := by
    rw [hl]; simp [Vector.get_eq_getElem]
  rw [this] at hk
  cases hg : o.lines.get k with
  | none => simp [hg] at hk
  | some y =>
    simp [hg] at hk
    subst hk
    exact hf y (h (hs hc) k y hg)

theorem counted_of_order? {s : State} {h : OrderHandle} {o : Order} (ho : s.order? h = some o)
    (k : s.orders.CopiesCounted) : o.CopiesCounted := k _ _ (Keeps.order?_mem ho)

theorem taskLine_order {s : State} {x : Task} {o : Order} {l : Line} (h : s.taskLine x = some (o, l)) :
    s.order? x.order = some o ∧ o.lines.get x.line = some l := by
  unfold State.taskLine at h
  cases ho : s.order? x.order with
  | none => simp [ho] at h
  | some y =>
    cases hl : y.lines.get x.line with
    | none => simp [ho, hl] at h
    | some z =>
      simp [ho, hl] at h
      obtain ⟨rfl, rfl⟩ := h
      exact ⟨rfl, hl⟩

namespace Keeps

variable {s t : State}

/-! ### Orders -/

@[simp] theorem setLineRaster (h : Keeps s t) (x : OrderHandle) (k : Fin 16) (r : RasterState) :
    Keeps s (t.setLineRaster x k r) := by
  unfold State.setLineRaster
  split
  · exact h
  · rename_i o ho
    split
    · exact h
    · rename_i l hl
      exact h.setOrder _ _ (fun hc => (counted_of_order? ho hc).setLine k _
        (fun hs => counted_of_order? ho hc hs k l hl))

@[simp] theorem orderNotice (h : Keeps s t) (x : OrderHandle) (y : SessionHandle) (n : Nat) (c : OrderCause)
    (b : List Byte) : Keeps s (t.orderNotice x y n c b) := h.notify _ _
@[simp] theorem clearUncommitted (h : Keeps s t) (x : SessionHandle) (o : OrderHandle) : Keeps s (t.clearUncommitted x o) := by
  unfold State.clearUncommitted; split <;> simp [h]
@[simp] theorem cancelOrder (h : Keeps s t) (x : OrderHandle) (o : Order) : Keeps s (t.cancelOrder x o) := by
  simp only [State.cancelOrder]
  refine freeOrder (clearUncommitted ?_ _ _) _ _
  exact (h.each _ _ (fun v a => (refl v).freeRaster _ _)).each _ _ (fun v a => (refl v).refFalls _)
@[simp] theorem handTerminal (h : Keeps s t) : Keeps s t.handTerminal := by
  simp only [State.handTerminal]; split <;> simp [h]
@[simp] theorem terminalIdle (h : Keeps s t) : Keeps s t.terminalIdle := (h.setTerminal _).handTerminal
@[simp] theorem endUnapproved (h : Keeps s t) (a : Auth) (c : OrderCause) : Keeps s (t.endUnapproved a c) := by
  simp only [State.endUnapproved]
  split
  · exact h
  · refine closingExitOf ?_ _
    split
    · simp (maxDischargeDepth := 10) [h]
    · exact ((((h.addCredit _ _).touchHandle _).setOrderUncommitted _ _ (by simp)).orderNotice _ _ _ _ _)
@[simp] theorem setLastEnded (h : Keeps s t) (a : Auth) : Keeps s (t.setLastEnded a) := h.setTerminal _
@[simp] theorem endWithCondition (h : Keeps s t) (a : Auth) (c : OrderCause) (i : Fin 8) :
    Keeps s (t.endWithCondition a c i) := by
  simp only [State.endWithCondition]; split <;> simp [h]
@[simp] theorem cancelAuth (h : Keeps s t) (x : OrderHandle) : Keeps s (t.cancelAuth x) := by
  simp only [State.cancelAuth]
  split
  · simp [h]
  · split
    · split <;> simp [h]
    · exact h

theorem refund_fields (o : Order) (base : Nat) : (o.refund base).1.lines = o.lines ∧ (o.refund base).1.state = o.state :=
  ⟨rfl, rfl⟩

theorem refundCopies (h : Keeps s t) (x : OrderHandle) (o : Order) (base : Nat)
    (ho : t.orders.CopiesCounted → o.CopiesCounted) : Keeps s (t.refundCopies x o base).1 := by
  unfold State.refundCopies
  dsimp only
  have h2 := (h.setOrder x.record (o.refund base).1
    (fun k => (ho k).of_lines (refund_fields o base).1 (fun hs => (refund_fields o base).2 ▸ hs))).addCredit
      o.session.record (o.refund base).2.2.1
  split
  · exact h2.makeRefund _
  · exact h2

@[simp] theorem copyNotice (h : Keeps s t) (x : OrderHandle) (y : SessionHandle) (k : Fin 16) (a b c d : Nat) (e : Counters)
    (f : List Byte) : Keeps s (t.copyNotice x y k a b c d e f) := h.notify _ _
@[simp] theorem finishOrder (h : Keeps s t) (x : OrderHandle) (o : Order) : Keeps s (t.finishOrder x o) := by
  simp only [State.finishOrder]; simp (maxDischargeDepth := 10) [h]
@[simp] theorem finishLine (h : Keeps s t) (x : OrderHandle) (k : Fin 16) : Keeps s (t.finishLine x k) :=
  ((h.setPrints _).freeRaster _ _).setLineRaster _ _ _
@[simp] theorem settleLines (h : Keeps s t) (x : OrderHandle) (ks : List (Fin 16)) : Keeps s (t.settleLines x ks) := by
  simp only [State.settleLines]
  have h1 := h.each ks (fun t k =>
    match (t.order? x).bind (fun o => o.lines.get k) with
    | some l => if l.final then t.finishLine x k else t
    | none => t) (fun v a => by
      split
      · split
        · exact (refl v).finishLine _ _
        · exact refl v
      · exact refl v)
  split
  · split
    · exact h1.finishOrder _ _
    · exact h1
  · exact h1

/-! ### Conditions that reach other blocks -/

@[simp] theorem lockout (h : Keeps s t) : Keeps s t.lockout := by
  simp only [State.lockout]
  refine Keeps.each ?_ _ _ (fun v a => (refl v).endUnapproved _ _)
  refine setTerminal (closeGates (Keeps.each ?_ _ _ (fun v r => (refl v).suspendFor _ _ _)) _) _
  exact h.setConds _ rfl rfl
@[simp] theorem raiseKiosk (h : Keeps s t) (i : Fin 16) (d : List Byte) : Keeps s (t.raiseKiosk i d) :=
  h.raiseKioskWith _ (fun v => (refl v).lockout) _ _
@[simp] theorem reportLevel (h : Keeps s t) (i : Fin 16) (b : Bool) : Keeps s (t.reportLevel i b) :=
  h.reportLevelWith _ (fun v => (refl v).lockout) _ _
@[simp] theorem resolveSets (h : Keeps s t) (g : Trigger) : Keeps s (t.resolveSets g) :=
  h.resolveAll _ (fun v => (refl v).lockout) _ (fun v r => (refl v).suspend r) g
@[simp] theorem challengeError (h : Keeps s t) : Keeps s t.challengeError := by
  simp only [State.challengeError]
  split
  · exact ((h.setChallenge _).closeGates _).raiseKiosk _ _
  · exact h.setChallenge _
@[simp] theorem evalBox (h : Keeps s t) (u : Fin 2) : Keeps s (t.evalBox u) := h.reportLevelQuiet _ _
@[simp] theorem wakeCause (h : Keeps s t) (c : WakeCause) : Keeps s (t.wakeCause c) := by
  unfold State.wakeCause
  split
  · refine notify (setPower h _ ?_) _ _
    rfl
  · exact h

/-! ### Printers -/

@[simp] theorem evalPrints (h : Keeps s t) : Keeps s t.evalPrints := by
  simp only [State.evalPrints]; simp (maxDischargeDepth := 10) [h]

theorem handOut_sum (c : Counters) (h : 0 < c.queued + c.retryPending) : c.handOut.sum = c.sum := by
  unfold Counters.handOut Counters.sum; split <;> simp only <;> omega

theorem handOut (h : Keeps s t) (p : Fin 3) (x : Task) (o : Order) (l : Line) (hx : t.taskLine x = some (o, l))
    (hc : 0 < l.copies.queued + l.copies.retryPending) : Keeps s (t.handOut p x o l) := by
  obtain ⟨ho, hl⟩ := taskLine_order hx
  simp only [State.handOut]
  refine startReader (send (setPort ?_ _ _) _) _ _ _
  refine (h.setPrints _).setOrder _ _ (fun hk => ?_)
  have hk' : o.CopiesCounted := counted_of_order? (s := t) ho hk
  exact hk'.setLine _ _ (fun hs => by rw [handOut_sum _ hc]; exact hk' hs _ _ hl)

@[simp] theorem portTake (h : Keeps s t) (p : Fin 3) : Keeps s (t.portTake p) := by
  unfold State.portTake
  split
  · split
    · exact h
    · rename_i x hx
      have he := List.find?_some hx
      split
      · rename_i o l hl
        refine h.handOut _ _ _ _ hl ?_
        simp only [State.eligible, hl, Bool.and_eq_true, decide_eq_true_eq] at he
        exact he.1.1.2
      · exact h
  · exact h
@[simp] theorem takeAll (h : Keeps s t) : Keeps s t.takeAll := ((h.portTake 0).portTake 1).portTake 2
@[simp] theorem takeOnEntry (h : Keeps s t) (p : Fin 3) : Keeps s (t.takeOnEntry p) := by
  simp only [State.takeOnEntry]; split <;> simp [h]
@[simp] theorem printerNotice (h : Keeps s t) (p : Fin 3) (c : PrinterCause) : Keeps s (t.printerNotice p c) := h.notify _ _
@[simp] theorem movePort (h : Keeps s t) (p : Fin 3) (x : PortState) (f : Option Reason) (c : PrinterCause) :
    Keeps s (t.movePort p x f c) := (h.setPort _ _).printerNotice _ _

@[simp] theorem copyDelivered (h : Keeps s t) (p : Fin 3) (a : Attempt) : Keeps s (t.copyDelivered p a) := by
  simp only [State.copyDelivered]
  split
  · exact h
  · rename_i o l hl
    obtain ⟨ho, hl⟩ := taskLine_order hl
    split
    · exact h
    · refine settleLines (copyNotice (h.setOrder _ _ (fun hk => ?_)) _ _ _ _ _ _ _ _ _) _ _
      have hk' := counted_of_order? ho hk
      refine hk'.setLine _ _ (fun hs => ?_)
      have := hk' hs _ _ hl
      simp only [Counters.sum] at this ⊢
      omega

theorem failed_sum (c : Counters) (b : Bool) (h : c.inFlight ≠ 0) : (c.failed b).sum = c.sum := by
  unfold Counters.failed Counters.sum; split <;> simp only <;> omega

@[simp] theorem copyFailed (h : Keeps s t) (p : Fin 3) (a : Attempt) (r : Reason) : Keeps s (t.copyFailed p a r) := by
  simp only [State.copyFailed]
  split
  · exact h
  · rename_i o l hl
    obtain ⟨ho, hl⟩ := taskLine_order hl
    split
    · exact h
    · rename_i hz
      have hset : ∀ b, t.orders.CopiesCounted →
          (o.setLine a.line (some { l with copies := l.copies.failed b })).CopiesCounted := by
        intro b hk
        have hk' := counted_of_order? ho hk
        exact hk'.setLine _ _ (fun hs => by rw [failed_sum _ _ hz]; exact hk' hs _ _ hl)
      split
      · exact (h.setOrder _ _ (hset _)).copyNotice _ _ _ _ _ _ _ _ _
      · exact (((h.refundCopies _ _ _ (hset _)).copyNotice _ _ _ _ _ _ _ _ _).raiseSession _ _ _).settleLines _ _

@[simp] theorem failAttempt (h : Keeps s t) (p : Fin 3) (a : Attempt) (b : Bool) (r : Reason) :
    Keeps s (t.failAttempt p a b r) := by
  simp only [State.failAttempt]; split <;> simp (maxDischargeDepth := 10) [h]
@[simp] theorem attemptFails (h : Keeps s t) (p : Fin 3) (r : Reason) : Keeps s (t.attemptFails p r) := by
  simp only [State.attemptFails]
  split
  · exact h
  · refine evalPrints (takeAll (movePort ?_ _ _ _ _))
    split <;> simp (maxDischargeDepth := 10) [h]
@[simp] theorem goOffline (h : Keeps s t) (p : Fin 3) (c : PrinterCause) : Keeps s (t.goOffline p c) := by
  simp only [State.goOffline]
  split
  · exact h
  · refine evalPrints (takeAll ?_)
    split <;> simp (maxDischargeDepth := 10) [h]

@[simp] theorem commitOrder (h : Keeps s t) (x : OrderHandle) (o : Order) (n : Nat) : Keeps s (t.commitOrder x o n) := by
  simp only [State.commitOrder]
  have h1 : Keeps s (t.setOrder x.record (o.committed n)) := by
    refine h.setOrder _ _ (fun _ _ k l hl => ?_)
    have : (o.committed n).lines.get k = (o.lines.get k).map
        (fun x => { x with copies := { Counters.zero with queued := x.quantity } }) := by
      simp [Order.committed, Vector.get_eq_getElem]
    rw [this] at hl
    cases hg : o.lines.get k with
    | none => simp [hg] at hl
    | some y => simp [hg] at hl; subst hl; simp [Counters.sum, Counters.zero]
  have h2 := (h1.each o.used (fun t x => t.refFalls x.2.image) (fun v a => (refl v).refFalls _)).unchargeOrder x
  split <;> simp (maxDischargeDepth := 10) [h2]
@[simp] theorem tasksJoined (h : Keeps s t) : Keeps s t.tasksJoined := h.takeAll.evalPrints

/-! ### Slots -/

@[simp] theorem slotNotice (h : Keeps s t) (n : Fin 4) (c : SlotCause) : Keeps s (t.slotNotice n c) := h.notify _ _
@[simp] theorem scanNotice (h : Keeps s t) (n : Fin 4) (c : ScanOutcome) : Keeps s (t.scanNotice n c) := h.notify _ _
@[simp] theorem issue (h : Keeps s t) (n : Fin 4) (c : CardCommand) : Keeps s (t.issue n c) := (h.setSlot _ _).send _
@[simp] theorem busOutcome (h : Keeps s t) (n : Fin 4) : Keeps s (t.busOutcome n) := h.setSlot _ _
@[simp] theorem serveNext (h : Keeps s t) (n : Fin 4) : Keeps s (t.serveNext n) := by
  simp only [State.serveNext]
  split
  · exact h
  · split
    · simp [h]
    · exact (h.setSlot _ _).issue _ _
    · split <;> simp [h]
    · exact h
@[simp] theorem bindSlot (h : Keeps s t) (n : Fin 4) (x : SessionHandle) (c : SlotCause) : Keeps s (t.bindSlot n x c) :=
  (((h.setSlot _ _).setCatalogue _).slotNotice _ _).serveNext _
@[simp] theorem insertionConfirmed (h : Keeps s t) (n : Fin 4) : Keeps s (t.insertionConfirmed n) :=
  (((h.setSlot _ _).slotNotice _ _).serveNext _).wakeCause _
@[simp] theorem removalConfirmed (h : Keeps s t) (n : Fin 4) : Keeps s (t.removalConfirmed n) := by
  simp only [State.removalConfirmed]
  have h1 := h.each (t.slot n).reads (fun t r => t.refuse r.tag .mediaGone) (fun v a => (refl v).refuse _ _)
  split <;> split <;> simp (maxDischargeDepth := 10) [h1]
@[simp] theorem slotReading (h : Keeps s t) (n : Fin 4) (b : Bool) (k : Nat) : Keeps s (t.slotReading n b k) := by
  simp only [State.slotReading]
  split
  · simp [h]
  · split
    · simp [h]
    · split <;> simp [h]
@[simp] theorem busReading (h : Keeps s t) (n : Fin 4) (b : Bool) : Keeps s (t.busReading n b) := by
  unfold State.busReading; split <;> simp [h]
@[simp] theorem unreadable (h : Keeps s t) (n : Fin 4) : Keeps s (t.unreadable n) := (h.setSlot _ _).slotNotice _ _
@[simp] theorem identified (h : Keeps s t) (n : Fin 4) (g : Grade) (k : Nat) : Keeps s (t.identified n g k) := by
  simp only [State.identified]
  split
  · simp [h]
  · split <;> simp [h]
@[simp] theorem endScan (h : Keeps s t) (n : Fin 4) (c : ScanOutcome) : Keeps s (t.endScan n c) := by
  simp only [State.endScan]
  refine serveNext ?_ _
  split
  · split <;> simp (maxDischargeDepth := 10) [h]
  · simp (maxDischargeDepth := 10) [h]
@[simp] theorem finishStep (h : Keeps s t) (n : Fin 4) (b : Bool) : Keeps s (t.finishStep n b) := by
  simp only [State.finishStep]
  split
  · simp [h]
  · split <;> simp [h]
@[simp] theorem countScan (h : Keeps s t) (n : Fin 4) (f : Scan → Scan) : Keeps s (t.countScan n f) := h.setSlot _ _
@[simp] theorem nextBlock (h : Keeps s t) (n : Fin 4) (x : Serving) : Keeps s (t.nextBlock n x) := (h.setSlot _ _).issue _ _
@[simp] theorem fileFound (h : Keeps s t) (n : Fin 4) (f : FileRecord) : Keeps s (t.fileFound n f) := by
  unfold State.fileFound
  split
  · simp [h]
  · split <;> simp [h]
@[simp] theorem handOff (h : Keeps s t) (n : Fin 4) (f : FileRecord) (x : HeaderFields) : Keeps s (t.handOff n f x) := by
  simp only [State.handOff]; split
  · exact (h.setSlot _ _).setCatalogue _
  · exact h
theorem readEnds (h : Keeps s t) (n : Fin 4) (p : Read → Status × List Byte) (a : State → State) (ha : ∀ v, Keeps v (a v)) :
    Keeps s (t.readEnds n p a) := by
  simp only [State.readEnds]; split
  · exact h
  · exact ((((h.setSlot _ _).replyWith _ _ _)).trans (ha _)).serveNext _
@[simp] theorem mediaFault (h : Keeps s t) (n : Fin 4) : Keeps s (t.mediaFault n) := by
  simp only [State.mediaFault]
  refine raiseKioskQuiet (slotNotice (setSlot (Keeps.each ?_ _ _ (fun v a => (refl v).refuse _ _)) _ _) _ _) _ _
  split <;> split <;> (try split) <;> simp [h]
@[simp] theorem blockFailed (h : Keeps s t) (n : Fin 4) : Keeps s (t.blockFailed n) := by
  simp only [State.blockFailed]
  split
  · simp [h]
  · split <;> simp [h]
@[simp] theorem blockGood (h : Keeps s t) (n : Fin 4) : Keeps s (t.blockGood n) := h.setSlot _ _
@[simp] theorem goodBlock (h : Keeps s t) (n : Fin 4) (c : BlockContent) : Keeps s (t.goodBlock n c) := by
  simp only [State.goodBlock]
  split
  · split
    · exact h.readEnds _ _ _ (fun v => refl v)
    · simp [h]
  · simp [h]
  · simp [h]
  · split <;> simp [h]
  · simp [h]
  · exact h
@[simp] theorem failedBlock (h : Keeps s t) (n : Fin 4) : Keeps s (t.failedBlock n) := by
  simp only [State.failedBlock]
  split
  · exact h.readEnds _ _ _ (fun v => (refl v).blockFailed _)
  · split <;> simp [h]
  · split <;> simp [h]
  · exact h
@[simp] theorem closeSlot (h : Keeps s t) (n : Fin 4) : Keeps s (t.closeSlot n) := by
  simp only [State.closeSlot]
  have h1 := h.each (t.slot n).reads (fun t r => t.refuse r.tag .staleHandle) (fun v a => (refl v).refuse _ _)
  split <;> simp (maxDischargeDepth := 10) [h1]
@[simp] theorem resetSlots (h : Keeps s t) : Keeps s t.resetSlots :=
  h.each _ _ (fun v _ => ((refl v).setSlot _ _).serveNext _)

end Keeps

end Sys2Proof.Machine
end

