-- ==== Sys2Proof/Tests/Slice0.lean ====
section
/-! SUPPORT. The model's own tests: an ill-formed command for each check of WellFormed, the spec's worked examples, and for every
statement with hypotheses a state and operands that meet them, with what the command then does. -/

namespace Sys2Proof.Tests

open Sys2Proof.Machine

set_option maxRecDepth 100000
set_option Elab.async false

/-! ### Small states -/

/-- The part once start-up has ended: SOLO, customer mode, nothing connected. -/
def live : State := { State.reset with power := { State.reset.power with starting := false } }

/-- The attendant's: service mode behind the open door. -/
def served (s : State) : State := { s with conds := { s.conds with mode := .service, door := { confirmed := true, run := 0 } } }

/-- A request of this code, held under tag 7 and not yet taken. -/
def asks (s : State) (c : RequestCode) (p : List Byte) : State :=
  { s with link := { s.link with table := [{ tag := 7, code := c, payload := p, taken := false }] } }

/-- The state a command leaves. -/
def after (c : Instr) (s : State) : State :=
  match exec c s with
  | .next t => t
  | _ => s

/-- The payload of the last frame queued. -/
def said (s : State) : List Byte := (s.link.queue.getLast?.map (fun f => f.payload)).getD []

/-- What a request answers. -/
def answers (c : RequestCode) (p : List Byte) (s : State) : List Byte := said (after (c.instr 7) (asks s c p))

/-- The codes and payloads queued. -/
def told (s : State) : List (Byte × List Byte) := s.link.queue.map (fun f => (f.code, f.payload))

/-- The `k`-th exchange on the bus of slot 0. -/
def exchange (k : Nat) : Exchange := { slot := 0, number := k }
def h0 : SessionHandle := { record := 0, gen := 1 }
def o0 : OrderHandle := { record := 0, gen := 1 }

/-- Session 0/1 at station A in a state. -/
def seat (x : SessionState) (s : State) : State :=
  (s.setRecord 0 { SessionRecord.reset with
    state := x, gen := 1, station := some .a, timer := if x = .active then .running 0 else .stopped 0 }).setFront .a (some h0)

/-- An empty order of session 0/1. -/
def order (x : OrderState) : Order :=
  { session := h0, state := x, lines := Vector.replicate 16 none, quote := none, collected := 0, paidCredit := 0, paidCard := 0
    termRef := none, refundedBase := 0, refundedTax := 0, refunded := 0, creditRefunded := 0, cancel := false }

def image : CatHandle := { position := 0, gen := 1 }

def line (z : Size) (q : Nat) (r : RasterState) : Line :=
  { image := image, size := z, finish := .gloss, quantity := q, raster := r, copies := Counters.zero }

def withLine (k : Fin 16) (l : Line) (o : Order) : Order := { o with lines := put o.lines k (some l) }

/-- Session 0/1 in a state, with order 0/1. -/
def desk (x : SessionState) (o : Order) : State :=
  let s := seat x live
  (s.setOrderRecord 0 { gen := 1, body := some o }).setRecord 0 { s.record 0 with uncommitted := some o0 }

/-- Catalogue entry 0/1, of 1,000,000 bytes on a slot. -/
def entry (owner : SessionHandle) : CatEntry :=
  { owner := owner, slot := 0, ordinal := 0, name := [0x41], size := 1000000, kind := .jpeg, dims := none, orientation := none
    stamp := none, refs := 0 }
def withEntry (owner : SessionHandle) (s : State) : State :=
  { s with catalogue := { s.catalogue with
    table := put s.catalogue.table 0 { gen := 1, entry := some (entry owner) }, lists := put s.catalogue.lists owner.record [0] } }

/-- A request on an order or a session stands ready. -/
theorem offers_asks (s : State) (c : RequestCode) (p : List Byte) (h1 : s.power.starting = false)
    (h2 : s.power.standby = false) : (asks s c p).Offers c 7 p := by
  refine ⟨h1, ?_, ?_, ?_⟩
  · simp [asks, h2]
  · simp [asks]
  · simp [asks, Link.firstUntaken]

theorem names_desk (c : RequestCode) (p : List Byte) (o : Order) (h : o.session = h0) :
    NamesOrder (asks (desk .active o) c (0 :: 1 :: p)) c 7 (0 :: 1 :: p) o0 o :=
  ⟨offers_asks _ _ _ rfl rfl, rfl, rfl, rfl, by rw [h]; rfl⟩

/-! ### Well-formed commands -/

theorem test_a_load_of_no_reads_is_ill_formed :
    (Instr.loadEnd [] { doorOpen := false, supplyFault := false, presence := false }).wellFormed = false := by decide
theorem test_a_load_of_nine_reads_is_ill_formed :
    (Instr.loadEnd (List.replicate 9 .clean) { doorOpen := false, supplyFault := false, presence := false }).wellFormed =
      false := by decide
theorem test_no_byte_received_is_ill_formed :
    (Instr.frameReceived []).wellFormed = false ∧ (Instr.lengthAbove4096 []).wellFormed = false := by decide
theorem test_a_block_of_513_bytes_is_ill_formed :
    (Instr.blockReadAnswer (exchange 0) (.good (.data (List.replicate 513 0)))).wellFormed = false := by decide +kernel
theorem test_a_file_without_a_name_or_too_large_is_ill_formed :
    (Instr.blockReadAnswer (exchange 0) (.good (.file { name := [], size := 1, first := [], more := false }))).wellFormed = false ∧
    (Instr.blockReadAnswer (exchange 0) (.good (.file { name := [1], size := 2 ^ 32, first := [], more := false }))).wellFormed = false := by
  decide +kernel
theorem test_a_capacity_beyond_32_bits_is_ill_formed :
    (Instr.identificationAnswer (exchange 0) (.card .g3 (2 ^ 32))).wellFormed = false := by decide +kernel
theorem test_no_byte_taken_is_ill_formed : (Instr.rasterBytesTaken 0 0).wellFormed = false := by decide

/-! ### The spec's worked examples -/

/-- R1: the check value of the CRC. -/
theorem test_crc_of_the_nine_digits :
    crcBytes [0x31, 0x32, 0x33, 0x34, 0x35, 0x36, 0x37, 0x38, 0x39] = [0x29, 0xB1] := by decide +kernel
/-- R116: the tokens of the first 8 s. -/
theorem test_challenge_tokens : nextToken 0x3C = 0xDD ∧ nextToken 0xDD = 0x1A ∧ nextToken 0x1A = 0x03 ∧ nextToken 0x03 = 0x68 := by
  decide
/-- 04, placing an entry: session 2, slot 1, ordinal 100 is at home at 139, and a window runs past 2047. -/
theorem test_home_and_window : homeOf 2 1 100 = 139 ∧ positionAt (2040 + 8) = 0 ∧ positionAt (2040 + 15) = 7 := by decide
/-- R130: byte 6,291,456 of a P1 raster begins its twenty-fifth block. -/
theorem test_last_block_of_a_raster :
    rasterAddress (List.range 25) 6291456 = some (24 * 262144) ∧ rasterAddress (List.range 25) 6479999 = some (24 * 262144 + 188543) := by
  decide +kernel
/-- 5.5: the worked quote, 1334 under revision 41. -/
def workedTable : PriceTable :=
  put (put (put (put (put (put (put (put (put (put (put PriceTable.defaults 1 10) 2 25) 3 50) 9 5) 16 45) 17 39) 24 250) 25 220) 33 5)
    35 825) 36 500000
def workedOrder : Order :=
  withLine 0 (line .p1 12 .complete) (withLine 1 { line .p1 6 .complete with finish := .matte }
    (withLine 2 (line .p3 2 .complete) (order .editing)))
theorem test_worked_quote :
    (let q := PriceTable.quote workedTable 41 workedOrder;
    (q.subtotal, q.tax, q.total, q.revision) = (1232, 102, 1334, 41) ∧
    (q.lines.get 1).map (fun x => (x.tier, x.base, x.surcharge, x.unit, x.amount)) = some (1, 39, 5, 44, 264) ∧
    (q.lines.get 2).map (fun x => (x.tier, x.unit, x.amount)) = some (0, 250, 500)) := by decide +kernel
/-- 5.14: the refunds of 48 and 270. -/
theorem test_worked_refund :
    (let o := { workedOrder with quote := some (PriceTable.quote workedTable 41 workedOrder), paidCredit := 1334 };
    (o.refund 44).2 = (48, 48, 0) ∧ ((o.refund 44).1.refund 250).2 = (270, 270, 0)) := by decide +kernel

/-! ### The step and the invariants -/

theorem test_step_with_a_front :
    (let s := live.setPending [.frameSent, .interByteTimeout];
    s.pending = .frameSent :: [.interByteTimeout] ∧ step s = .next (live.setPending [.interByteTimeout])) := ⟨rfl, rfl⟩
theorem test_limits_at_their_figures :
    (let gap (now : Nat) : State := { live with link := { live.link with held := [0xA5] }, now := now };
    let idle (now : Nat) : State := { seat .active live with now := now };
    (gap 50).due = [] ∧ (gap 51).due = [.interByteTimeout] ∧ (idle 179999).due = [] ∧ (idle 180000).due = [.idleTimerExpiry 0]) := by
  decide +kernel
theorem test_step_on_an_empty_queue :
    (let waits := asks live .status [];
    live.pending = [] ∧ step live = .next { live with now := 1 } ∧ step State.reset = .next { State.reset with now := 1 } ∧
    waits.pending = [] ∧ step waits = .next { waits with pending := [.status 7] }) := ⟨rfl, rfl, rfl, rfl, rfl⟩
theorem test_invariants_hold_where_a_step_goes_on :
    Memory.wf State.reset.spool.mem = true ∧ State.reset.link.Bounded ∧ State.reset.orders.CopiesCounted ∧ State.reset.DoorKept ∧
    State.reset.spool.BlocksCounted ∧
    ∃ t, step State.reset = .next t := by
  refine ⟨rfl, ⟨by decide, by decide, by decide, by decide, by decide, rfl⟩, ?_, ?_, ?_, _, rfl⟩
  · intro k o h
    have free : ∀ k, (State.reset.orders.records.get k).body = none := by decide +kernel
    rw [free k] at h
    cases h
  · exact ⟨by decide, by decide⟩
  · exact ⟨by decide +kernel, fun y h => nomatch (h : y ∈ ([] : List Raster))⟩

/-! ### The command link -/

def requestFrame (tag code : Byte) (p : List Byte) : List Byte := Frame.bytes { kind := .request, tag := tag, code := code, payload := p }
def entries (n : Nat) : List Entry :=
  (List.range n).map (fun k => { tag := BitVec.ofNat 8 (k + 1), code := .status, payload := [], taken := false })
def frames (n : Nat) : List Frame := List.replicate n { kind := .notice, tag := 0, code := 0xC0, payload := [0, 0] }
def linked (table : List Entry) (queue : List Frame) (s : State) : State :=
  { s with link := { s.link with table := table, queue := queue } }

/-- One arrival under each branch of the statement: no place, tag busy, busy, unknown, malformed, standby, entered. -/
theorem test_arrivals :
    (let full := linked (entries 8) (frames 40) live;
    let asleep : State := { live with power := { live.power with standby := true } };
    full.link.held = [] ∧ 48 ≤ full.link.queue.length + full.link.table.length ∧
    (after (.frameReceived (requestFrame 9 0x02 [])) full).link.errors = 1 ∧
    told (after (.frameReceived (requestFrame 1 0x02 [])) (linked (entries 1) [] live)) = [(0x02, [0x10])] ∧
    told (after (.frameReceived (requestFrame 9 0x02 [])) (linked (entries 8) [] live)) = [(0x02, [0x11])] ∧
    told (after (.frameReceived (requestFrame 1 0x03 [])) live) = [(0x03, [0x12])] ∧
    told (after (.frameReceived (requestFrame 1 0x10 [])) live) = [(0x10, [0x13])] ∧
    asleep.power.standby = true ∧ told (after (.frameReceived (requestFrame 1 0x10 [0])) asleep) = [(0x10, [0x14])] ∧
    (after (.frameReceived (requestFrame 1 0x02 [])) asleep).link.table.length = 1 ∧
    (after (.frameReceived (requestFrame 1 0x10 [0, 9])) (linked (entries 0) (frames 47) live)).link.table =
      [{ tag := 1, code := .sessionOpen, payload := [0, 9], taken := false }]) := by decide +kernel
/-- A reply, a frame of LENGTH 4097, a wrong CRC with a whole request behind it, and a gap within a frame. -/
theorem test_discards :
    (let reply : Frame := { kind := .reply, tag := 1, code := 2, payload := [] };
    let long : List Byte := [0xA5, 1, 1, 2, 0x01, 0x10];
    let wrong : List Byte := [0xA5, 1, 1, 2, 0, 0, 0, 0];
    let held : State := { live with link := { live.link with held := [0xA5, 1] } };
    (after (.frameReceived reply.bytes) live).link.errors = 1 ∧
    (∀ type ∈ [(0 : Byte), 2, 3, 4, 0xFF], type ≠ 1 ∧
      (after (.frameReceived ([0xA5, type, 1, 2, 0, 0] ++ crcBytes [type, 1, 2, 0, 0])) live).link.errors = 1 ∧
      (after (.frameReceived ([0xA5, type, 1, 2, 0, 0] ++ crcBytes [type, 1, 2, 0, 0])) live).link.held = []) ∧
    4096 < (0x01 : Byte).toNat + 256 * (0x10 : Byte).toNat ∧
    ((after (.lengthAbove4096 long) live).link.errors, (after (.lengthAbove4096 long) live).link.held) = (1, []) ∧
    [0, 0] ≠ crcBytes [1, 1, 2, 0, 0] ∧ (after (.frameReceived wrong) live).link.errors = 1 ∧
    (after (.frameReceived (wrong ++ requestFrame 1 2 [])) live).link.table.length = 1 ∧
    held.link.held ≠ [] ∧ (after .interByteTimeout held).link.held = [] ∧ (after .interByteTimeout held).link.errors = 1 ∧
    live.link.held = [] ∧ (after .interByteTimeout live).link.errors = 0) := by decide +kernel
theorem test_notices_and_replies :
    (let full := linked [] (frames 40) live;
    let one := linked (entries 1) [] live;
    full.link.queue.countP (fun f => f.kind = .notice) = 40 ∧ (full.notify 0xC0 []).link.dropped = true ∧
    ((linked [] (frames 39) live).notify 0xC0 []).link.queue.length = 40 ∧
    (one.link.table.map (fun e => e.tag)).Nodup ∧
    ((one.replyWith 1 .ok [9]).link.queue, (one.replyWith 1 .ok [9]).link.table) =
      ([{ kind := .reply, tag := 1, code := 0x02, payload := [0, 9] }], []) ∧
    (∀ e ∈ one.link.table, e.tag ≠ 2) ∧ (one.replyWith 2 .ok []).link = one.link ∧
    live.link.queue = [] ∧ (after .frameSent live).link = live.link ∧ (after .frameSent live).sent = []) := by decide +kernel
/-- R10: the bytes the host clocks out are those of the oldest frame, then those of the next, then fill bytes. -/
theorem test_clocking :
    (let reply : Frame := { kind := .reply, tag := 1, code := 2, payload := [] };
    let s := linked [] [reply, reply] live;
    let half := after (.frameReceived [0, 0, 0]) s;
    let bytes : List Byte := [0xA5, 2, 1, 2, 0, 0] ++ crcBytes [2, 1, 2, 0, 0];
    bytes.length = 8 ∧ live.txrdy = false ∧ s.txrdy = true ∧ (after (.frameReceived [0]) live).sent = [.host 0] ∧
    (half.sent, half.link.queue.length, half.link.sending) = ([.host 0xA5, .host 2, .host 1], 2, 3) ∧
    ((after .frameSent half).sent, (after .frameSent half).link.queue, (after .frameSent half).link.sending) =
      (bytes.map .host, [reply], 0) ∧
    ((after (.frameReceived (List.replicate 8 0)) s).link.queue, (after (.frameReceived (List.replicate 8 0)) s).link.sending) =
      ([reply], 0) ∧
    (after (.frameReceived (List.replicate 17 0)) s).sent = (bytes ++ bytes ++ [0]).map .host ∧
    (after (.frameReceived (List.replicate 17 0)) s).txrdy = false) := by decide +kernel
/-- What the statements of the link ask of a state: nothing held, the oldest frame not yet sent whole. -/
theorem test_links_in_frame :
    live.link.InFrame ∧ (linked (entries 8) (frames 40) live).link.InFrame ∧ (linked [] (frames 47) live).link.InFrame := by
  refine ⟨rfl, ?_, ?_⟩ <;> exact (by decide : 0 < 10)
/-- Before START, out of order, and in STANDBY. -/
theorem test_takings :
    (let waits : State := linked [{ tag := 1, code := .orderOpen, payload := [0, 1], taken := false }] [] live;
    let asleep : State := { waits with power := { waits.power with standby := true } };
    State.reset.power.starting = true ∧ (after (.status 1) State.reset).link = State.reset.link ∧
    waits.link.firstUntaken RequestCode.orderQuery.owner = some { tag := 1, code := .orderOpen, payload := [0, 1], taken := false } ∧
    (after (.orderQuery 1) waits).link = waits.link ∧ (after (.orderOpen 2) waits).link = waits.link ∧
    asleep.power.starting = false ∧ asleep.power.standby = true ∧ (asleep.link.table.map (fun e => e.tag)).Nodup ∧
    asleep.link.firstUntaken RequestCode.orderOpen.owner = some { tag := 1, code := .orderOpen, payload := [0, 1], taken := false } ∧
    told (after (.orderOpen 1) asleep) = [(0x30, [0x14])]) := by decide +kernel

/-! ### Queries -/

/-- Each query, at the last value it takes and at the first it refuses. -/
theorem test_queries :
    (answers .identify [] live).length = 13 ∧
    ((answers .slotQuery [3] live).head?, answers .slotQuery [4] live) = (some 0, [0x22]) ∧
    (answers .tillQuery [] live).head? = some 0 ∧ (answers .spoolQuery [] live).head? = some 0 ∧
    ((answers .printerQuery [2] live).head?, answers .printerQuery [3] live) = (some 0, [0x22]) ∧
    answers .printQueueQuery [0, 1] live = [0, 0, 0, 0] ∧ answers .printQueueQuery [0, 32] live = [0, 0, 0, 0] ∧
    answers .printQueueQuery [0, 0] live = [0x22] ∧ answers .printQueueQuery [0, 33] live = [0x22] ∧
    (answers .conditionQuery [] live).head? = some 0 ∧
    answers .settingGet [3, 65, 0] live = [0, 0x58, 0x02, 0, 0, 0] ∧ answers .settingGet [3, 66, 0] live = [0x22] ∧
    (let s : State := { live with link := { live.link with errors := 3, dropped := true } };
    (answers .status [] s).take 4 = [0, 3, 0, 1] ∧ (after (.status 7) (asks s .status [])).link.errors = 0 ∧
    (after (.status 7) (asks s .status [])).link.dropped = false) := by decide +kernel
theorem test_queries_stand_ready :
    (asks live .slotQuery [3]).Offers .slotQuery 7 [3] ∧ (asks live .printQueueQuery [0, 32]).Offers .printQueueQuery 7 [0, 32] ∧
    (asks live .settingGet [3, 65, 0]).Offers .settingGet 7 [3, 65, 0] ∧ (asks live .status []).Offers .status 7 [] :=
  ⟨offers_asks _ _ _ rfl rfl, offers_asks _ _ _ rfl rfl, offers_asks _ _ _ rfl rfl, offers_asks _ _ _ rfl rfl⟩
theorem test_queries_of_a_session_and_an_order :
    (let s := withEntry h0 (desk .active (withLine 15 (line .p1 1 .none) (order .editing)));
    (asks s .sessionQuery [0, 1]).Offers .sessionQuery 7 [0, 1] ∧ s.current h0 = true ∧ (s.record 0).state = .active ∧
    (answers .sessionQuery [0, 1] s).head? = some 0 ∧ (answers .catalogueList [0, 1, 0, 0, 32] s).head? = some 0 ∧
    answers .catalogueList [0, 1, 0, 0, 33] s = [0x22] ∧ answers .catalogueList [0, 1, 0, 0, 0] s = [0x22] ∧
    (answers .orderQuery [0, 1] s).take 6 = [0, 1, 0, 1, 0, 1] ∧
    (answers .orderQuery [0, 1] (desk .active (order .committed))).length = 63 ∧ (s.order? o0).isSome = true ∧ answers .rasterQuery [0, 1, 16] s = [0x22] ∧
    answers .rasterQuery [0, 1, 14] s = [0x37] ∧ answers .rasterQuery [0, 1, 15] s = [0x64]) := by
  refine ⟨offers_asks _ _ _ rfl rfl, ?_⟩
  decide +kernel

/-! ### Handles and sessions -/

/-- Each clause, at the last record and the first beyond it. -/
theorem test_session_handles :
    (8 ≤ byteAt [8, 1] 0 ∧ answers .orderOpen [8, 1] live = [0x22]) ∧
    (live.current { record := 7, gen := 0 } = false ∧ answers .gateOpen [7, 0] live = [0x20]) ∧
    ((seat .active live).current { record := 0, gen := 2 } = false ∧ answers .sessionClose [0, 2] (seat .active live) = [0x20]) ∧
    (answers .imageRead [7, 0, 0, 0, 0, 0, 0, 0, 0, 1, 0] live = [0x20] ∧ answers .catalogueList [7, 0, 0, 0, 32] live = [0x20] ∧
      answers .imageRead [7, 0, 0, 0, 0, 0, 0, 0, 0, 0xA1, 0x0F] live = [0x22] ∧ answers .catalogueList [7, 0, 0, 0, 33] live = [0x22]) ∧
    ((seat .suspended live).current h0 = true ∧ ((seat .suspended live).record 0).state = .suspended ∧
      answers .imageRead [0, 1, 0, 0, 0, 0, 0, 0, 0, 1, 0] (seat .suspended live) = [0x24] ∧
      answers .orderOpen [0, 1] (seat .suspended live) = [0x24] ∧ answers .gateClose [0, 1] (seat .suspended live) = [0x24]) ∧
    (∀ x ∈ [SessionState.closing, .draining, .settling], (seat x live).current h0 = true ∧ ((seat x live).record 0).state = x ∧
      answers .catalogueList [0, 1, 0, 0, 1] (seat x live) = [0x23] ∧ answers .imageRead [0, 1, 0, 0, 0, 0, 0, 0, 0, 1, 0] (seat x live) = [0x23] ∧
      answers .sessionResume [0, 1] (seat x live) = [0x23] ∧ answers .sessionClose [0, 1] (seat x live) = [0x23]) := by
  decide +kernel
theorem test_order_handles :
    (16 ≤ byteAt [16, 1] 0 ∧ answers .orderQuote [16, 1] live = [0x22]) ∧
    (live.order? { record := 15, gen := 0 } = none ∧ answers .lineRemove [15, 0, 0] live = [0x20]) ∧
    ((desk .suspended (order .editing)).order? o0 = some (order .editing) ∧
      ((desk .suspended (order .editing)).record 0).state = .suspended ∧
      answers .rasterOpen [0, 1, 0] (desk .suspended (order .editing)) = [0x24]) ∧
    (∀ x ∈ [SessionState.closing, .draining, .settling],
      answers .orderCancel [0, 1] (desk x (order .editing)) = [0x23] ∧ answers .rasterData [0, 1, 0, 0, 0, 0, 0] (desk x (order .editing)) = [0x23] ∧
      answers .orderCommit [0, 1, 0] (desk x (order .editing)) = [0x23]) ∧
    answers .orderCancel [0, 1] (desk .suspended (order .editing)) = [0x24] ∧ answers .rasterData [15, 0, 0, 0, 0, 0, 0] live = [0x20] := by
  decide +kernel
/-- R35: a request that names a session restarts its timer, one refused by an earlier check does not (log 21). -/
theorem test_idle_timer_restarts :
    (let s : State := { seat .active live with now := 9 };
    let timer (c : RequestCode) (p : List Byte) : Timer := ((after (c.instr 7) (asks s c p)).record 0).timer;
    (s.record 0).timer = .running 0 ∧ timer .orderOpen [0, 1] = .running 9 ∧ timer .catalogueList [0, 1, 0, 0, 1] = .running 9 ∧
    timer .catalogueList [0, 1, 0, 0, 33] = .running 0 ∧ ((s.touchHandle { record := 0, gen := 2 }).record 0).timer = .running 0) := by
  decide +kernel
theorem test_handles_stand_ready :
    (asks live .orderOpen [8, 1]).Offers .orderOpen 7 [8, 1] ∧ (asks live .orderQuote [16, 1]).Offers .orderQuote 7 [16, 1] ∧
    (asks (desk .closing (order .editing)) .orderCommit [0, 1, 0]).Offers .orderCommit 7 [0, 1, 0] :=
  ⟨offers_asks _ _ _ rfl rfl, offers_asks _ _ _ rfl rfl, offers_asks _ _ _ rfl rfl⟩

/-- A MOUNTED card in slot 0. -/
def mounted (s : State) : State :=
  s.setSlot 0 { Slot.reset with
    state := .mounted, present := true, identity := some { capability := .g3, capacity := 9 }, grade := some .g3 }
/-- Every record in use. -/
def crowded : State :=
  { live with sessions := { live.sessions with records := Vector.replicate 8 { SessionRecord.reset with state := .draining } } }
theorem test_session_open :
    live.power.profile.hasStation .b = false ∧ answers .sessionOpen [1] live = [0x22] ∧ answers .sessionOpen [2] live = [0x22] ∧
    answers .sessionOpen [0] { live with conds := { live.conds with inService := false } } = [0x25] ∧
    answers .sessionOpen [0] { live with power := { live.power with standby := true } } = [0x14] ∧
    (seat .active live).front .a ≠ none ∧ answers .sessionOpen [0] (seat .active live) = [0x30] ∧
    (∀ r, (crowded.record r).state ≠ .idle) ∧ answers .sessionOpen [0] crowded = [0x31] ∧
    (∀ st : Station, st.code = 0 → st = .a) ∧ (live.record 0).state = .idle ∧ live.front .a = none ∧
    answers .sessionOpen [0] (mounted live) = [0, 0, 1, 1] ∧
    ((after (.sessionOpen 7) (asks (mounted live) .sessionOpen [0])).slot 0).state = .scanning ∧
    (after (.sessionOpen 7) (asks (mounted live) .sessionOpen [0])).front .a = some h0 := by
  refine ⟨?_, ?_, ?_, ?_, ?_, ?_, ?_, ?_, ?_, ?station, ?_, ?_, ?_, ?_, ?_⟩
  case station => intro st; cases st <;> decide
  all_goals decide +kernel
theorem test_session_requests_stand_ready :
    (asks live .sessionOpen [0]).Offers .sessionOpen 7 [0] ∧
    (asks { live with power := { live.power with standby := true } } .sessionOpen [0]).Offers .sessionOpen 7 [0] := by
  refine ⟨offers_asks _ _ _ rfl rfl, rfl, fun _ => Or.inr rfl, ?_, rfl⟩
  simp [asks]

/-- A bit of session 0's set, raised. -/
def withBit (i : Fin 8) (s : State) : State := s.setSessionSet 0 ((s.sessionSet 0).set i)
theorem test_session_resume :
    (let waits := withBit 5 (seat .suspended live);
    answers .sessionResume [0, 1] (seat .active live) = [0x23] ∧
    waits.sessionResolved 0 5 = .suspend ∧ answers .sessionResume [0, 1] waits = [0x27] ∧
    answers .sessionResume [0, 1] { seat .suspended live with conds := { live.conds with inService := false } } = [0x27] ∧
    (∀ i, (seat .suspended live).sessionResolved 0 i ≠ .suspend) ∧ answers .sessionResume [0, 1] (seat .suspended live) = [0] ∧
    ((after (.sessionResume 7) (asks (seat .suspended live) .sessionResume [0, 1])).record 0).state = .active) := by decide +kernel

/-- Session 0/1 with slot 0 bound and READY, its one entry and its open gate. -/
def busy : State :=
  let s := withEntry h0 (seat .active live)
  let t := s.setSlot 0 { (mounted live).slot 0 with state := .ready, bound := some h0, scan := some Scan.start }
  (t.setUnit 0 { CashUnit.reset with heard := true, gateOpen := true }).setChallenge
    { running := true, token := 0x3C, pending := true, since := 0, errors := 0 }
theorem test_session_close :
    (let t := after (.sessionClose 7) (asks busy .sessionClose [0, 1]);
    busy.current h0 = true ∧ (busy.record 0).state = .active ∧ (busy.slot 0).bound = some h0 ∧ (busy.slot 1).bound ≠ some h0 ∧
    (∀ q ∈ busy.catalogue.lists.get 0, (busy.catalogue.table.get q).entry ≠ none) ∧
    (busy.record 0).station.bind busy.power.profile.unitOf = some 0 ∧
    (answers .sessionQuery [0, 1] busy).take 6 = [0, 1, 1, 0, 1, 1] ∧ answers .sessionClose [0, 1] busy = [0, 0] ∧ (t.record 0).state = .idle ∧ t.front .a = none ∧ (t.slot 0).state = .left ∧
    t.catalogue.lists.get 0 = [] ∧ (t.unit 0).gateOpen = false) := by decide +kernel
/-- A bill HELD at the close keeps the session CLOSING (2.6). -/
theorem test_session_close_with_a_bill_held :
    (let s := busy.setUnit 0 { busy.unit 0 with escrow := .held 0 500 h0 };
    let t := after (.sessionClose 7) (asks s .sessionClose [0, 1]);
    answers .sessionClose [0, 1] s = [0, 3] ∧ (t.record 0).state = .closing ∧ t.front .a = some h0 ∧
    (t.unit 0).escrow = .returning 0 500 (some h0) 0 ∧ ((after (.billReturned 0) t).record 0).state = .idle) := by decide +kernel
/-- R72: a request behind a close that freed the order it names is BAD_STATE until the session is IDLE or the record is taken anew (log
39). -/
theorem test_requests_behind_a_close :
    (let s := desk .active (order .editing);
    let held := s.setUnit 0 { busy.unit 0 with escrow := .held 0 500 h0 };
    let owed := s.setRecord 0 { s.record 0 with committed := [{ record := 3, gen := 9 }] };
    let close (t : State) : State := after (.sessionClose 7) (asks t .sessionClose [0, 1]);
    let add : List Byte := [0, 1, 0, 0, 1, 0, 0, 1];
    let gone := after (.billReturned 0) (close held);
    ((close held).record 0).state = .closing ∧ (close held).closedOver o0 = true ∧ answers .lineAdd add (close held) = [0x23] ∧
    ((close owed).record 0).state = .draining ∧ answers .lineAdd add (close owed) = [0x23] ∧
    answers .orderQuery [0, 1] (close owed) = [0x20] ∧ answers .rasterQuery [0, 1, 0] (close held) = [0x20] ∧
    (let anew := (close owed).setOrderRecord 0 { gen := 2, body := some (order .editing) };
    anew.closedOver o0 = false ∧ answers .lineAdd add anew = [0x20]) ∧
    (gone.record 0).state = .idle ∧ gone.closedOver o0 = false ∧ answers .lineAdd add gone = [0x20]) := by decide +kernel
/-- 2.6: CLOSING to DRAINING with a committed order, to IDLE with a slip, to SETTLING behind a full log; the last order settles. -/
theorem test_sessions_leave_closing :
    (let s := seat .closing live;
    let one := s.setRecord 0 { s.record 0 with committed := [o0] };
    let rich (s : State) : State := s.setAccount 0 { credit := 300, cashPaid := 300, cardPaid := 0 };
    let full := rich { s with money := { s.money with slips := List.replicate 16 { number := 1, session := none, amount := 1, cause := .lateBill } } };
    let state (t : State) : SessionState := (t.record 0).state;
    s.moneyInFlight h0 = false ∧ state (s.closingExitOf (some h0)) = .idle ∧ (s.closingExitOf (some h0)).front .a = none ∧
    state (one.closingExitOf (some h0)) = .draining ∧ said (one.closingExitOf (some h0)) = [0, 1, 4, 2] ∧
    state ((rich s).closingExitOf (some h0)) = .idle ∧ ((rich s).closingExitOf (some h0)).money.slips.map (fun x => x.amount) = [300] ∧
    state (full.closingExitOf (some h0)) = .settling ∧ (full.closingExitOf (some h0)).sessions.settling = [0] ∧
    state ((one.closingExitOf (some h0)).orderLeft h0 o0 5 0) = .idle) := by decide +kernel
theorem test_idle_timer :
    (let t := after (.idleTimerExpiry 0) (seat .active live);
    (live.record 7).state ≠ .active ∧ (after (.idleTimerExpiry 7) live).link = live.link ∧
    ((seat .active live).record 0).state = .active ∧ ((seat .active live).record 0).timer = .running 0 ∧
    ((seat .active live).sessionSet 0).bits.getLsbD 5 = false ∧ ((seat .active live).sessionSet 0).mask.getLsbD 5 = true ∧
    ((seat .active live).sessionSet 0).recorded.get 5 = .unset ∧
    (t.record 0).state = .suspended ∧ (t.sessionSet 0).bits = 0x20 ∧
    ((after (.idleTimerExpiry 0) ((seat .active live).setSessionSet 0 { bits := 0, mask := 0xDF, recorded := Vector.replicate 8 .unset })).record 0).state =
      .active) := by decide +kernel

/-! ### Card slots and the catalogue -/

/-- CYCLIC sensing in slot 0. -/
def cyclic (s : State) : State :=
  { s with store := { s.store with working := { s.store.working with a1 := put s.store.working.a1 0 1 } } }
theorem test_sensing :
    State.reset.power.starting = true ∧ (after (.slotSample 0 true) State.reset).slot 0 = Slot.reset ∧
    live.cyclic 0 = false ∧ sensed (live.slot 0) true 15 ≠ none ∧ (after (.slotSample 0 true) live).slot 0 =
      { Slot.reset with state := .settling, run := 1 } ∧
    sensed { Slot.reset with state := .settling, run := 13 } true 15 ≠ none ∧
    sensed { Slot.reset with state := .settling, run := 14 } true 15 = none ∧
    (after (.probeDue 0) live).sent = [] ∧ (cyclic live).cyclic 0 = true ∧ (after (.probeDue 0) (cyclic live)).sent = [.card 0 1 .probe] ∧
    (let probed := after (.probeDue 0) (cyclic live);
    (probed.slot 0).inFlight = some .probe ∧ ((after (.probeAnswer (exchange 1)) probed).slot 0).state = .settling ∧ (after (.probeAnswer (exchange 0)) probed).slot 0 = probed.slot 0 ∧
    ((after (.probeTimeout 0) probed).slot 0).state = .empty ∧
    ((after (.probeAnswer (exchange 2)) (after (.probeDue 0) (after (.probeAnswer (exchange 1)) probed))).slot 0).state = .mounting) := by decide +kernel
theorem test_confirmed_changes :
    (let s := live.setSlot 3 { Slot.reset with state := .settling, run := 14 };
    let t := busy.setSlot 0 { busy.slot 0 with run := 14, reads := [{ tag := 9, image := image, offset := 0, length := 1 }] };
    14 ≤ (s.slot 3).run ∧ (s.slot 3).present = false ∧ (s.slot 3).inFlight = none ∧ (s.slot 3).serving = none ∧
    ((after (.slotSample 3 true) s).slot 3).state = .mounting ∧ (after (.slotSample 3 true) s).sent = [.card 3 1 .identification] ∧
    (t.slot 0).present = true ∧ 14 ≤ (t.slot 0).run ∧ ((after (.slotSample 0 false) t).slot 0).state = .empty ∧
    (after (.slotSample 0 false) t).catalogue.removals = [{ owner := h0, slot := 0 }]) := by decide +kernel
/-- The second probe's answer and timeout, in CYCLIC mode. -/
theorem test_confirmed_changes_of_probes :
    (let probing (x : Slot) : State := (cyclic busy).setSlot 0 { x with run := 1, inFlight := some .probe, exchange := 8 };
    let empty := probing { Slot.reset with state := .settling };
    let full := probing { (mounted live).slot 0 with state := .left };
    confirms empty 0 true (.probeAnswer (exchange 8)) (busFree empty (empty.slot 0)) ∧
    confirms full 0 false (.probeTimeout 0) (busFree full (full.slot 0)) ∧
    ((after (.probeAnswer (exchange 8)) empty).slot 0).state = .mounting ∧ ((after (.probeAnswer (exchange 8)) empty).slot 0).exchange = 9 ∧
    (after (.probeAnswer (exchange 7)) empty).slot 0 = empty.slot 0 ∧ ((after (.probeTimeout 0) full).slot 0).state = .empty) := by
  refine ⟨Or.inr ⟨?_, ?_, ?_, rfl, rfl⟩, Or.inr ⟨?_, ?_, ?_, rfl, rfl⟩, ?_, ?_, ?_, ?_⟩ <;> decide +kernel
/-- A card being identified. -/
def mounting (owner : Option SessionHandle) (s : State) : State :=
  s.setSlot 0 { Slot.reset with state := .mounting, present := true, insertionOwner := owner, inFlight := some .identification }
theorem test_identification :
    (let s := mounting none live;
    let good := Instr.identificationAnswer (exchange 0) (.card .g2 77);
    (live.slot 0).inFlight ≠ some .identification ∧ (after good live).slot 0 = Slot.reset ∧ (live.slot 0).state ≠ .mounting ∧
    (after (.identificationTimeout 0) live).slot 0 = Slot.reset ∧
    (s.slot 0).state = .mounting ∧ (s.slot 0).present = true ∧ (s.slot 0).serving = none ∧ s.cyclic 0 = false ∧
    (∀ c ∈ [Instr.identificationAnswer (exchange 0) .error, .identificationAnswer (exchange 0) .noFileSystem, .identificationTimeout 0],
      ((after c s).slot 0).faultCause = some .unreadable) ∧
    (let z := (cyclic s).setSlot 0 { s.slot 0 with run := 1 };
    z.cyclic 0 = true ∧ 1 ≤ (z.slot 0).run ∧ ((after (.identificationTimeout 0) z).slot 0).state = .empty) ∧
    (after (.identificationAnswer (exchange 1) .error) s).slot 0 = s.slot 0 ∧
    ((after good s).slot 0).state = .mounted ∧ ((after good s).slot 0).grade = some .g2 ∧
    ((after good (mounting (some h0) live)).slot 0).state = .left ∧
    ((after good (mounting (some h0) (seat .active live))).slot 0).state = .scanning ∧
    ((after good (mounting none (seat .closing live))).slot 0).state = .mounted) := by decide +kernel
/-- R56: a kiosk reset identifies the card anew, and the answer to the abandoned identification is ignored. -/
theorem test_identification_abandoned_at_a_reset :
    (let s := served (mounting none live);
    let t := after (.kioskReset 7) (asks s .kioskReset []);
    (t.slot 0).state = .mounting ∧ (t.slot 0).exchange = 1 ∧ .card 0 1 .identification ∈ t.sent ∧
    ((after (.identificationAnswer (exchange 0) (.card .g2 77)) t).slot 0).state = .mounting ∧
    ((after (.identificationAnswer (exchange 1) (.card .g2 77)) t).slot 0).state = .mounted) := by decide +kernel
theorem test_image_read :
    (let p (n : Byte) : List Byte := [0, 1, 0, 0, 1, 0x70, 0x3A, 0x0F, 0, n, 0x0F];
    let at' (x : SlotState) (owner : SessionHandle) : State :=
      let s := withEntry owner (seat .active live)
      s.setSlot 0 { (mounted live).slot 0 with state := x, bound := some h0 };
    (asks busy .imageRead (p 0xA0)).Offers .imageRead 7 (p 0xA0) ∧
    answers .imageRead [0, 1, 0, 0, 1, 0, 0, 0, 0, 0, 0] busy = [0x22] ∧ answers .imageRead (p 0xA1) busy = [0x22] ∧
    answers .imageRead [0, 1, 0, 8, 1, 0, 0, 0, 0, 1, 0] busy = [0x22] ∧
    answers .imageRead [0, 1, 0xFF, 7, 1, 0, 0, 0, 0, 1, 0] busy = [0x20] ∧
    answers .imageRead (p 0xA0) (at' .ready { record := 1, gen := 1 }) = [0x21] ∧
    answers .imageRead [0, 1, 0, 0, 1, 0x40, 0x42, 0x0F, 0, 1, 0] busy = [0x32] ∧
    answers .imageRead (p 0xA0) (at' .fault h0) = [0x33] ∧ answers .imageRead (p 0xA0) (at' .left h0) = [0x34] ∧
    answers .imageRead (p 0xA0) (busy.setSlot 0 { busy.slot 0 with
      reads := List.replicate 8 { tag := 9, image := image, offset := 0, length := 1 } }) = [0x11] ∧
    ((after (.imageRead 7) (asks busy .imageRead (p 0xA0))).slot 0).reads =
      [{ tag := 7, image := image, offset := 998000, length := 2000 }]) := by
  refine ⟨offers_asks _ _ _ rfl rfl, ?_⟩
  decide +kernel
/-- A read of 600 bytes being served in slot 0. -/
def reading (got : List Byte) (s : State) : State :=
  (asks s .imageRead []).setSlot 0 { s.slot 0 with
    reads := [{ tag := 7, image := image, offset := 0, length := 600 }], serving := some (.read got), inFlight := some .blockRead }
theorem test_block_reads_of_an_image :
    (let first := reading [] busy;
    let last := reading (List.replicate 512 1) busy;
    let good (n : Nat) : Instr := .blockReadAnswer (exchange 0) (.good (.data (List.replicate n 2)));
    let worn (e : Nat) (g : Grade) : State := first.setSlot 0 { first.slot 0 with errors := e, grade := some g };
    (after (.blockReadAnswer (exchange 1) .error) first).slot 0 = first.slot 0 ∧ ((after (good 512) first).slot 0).exchange = 1 ∧
    ((after (good 512) first).slot 0).serving = some (.read (List.replicate 512 2)) ∧
    (said (after (good 88) last)).length = 1 + 3 + 4 + 2 + 600 ∧ ((after (good 88) last).slot 0).reads = [] ∧
    said (after (.blockReadAnswer (exchange 0) .error) first) = [0x35] ∧ ((after (.blockReadAnswer (exchange 0) .error) first).slot 0).errors = 1 ∧
    (worn 15 .g1).mediaErrLimit = 15 ∧ ((after (.blockReadTimeout 0) (worn 14 .g1)).slot 0).errors = 15 ∧
    ((after (.blockReadTimeout 0) (worn 15 .g1)).slot 0).grade = some .g0 ∧
    ((after (.blockReadTimeout 0) (worn 15 .g0)).slot 0).state = .fault ∧
    ((after (.blockReadTimeout 0) (cyclic first)).slot 0).run = 1 ∧
    ((after (.blockReadTimeout 0) ((cyclic first).setSlot 0 { first.slot 0 with run := 1 })).slot 0).state = .empty) := by
  decide +kernel
/-- A scan step in slot 0, at ordinal `k`. -/
def scanning (k : Nat) (phase : StepPhase) : State :=
  busy.setSlot 0 { busy.slot 0 with
    state := .scanning, scan := some { Scan.start with next := k }, serving := some (.step phase), inFlight := some .blockRead }
def file (size : Nat) (first : List Byte) (more : Bool) : FileRecord := { name := [0x41], size := size, first := first, more := more }
def jpegStart : List Byte := [0xFF, 0xD8, 0xFF]
theorem test_scan_steps :
    (let s := scanning 3 .directory;
    let got (f : FileRecord) : State := after (.blockReadAnswer (exchange 0) (.good (.file f))) s;
    let header := scanning 3 (.header (file 16384 jpegStart true) 0 HeaderFields.none);
    ((after (.blockReadAnswer (exchange 0) (.good .endOfWalk)) s).slot 0).state = .ready ∧
    kindOfFile [1] = none ∧ ((got (file 16384 [1] true)).slot 0).scan = some { Scan.start with next := 4, skippedKind := 1 } ∧
    kindOfFile jpegStart ≠ none ∧ 16383 < s.minImage ∧ s.maxImage < 67108865 ∧
    ((got (file 16383 jpegStart false)).slot 0).state = .ready ∧
    ((got (file 67108865 jpegStart true)).slot 0).scan = some { Scan.start with next := 4, skippedSize := 1 } ∧
    ((after (.blockReadAnswer (exchange 0) (.good (.file (file 1 jpegStart true)))) (scanning 65535 .directory)).slot 0).state = .ready ∧
    s.minImage ≤ 16384 ∧ ((got (file 16384 jpegStart true)).slot 0).serving =
      some (.step (.header (file 16384 jpegStart true) 0 HeaderFields.none)) ∧
    ((after (.blockReadAnswer (exchange 0) (.good (.header HeaderFields.none false))) header).slot 0).inFlight = some .blockRead ∧
    (after (.blockReadAnswer (exchange 0) (.good (.header HeaderFields.none true))) header).catalogue.handOffs.length = 1 ∧
    (header.slot 0).errors + 1 ≤ header.mediaErrLimit ∧
    (after (.blockReadAnswer (exchange 0) .error) header).catalogue.handOffs.length = 1) := by decide +kernel
/-- The ways a scan's block read fails, at the counter's limit and past it; the steps that end a scan. -/
theorem test_scan_steps_that_fail :
    (let f := file 16384 jpegStart true;
    let worn (e : Nat) (g : Grade) (phase : StepPhase) : State :=
      (scanning 3 phase).setSlot 0 { (scanning 3 phase).slot 0 with errors := e, grade := some g };
    let again (t : State) : Option CardCommand × Nat := ((t.slot 0).inFlight, (t.slot 0).errors);
    let failed : Instr := .blockReadAnswer (exchange 0) .error;
    let fault := after failed (worn 15 .g0 .directory);
    let header (e : Nat) (g : Grade) : State := worn e g (.header f 0 HeaderFields.none);
    let sensed (run : Nat) : State := (cyclic (worn 0 .g1 .directory)).setSlot 0 { (worn 0 .g1 .directory).slot 0 with run := run };
    let full := (scanning 65535 .directory).setSlot 0 { (scanning 65535 .directory).slot 0 with
      scan := some { Scan.start with next := 65535, skippedRoom := 2 } };
    let cut := after (.blockReadAnswer (exchange 0) (.good (.file (file 1 jpegStart true)))) full;
    again (after failed (worn 14 .g1 .directory)) = (some .blockRead, 15) ∧
    again (after (.blockReadTimeout 0) (worn 15 .g1 .directory)) = (some .blockRead, 0) ∧
    (fault.slot 0).state = .fault ∧ (told fault).map (fun x => x.1) = [0xC3, 0xC2, 0xCC] ∧ (after failed (header 15 .g1)).catalogue.handOffs.length = 1 ∧
    (after failed (header 15 .g0)).catalogue.handOffs = [] ∧ ((after failed (header 15 .g0)).slot 0).state = .fault ∧
    (sensed 0).cyclic 0 = true ∧ ((after (.blockReadTimeout 0) (sensed 0)).slot 0).run = 1 ∧
    ((after (.blockReadTimeout 0) (sensed 1)).slot 0).state = .empty ∧
    (cut.slot 0).state = .ready ∧ (cut.sessionSet 0).bits.getLsbD 4 = true) := by decide +kernel
/-- R51: the header is read from the blocks of the file's first 64 KiB. -/
theorem test_header_bound :
    (let at_ (size blocks : Nat) : State := scanning 3 (.header (file size jpegStart true) blocks HeaderFields.none);
    let handed (s : State) : Nat := (after (.blockReadAnswer (exchange 0) (.good (.header HeaderFields.none false))) s).catalogue.handOffs.length;
    handed (at_ 16384 30) = 0 ∧ handed (at_ 16384 31) = 1 ∧ handed (at_ 16385 31) = 0 ∧ handed (at_ 67108864 126) = 0 ∧
    handed (at_ 67108864 127) = 1) := by decide +kernel
/-- A file handed to the Catalogue from slot 0. -/
def handOff : HandOff :=
  { owner := h0, slot := 0, ordinal := 0, name := [0x41], size := 20000, kind := .jpeg, fields := HeaderFields.none }
def handed (table : Vector Position 2048) (quota : Nat) : State :=
  let s := scanning 0 (.handed true)
  let t := s.setSlot 0 { s.slot 0 with inFlight := none }
  { t with
    catalogue := { t.catalogue with table := table, lists := put t.catalogue.lists 0 [], handOffs := [handOff] }
    store := { t.store with working := { t.store.working with a1 := put t.store.working.a1 11 quota } } }
theorem test_admission :
    (let free : Vector Position 2048 := Vector.replicate 2048 { gen := 0, entry := none };
    let other : Position := { gen := 1, entry := some { entry h0 with ordinal := 9 } };
    let key : Vector Position 2048 := put free 2 { gen := 1, entry := some (entry h0) };
    let full : Vector Position 2048 := (allFin 16).foldl (fun t i => put t ⟨i.val, by omega⟩ other) free;
    let step (t : Vector Position 2048) (quota : Nat) : State := after (.catalogueAdmission 0) (handed t quota);
    let counts (s : State) : Option (Nat × Nat × Nat) := (s.slot 0).scan.map (fun k => (k.next, k.admitted, k.skippedRoom));
    let s := handed free 1000;
    s.catalogue.handOffs.find? (fun x => x.slot = 0) ≠ none ∧ s.current h0 = true ∧ (s.slot 0).bound = some h0 ∧
    (s.slot 0).state = .scanning ∧ (s.slot 0).inFlight = none ∧
    counts (step key 1000) = some (1, 0, 0) ∧ counts (step free 0) = some (1, 0, 1) ∧ counts (step full 1000) = some (1, 0, 1) ∧
    counts (step free 1000) = some (1, 1, 0) ∧ (step free 1000).catalogue.lists.get 0 = [0] ∧
    (step (put free 0 other) 1000).catalogue.lists.get 0 = [1]) := by decide +kernel
/-- R72's second row: a file handed on before the removal is admitted before its freeing, and freed there; behind the freeing, or of a
session that is gone, it makes no entry. -/
theorem test_admission_behind_a_removal :
    (let free : Vector Position 2048 := Vector.replicate 2048 { gen := 0, entry := none };
    let pulled := (handed free 1000).removalConfirmed 0;
    let taken := after (.catalogueAdmission 0) pulled;
    let emptied := after .catalogueRemovalFreeing taken;
    let late := after (.catalogueAdmission 0) (after .catalogueRemovalFreeing pulled);
    let closing := (handed free 1000).setRecord 0 { (handed free 1000).record 0 with state := .closing };
    (pulled.slot 0).bound = none ∧ (pulled.slot 0).serving = none ∧ pulled.catalogue.handOffs.length = 1 ∧
    pulled.catalogue.removals = [{ owner := h0, slot := 0 }] ∧ taken.catalogue.lists.get 0 = [0] ∧
    (taken.catalogue.table.get 0).entry.isSome = true ∧ emptied.catalogue.lists.get 0 = [] ∧
    emptied.catalogue.table.get 0 = { gen := 1, entry := none } ∧ late.catalogue.lists.get 0 = [] ∧ late.catalogue.handOffs = [] ∧
    (after (.catalogueAdmission 0) closing).catalogue.lists.get 0 = [] ∧ live.catalogue.handOffs = []) := by decide +kernel
theorem test_removal_and_orphans :
    (let order := withLine 0 (line .p1 1 .none) (withLine 1 (line .p1 1 .complete) (order .quoted));
    let s := withEntry h0 (desk .active order);
    let removed : State := { s with catalogue := { s.catalogue with removals := [{ owner := h0, slot := 0 }] } };
    let freed := after .catalogueRemovalFreeing removed;
    let counted : State := { s with orders := { s.orders with
      reports := [{ owner := h0, slot := 0, entries := [(image, 2)] }] } };
    live.catalogue.removals = [] ∧ (after .catalogueRemovalFreeing live).catalogue.removals = [] ∧
    freed.catalogue.lists.get 0 = [] ∧ freed.catalogue.table.get 0 = { gen := 1, entry := none } ∧
    freed.orders.reports = [{ owner := h0, slot := 0, entries := [(image, 0)] }] ∧
    live.orders.reports = [] ∧ (after .orphanMarking live).orders.reports = [] ∧ s.current h0 = true ∧
    ((after .orphanMarking counted).sessionSet 0).bits = 1 ∧
    ((after .orphanMarking counted).order? o0).map (fun o => o.used.map (fun x => x.2.raster)) = some [.orphaned, .complete]) := by
  decide +kernel

/-! ### Orders and pricing -/

theorem test_order_open :
    (let four := (seat .active live).setRecord 0 { (seat .active live).record 0 with committed := List.replicate 4 o0 };
    let none' : State := { seat .active live with orders := { live.orders with
      records := Vector.replicate 16 { gen := 3, body := some (order .committed) } } };
    let t := after (.orderOpen 7) (asks (seat .active live) .orderOpen [0, 1]);
    (asks four .orderOpen [0, 1]).Offers .orderOpen 7 [0, 1] ∧ answers .orderOpen [0, 1] (desk .active (order .editing)) = [0x23] ∧
    (four.record 0).uncommitted = none ∧ answers .orderOpen [0, 1] four = [0x39] ∧
    (∀ k, (none'.orderRecord k).body ≠ none) ∧ answers .orderOpen [0, 1] none' = [0x38] ∧
    ((seat .active live).orderRecord 0).body = none ∧ answers .orderOpen [0, 1] (seat .active live) = [0, 0, 1] ∧
    t.order? o0 = some (order .editing) ∧ (t.record 0).uncommitted = some o0) := by
  refine ⟨offers_asks _ _ _ rfl rfl, ?_⟩
  decide +kernel
/-- Sixteen lines of `n` copies. -/
def long (n : Nat) : Order := { order .editing with lines := Vector.replicate 16 (some (line .p1 n .none)) }
theorem test_line_add :
    (let s := withEntry h0 (desk .active (order .quoted));
    let p (z f n : Byte) : List Byte := [0, 1, 0, 0, 1, z, f, n];
    let many := { long 26 with lines := put (long 26).lines 15 none };
    let t := after (.lineAdd 7) (asks s .lineAdd (p 3 2 99));
    NamesOrder (asks (desk .active (order .quoted)) .lineAdd (p 3 2 99)) .lineAdd 7 (p 3 2 99) o0 (order .quoted) ∧
    answers .lineAdd (p 0 0 1) (desk .active (order .committed)) = [0x23] ∧
    answers .lineAdd (p 4 0 1) s = [0x22] ∧ answers .lineAdd (p 0 3 1) s = [0x22] ∧ answers .lineAdd (p 0 0 0) s = [0x22] ∧
    answers .lineAdd (p 0 0 100) s = [0x22] ∧ answers .lineAdd (p 0 0 1) (desk .active (long 1)) = [0x3A] ∧
    (many.used.map (fun x => x.2.quantity)).sum = 390 ∧ answers .lineAdd (p 0 0 11) (withEntry h0 (desk .active many)) = [0x3B] ∧
    answers .lineAdd (p 0 0 10) (withEntry h0 (desk .active many)) = [0, 15] ∧
    answers .lineAdd [0, 1, 0, 8, 1, 0, 0, 1] s = [0x22] ∧ answers .lineAdd [0, 1, 0xFF, 7, 1, 0, 0, 1] s = [0x20] ∧
    answers .lineAdd (p 0 0 1) (withEntry { record := 1, gen := 1 } (desk .active (order .editing))) = [0x21] ∧
    answers .lineAdd (p 3 2 99) s = [0, 0] ∧ (t.order? o0).map (fun o => (o.state, o.quote, o.used.length)) = some (.editing, none, 1) ∧
    (t.catalogue.entry? image).map (fun e => e.refs) = some 1) := by
  refine ⟨names_desk _ _ _ rfl, ?_⟩
  decide +kernel
theorem test_line_change :
    (let s (r : RasterState) : State := withEntry h0 (desk .active (withLine 3 (line .p1 5 r) (order .quoted)));
    let lost := desk .active (withLine 3 (line .p1 5 .none) (order .quoted));
    let p (k z f n : Byte) : List Byte := [0, 1, k, z, f, n];
    let kept := after (.lineChange 7) (asks (s .complete) .lineChange (p 3 0 1 9));
    NamesOrder (asks lost .lineChange (p 3 0 0 1)) .lineChange 7 (p 3 0 0 1) o0 (withLine 3 (line .p1 5 .none) (order .quoted)) ∧
    answers .lineChange (p 3 0 0 1) (desk .active (order .authorising)) = [0x23] ∧
    answers .lineChange (p 16 0 0 1) (s .none) = [0x37] ∧ answers .lineChange (p 15 0 0 1) (s .none) = [0x37] ∧
    answers .lineChange (p 3 4 0 1) (s .none) = [0x22] ∧ answers .lineChange (p 3 3 2 99) (s .none) = [0] ∧
    answers .lineChange (p 3 0 0 1) (s .orphaned) = [0x43] ∧ answers .lineChange (p 3 0 0 27) (desk .active (long 25)) = [0x3B] ∧
    answers .lineChange (p 3 0 0 25) (desk .active (long 25)) = [0] ∧ answers .lineChange (p 3 1 0 5) lost = [0x20] ∧
    (kept.order? o0).map (fun o => (o.state, o.used.map (fun x => (x.2.quantity, x.2.raster)))) = some (.editing, [(9, .complete)])) := by
  refine ⟨names_desk _ _ _ rfl, ?_⟩
  decide +kernel
theorem test_line_remove :
    (let s := withEntry h0 (desk .active (withLine 15 (line .p1 5 .orphaned) (order .quoted)));
    NamesOrder (asks (desk .active (order .editing)) .lineRemove [0, 1, 16]) .lineRemove 7 [0, 1, 16] o0 (order .editing) ∧
    answers .lineRemove [0, 1, 15] (desk .active (order .committed)) = [0x23] ∧
    answers .lineRemove [0, 1, 16] s = [0x37] ∧ answers .lineRemove [0, 1, 14] s = [0x37] ∧ answers .lineRemove [0, 1, 15] s = [0] ∧
    ((after (.lineRemove 7) (asks s .lineRemove [0, 1, 15])).order? o0).map (fun o => (o.state, o.used)) = some (.editing, [])) := by
  refine ⟨names_desk _ _ _ rfl, ?_⟩
  decide +kernel
/-- The worked table published under revision 41. -/
def priced (limit : Nat) (s : State) : State :=
  { s with store := { s.store with published := put workedTable 36 limit, revision := 41, valid := true } }
theorem test_order_quote :
    (let s := desk .active workedOrder;
    NamesOrder (asks s .orderQuote [0, 1]) .orderQuote 7 [0, 1] o0 workedOrder ∧
    answers .orderQuote [0, 1] (desk .active (order .committed)) = [0x23] ∧ s.store.valid = false ∧
    answers .orderQuote [0, 1] s = [0x36] ∧ answers .orderQuote [0, 1] (priced 1334 (desk .active (order .editing))) = [0x40] ∧
    workedOrder.used ≠ [] ∧ answers .orderQuote [0, 1] (priced 1333 s) = [0x41] ∧
    ((answers .orderQuote [0, 1] (priced 1334 s)).drop 15).take 4 = [0x36, 0x05, 0, 0] ∧
    ((after (.orderQuote 7) (asks (priced 1334 s) .orderQuote [0, 1])).order? o0).map (fun o => o.state) = some .quoted) := by
  refine ⟨names_desk _ _ _ rfl, ?_⟩
  decide +kernel
/-- The worked order QUOTED at 1334, with a printer able for its sizes. -/
def quoted (r : RasterState) : Order :=
  { withLine 1 { line .p1 6 r with finish := .matte } workedOrder with
    state := .quoted, quote := some (PriceTable.quote workedTable 41 workedOrder) }
def till (credit : Nat) (o : Order) : State :=
  let t := priced 500000 (desk .active o)
  (t.setPort 0 { Port.reset with state := .held, kind := some .media8 }).setAccount 0 { credit := credit, cashPaid := 0, cardPaid := 0 }
def able (s : State) : State := s.setPort 0 { Port.reset with state := .cooling, kind := some .media8 }
theorem test_order_commit :
    (let o := quoted .complete;
    let s (credit : Nat) : State := able (till credit o);
    let open' (s : State) : State := s.setTerminal { s.money.terminal with state := .idle };
    let paid := after (.orderCommit 7) (asks (s 1334) .orderCommit [0, 1, 0]);
    let asked := after (.orderCommit 7) (asks (open' (s 1333)) .orderCommit [0, 1, 1]);
    NamesOrder (asks (desk .active o) .orderCommit [0, 1, 2]) .orderCommit 7 [0, 1, 2] o0 o ∧
    answers .orderCommit [0, 1, 2] (s 0) = [0x22] ∧ answers .orderCommit [0, 1, 1] (desk .active workedOrder) = [0x23] ∧
    answers .orderCommit [0, 1, 1] { s 0 with store := { (s 0).store with revision := 42 } } = [0x42] ∧
    answers .orderCommit [0, 1, 1] (able (till 0 (quoted .orphaned))) = [0x43] ∧
    answers .orderCommit [0, 1, 1] (able (till 0 (quoted .writing))) = [0x44] ∧
    (∀ x ∈ o.used, x.2.raster = .complete) ∧ ((till 0 o).port 0).ableFor .p1 = false ∧
    answers .orderCommit [0, 1, 1] (till 0 o) = [0x45] ∧ (∀ x ∈ o.used, ∃ n, ((s 0).port n).ableFor x.2.size = true) ∧
    answers .orderCommit [0, 1, 1] { s 0 with conds := { (s 0).conds with inService := false } } = [0x25] ∧
    answers .orderCommit [0, 1, 0] (s 1334) = [0, 3, 0, 0, 0, 0] ∧ (paid.order? o0).map (fun o => o.state) = some .committed ∧
    paid.prints.queue.length = 3 ∧ (s 1333).money.terminal.state = .absent ∧
    answers .orderCommit [0, 1, 0] (open' (s 1333)) = [0x46] ∧ answers .orderCommit [0, 1, 1] (s 1333) = [0x46] ∧
    answers .orderCommit [0, 1, 1] (open' (s 1333)) = [0, 2, 1, 0, 0, 0, 1, 0] ∧ asked.sent = [.auth 1 1]) := by
  refine ⟨names_desk _ _ _ rfl, ?_⟩
  decide +kernel
theorem test_commit_of_an_order :
    (let s := withEntry h0 (desk .active (quoted .complete));
    (s.orderRecord o0.record).gen = o0.gen ∧ ((quoted .complete).quote.map (fun q => q.total)) = some 1334 ∧
    ((s.commitOrder o0 (quoted .complete) 0).order? o0).map (fun o => (o.state, o.collected, o.used.map (fun x => x.2.copies.queued))) =
      some (.committed, 1334, [12, 6, 2]) ∧
    ((s.commitOrder o0 (quoted .complete) 0).record 0).committed = [o0]) := by decide +kernel
/-- The worked order COMMITTED, two copies of line 2 queued and one in flight of line 1 (5.15). -/
def committed (cancel : Bool) : Order :=
  let l (z : Size) (c : Counters) (q : Nat) : Line := { line z q .complete with copies := c }
  { withLine 0 (l .p1 { Counters.zero with delivered := 12 } 12) (withLine 1 (l .p1 { Counters.zero with queued := 1, inFlight := 1, delivered := 4 } 6)
      (withLine 2 (l .p3 { Counters.zero with queued := 2 } 2) (quoted .complete))) with
    state := .committed, collected := 1334, paidCredit := 500, paidCard := 834, termRef := some 0x107, cancel := cancel }
/-- R97: the last copies final, the order finishes and its money is earned. -/
theorem test_order_finishes :
    (let last := withLine 0 { line .p1 12 .complete with copies := { Counters.zero with delivered := 12 } } (committed false);
    let o := { last with lines := put (put last.lines 1 none) 2 none };
    let s := desk .draining o;
    let t := (s.setRecord 0 { s.record 0 with committed := [o0] }).settleLines o0 [0];
    allFinal (line .p1 1 .complete) = true ∧ allFinal { line .p1 1 .complete with copies := { Counters.zero with queued := 1 } } = false ∧
    t.money.till.earned = 1334 ∧ t.orderRecord 0 = { gen := 1, body := none } ∧ (t.record 0).state = .idle) := by decide +kernel
theorem test_order_cancel :
    (let s := withEntry h0 (desk .active (withLine 0 (line .p1 1 .none) (order .editing)));
    let freed := after (.orderCancel 7) (asks s .orderCancel [0, 1]);
    let asked (c : Bool) : State := desk .active { order .authorising with cancel := c };
    let t := after (.orderCancel 7) (asks (served (desk .draining (committed false))) .orderCancel [0, 1]);
    (asks s .orderCancel [0, 1]).Offers .orderCancel 7 [0, 1] ∧ (s.record 0).state = .active ∧ s.current h0 = true ∧
    answers .orderCancel [0, 1] s = [0, 5] ∧ (freed.orderRecord 0).body = none ∧ (freed.record 0).uncommitted = none ∧
    answers .orderCancel [0, 1] (asked true) = [0x23] ∧ answers .orderCancel [0, 1] (asked false) = [0, 2] ∧
    answers .orderCancel [0, 1] (desk .active (committed false)) = [0x26] ∧
    answers .orderCancel [0, 1] (served (desk .active (committed true))) = [0x23] ∧ (committed false).quote ≠ none ∧
    (t.order? o0).map (fun o => (o.refundedBase, o.refundedTax, o.refunded, o.creditRefunded, o.cancel)) = some (544, 45, 589, 500, true) ∧
    (t.account 0).credit = 500 ∧ t.money.refunds.map (fun x => (x.amount, x.ref)) = [(89, 0x107)]) := by
  refine ⟨offers_asks _ _ _ rfl rfl, ?_⟩
  decide +kernel

/-! ### Credit, cash and card payment -/

/-- Coins of 50 and 200, bills of 500 and 2000 at CU0, which has been heard. -/
def valued (s : State) : State :=
  let t : State := { s with store := { s.store with working := { s.store.working with
    a3 := put (put (put (put s.store.working.a3 0 50) 15 200) 16 500) 31 2000 } } }
  t.setUnit 0 { CashUnit.reset with heard := true }
def challenged (errors : Nat) (s : State) : State :=
  s.setChallenge { running := true, token := 0x3C, pending := true, since := 0, errors := errors }
def gate (s : State) : State := s.setUnit 0 { s.unit 0 with gateOpen := true }
theorem test_gate_open :
    (let s := valued (seat .active live);
    let card : State := { s with power := { s.power with profile := .soloCard } };
    let failed : State := { s with conds := { s.conds with kiosk := { s.conds.kiosk with bits := 0x1000 } } };
    let poor := s.setAccount 0 { credit := 19850, cashPaid := 0, cardPaid := 0 };
    (asks s .gateOpen [0, 1]).Offers .gateOpen 7 [0, 1] ∧
    (card.record 0).station.bind card.power.profile.unitOf = none ∧ answers .gateOpen [0, 1] card = [0x50] ∧
    answers .gateClose [0, 1] card = [0x50] ∧ (s.record 0).station.bind s.power.profile.unitOf = some 0 ∧
    answers .gateOpen [0, 1] { s with conds := { s.conds with inService := false } } = [0x25] ∧
    failed.conds.kiosk.bits.getLsbD 12 = true ∧ answers .gateOpen [0, 1] failed = [0x51] ∧
    answers .gateOpen [0, 1] (s.setUnit 0 CashUnit.reset) = [0x52] ∧
    answers .gateOpen [0, 1] (s.setUnit 0 { s.unit 0 with jammed := true }) = [0x52] ∧
    answers .gateOpen [0, 1] s = [0, 0, 0x01, 0x80, 0x01, 0x80, 1, 0x3C] ∧
    answers .gateOpen [0, 1] poor = [0, 0, 0x01, 0, 0x01, 0x80, 1, 0x3C] ∧
    (after (.gateOpen 7) (asks s .gateOpen [0, 1])).sent = [.enable 0 0x8001 0x8001] ∧
    answers .gateOpen [0, 1] (gate s) = [0, 0, 0, 0, 0, 0, 0, 0]) := by
  refine ⟨offers_asks _ _ _ rfl rfl, ?_⟩
  decide +kernel
theorem test_gate_close :
    (let s := challenged 0 (gate (valued (seat .active live)));
    let held := s.setUnit 0 { s.unit 0 with escrow := .held 0 500 h0 };
    let t := after (.gateClose 7) (asks held .gateClose [0, 1]);
    answers .gateClose [0, 1] (valued (seat .active live)) = [0] ∧ (held.unit 0).gateOpen = true ∧ answers .gateClose [0, 1] held = [0] ∧
    t.sent = [.inhibit 0, .giveBack 0] ∧ (t.unit 0).escrow = .returning 0 500 (some h0) 0 ∧ t.money.challenge.running = false) := by
  decide +kernel
theorem test_challenge_answer :
    (let s (errors : Nat) : State := challenged errors (gate (valued (seat .active live)));
    let held (s : State) (v : Nat) : State := s.setUnit 0 { s.unit 0 with escrow := .held 0 v h0 };
    let right (s : State) : State := after (.challengeAnswer 7) (asks s .challengeAnswer [0x3C, 195]);
    let beyond := right (held ((s 0).setAccount 0 { credit := 19501, cashPaid := 0, cardPaid := 0 }) 500);
    (asks (s 0) .challengeAnswer [0x3C, 195]).Offers .challengeAnswer 7 [0x3C, 195] ∧
    answers .challengeAnswer [0x3C, 195] live = [0, 2, 0] ∧ answers .challengeAnswer [0x3C, 195] (s 3) = [0, 0, 2] ∧
    answers .challengeAnswer [0x3C, 195] (s 0) = [0, 0, 0] ∧ (right (held (s 0) 500)).sent = [.stack 0] ∧
    beyond.sent = [.giveBack 0] ∧ (beyond.sessionSet 0).bits = 0x80 ∧
    answers .challengeAnswer [0x3D, 195] (s 0) = [0, 1, 1] ∧ answers .challengeAnswer [0x3C, 194] (s 1) = [0, 1, 2] ∧
    answers .challengeAnswer [0x3C, 194] (s 2) = [0, 1, 3] ∧
    (after (.challengeAnswer 7) (asks (s 2) .challengeAnswer [0, 0])).conds.kiosk.bits = 0x1000 ∧
    (after (.challengeAnswer 7) (asks (s 2) .challengeAnswer [0, 0])).conds.inService = false) := by
  refine ⟨offers_asks _ _ _ rfl rfl, ?_⟩
  decide +kernel
theorem test_challenge_issue :
    (let s (errors : Nat) : State := challenged errors (gate (valued (seat .active live)));
    live.money.challenge.running = false ∧ (after .challengeIssue live).money.challenge = live.money.challenge ∧
    (after .challengeIssue (s 1)).money.challenge = { running := true, token := 0xDD, pending := true, since := 0, errors := 2 } ∧
    (after .challengeIssue (s 2)).money.challenge.errors = 3 ∧ (after .challengeIssue (s 2)).money.challenge.running = false ∧
    ((after .challengeIssue (s 2)).unit 0).gateOpen = false) := by decide +kernel
def slip (n : BitVec 16) : Slip := { number := n, session := none, amount := 5, cause := .lateBill }
def cardRefund : CardRefund := { session := none, order := none, ref := 3, amount := 9, cause := .stray }
theorem test_slip_take :
    (let logged : State := { live with money := { live.money with slips := List.replicate 16 (slip 8), slipCounter := 0xFFFF } };
    let waits := (seat .settling logged).setAccount 0 { credit := 250, cashPaid := 0, cardPaid := 0 };
    let s : State := { waits with sessions := { waits.sessions with settling := [0] } };
    let t := after (.slipTake 7) (asks s .slipTake []);
    (asks s .slipTake []).Offers .slipTake 7 [] ∧ live.money.slips = [] ∧ answers .slipTake [] live = [0x53] ∧
    logged.sessions.settling = [] ∧ answers .slipTake [] logged = [0, 8, 0, 0xFF, 0, 5, 0, 0, 0, 1] ∧
    answers .slipTake [] s = [0, 8, 0, 0xFF, 0, 5, 0, 0, 0, 1] ∧ t.sessions.settling = [] ∧ t.money.slipCounter = 1 ∧
    t.money.slips.length = 16 ∧ (t.record 0).state = .idle) := by
  refine ⟨offers_asks _ _ _ rfl rfl, ?_⟩
  decide +kernel
theorem test_refund_take_and_make :
    (let logged (n : Nat) : State := { live with money := { live.money with refunds := List.replicate n cardRefund } };
    live.money.refunds = [] ∧ answers .refundTake [] live = [0x53] ∧
    answers .refundTake [] (logged 1) = [0, 0xFF, 0, 0xFF, 0, 3, 0, 9, 0, 0, 0, 3] ∧
    ((logged 15).makeRefund cardRefund).money.refunds.length = 16 ∧ ((logged 15).makeRefund cardRefund).money.till.unlogged = 0 ∧
    ((logged 16).makeRefund cardRefund).money.refunds.length = 16 ∧ ((logged 16).makeRefund cardRefund).money.till.unlogged = 9) := by
  decide +kernel
theorem test_till_roll :
    (let s := served { live with money := { live.money with till := { Till.zero with cashIn := 7 } } };
    answers .tillRoll [] live = [0x26] ∧ s.conds.mode = .service ∧
    answers .tillRoll [] (s.setAccount 7 { credit := 1, cashPaid := 0, cardPaid := 0 }) = [0x54] ∧
    answers .tillRoll [] (s.setOrderRecord 15 { gen := 1, body := some (order .authorising) }) = [0x54] ∧
    (∀ r, (s.account r).credit = 0) ∧ (∀ k, (s.orderRecord k).body = none) ∧ (answers .tillRoll [] s).take 5 = [0, 7, 0, 0, 0] ∧
    (after (.tillRoll 7) (asks s .tillRoll [])).money.till = Till.zero) := by decide +kernel
theorem test_coins_and_bills :
    (let s := gate (valued (seat .active live));
    let poor (credit : Nat) : State := s.setAccount 0 { credit := credit, cashPaid := 0, cardPaid := 0 };
    let held (e : Escrow) : State := s.setUnit 0 { s.unit 0 with escrow := e };
    let late (h : Option SessionHandle) : State := s.setUnit 0 { s.unit 0 with late := some { code := 0, value := 500, session := h } };
    let money (t : State) : Nat × BitVec 32 × BitVec 32 := ((t.account 0).credit, t.money.till.cashIn, t.money.till.overage);
    s.power.starting = false ∧ s.power.profile.usesUnit 0 = true ∧
    money (after (.coin 0 15) s) = (200, 200, 0) ∧ money (after (.coin 0 14) s) = (0, 0, 0) ∧ money (after (.coin 0 16) s) = (0, 0, 0) ∧
    money (after (.coin 0 0) (valued live)) = (0, 50, 50) ∧
    (s.unit 0).escrow = .none ∧ billPasses s 0 2000 = true ∧ ((after (.billHeld 0 15) s).unit 0).escrow = .held 15 2000 h0 ∧
    billTakable s 0 0 = false ∧ ((after (.billHeld 0 1) s).unit 0).escrow = .returning 1 0 (some h0) 0 ∧
    ((after (.billHeld 0 15) (poor 18000)).unit 0).escrow = .held 15 2000 h0 ∧ billTakable (poor 18001) 0 2000 = true ∧
    ((after (.billHeld 0 15) (poor 18001)).sessionSet 0).bits = 0x80 ∧
    ((after (.billHeld 0 0) (valued live)).unit 0).escrow = .returning 0 500 none 0 ∧
    money (after (.billStacked 0) (held (.stacking 0 500 h0 0))) = (500, 500, 0) ∧
    money (after (.billStacked 0) (held (.held 0 500 h0))) = (0, 500, 500) ∧
    money (after (.billStacked 0) (held (.returning 0 500 none 0))) = (0, 500, 500) ∧
    money (after (.billStacked 0) s) = (0, 0, 0) ∧ ((after (.billStacked 0) s).unit 0).boxCount = 1 ∧
    money (after (.billStacked 0) (late (some h0))) = (500, 500, 0) ∧
    (after (.billStacked 0) (late none)).money.slips = [{ number := 1, session := none, amount := 500, cause := .lateBill }] ∧
    ((after (.billReturned 0) (held (.returning 0 500 (some h0) 0))).unit 0).escrow = .none ∧
    ((after (.billReturned 0) s).unit 0).escrow = .none) := by decide +kernel
theorem test_jams :
    (let s := gate (valued (seat .active live));
    let held (e : Escrow) : State := s.setUnit 0 { s.unit 0 with escrow := e };
    let stacking := held (.stacking 0 500 h0 0);
    ((after (.jam 0) (held (.held 0 500 h0))).unit 0).jammed = true ∧ (after (.jam 0) (held (.held 0 500 h0))).sent =
      [.inhibit 0, .giveBack 0] ∧ (after (.jam 0) s).conds.kiosk.bits = 0x20 ∧
    (stacking.unit 0).escrow ≠ .none ∧ ((after (.billHeld 0 0) stacking).unit 0).late = some { code := 0, value := 500, session := some h0 } ∧
    (after (.billHeld 0 0) stacking).sent = [.inhibit 0, .giveBack 0] ∧
    (live.unit 0).heard = false ∧ ((after (.cashUnitSilence 0) live).unit 0).jammed = false ∧
    (s.unit 0).heard = true ∧ (s.unit 0).silent = false ∧ ((after (.cashUnitSilence 0) s).unit 0).jammed = true ∧
    (s.unit 0).escrow.code ∈ [0, 1] ∧ ((after (.escrowTimeout 0) s).unit 0).jammed = false ∧
    (stacking.unit 0).escrow.code ∈ [2, 3] ∧ ((after (.escrowTimeout 0) stacking).unit 0).jammed = true ∧
    ((after (.escrowTimeout 0) (held (.returning 0 500 none 0))).unit 0).escrow = .none) := by decide +kernel
theorem test_boxes :
    (let s := gate (valued (seat .active live));
    let counted := s.setUnit 0 { s.unit 0 with boxCount := 600, fullFlag := true };
    State.reset.power.starting = true ∧ ((after (.coin 0 0) State.reset).unit 0).coins = 0 ∧
    live.power.profile.usesUnit 1 = false ∧ ((after (.boxOut 1) live).unit 1).boxIn = true ∧
    ((after (.cashHeartbeat 0) live).unit 0).heard = true ∧
    (after (.boxFull 0) s).conds.kiosk.bits = 8 ∧ (after (.boxFull 0) s).sent = [.enable 0 0x8001 0] ∧
    ((after (.boxOut 0) s).unit 0).boxIn = false ∧ (after (.boxOut 0) s).conds.kiosk.bits = 0 ∧
    ((after (.boxIn 0) counted).unit 0).boxCount = 600 ∧ (after (.boxIn 0) counted).conds.kiosk.bits = 8 ∧
    (served counted).conds.mode = .service ∧ ((after (.boxIn 0) (served counted)).unit 0).boxCount = 0 ∧
    (after (.boxIn 0) (served counted)).conds.kiosk.bits = 0) := by decide +kernel
def auth (amount : Nat) : Auth := { order := o0, session := h0, amount := amount, ref := 7 }
/-- The quoted order AUTHORISING at the terminal. -/
def paying (x : TerminalState) : State :=
  let s := desk .active { quoted .complete with state := .authorising, paidCredit := 1200 }
  s.setTerminal { s.money.terminal with state := x }
theorem test_approvals :
    (let busy := paying (.busy (auth 134) 0);
    let gone := live.setTerminal { live.money.terminal with
      state := .idle, lastEnded := some { ref := 7, session := some h0, order := some o0 } };
    let causes (s : State) : List (Nat × RefundCause) := s.money.refunds.map (fun x => (x.amount, x.cause));
    (live.setTerminal { live.money.terminal with state := .idle, waiting := [auth 5] }).handTerminal.sent = [.auth 7 5] ∧
    live.handTerminal.sent = [] ∧ (terminalHeard busy).money.terminal.state = .busy (auth 134) 0 ∧
    ((after (.approved 7 134 []) busy).order? o0).map (fun o => (o.state, o.paidCard)) = some (.committed, 134) ∧
    causes (after (.approved 7 135 []) busy) = [(135, .mismatch)] ∧
    causes (after (.approved 7 134 []) (paying (.cancelling 7 (some (auth 134)) 0))) = [(134, .late)] ∧
    causes (after (.approved 7 134 []) (paying (.cancelling 7 none 0))) = [(134, .stray)] ∧
    causes (after (.approved 7 134 []) gone) = [(134, .late)] ∧ causes (after (.approved 8 134 []) gone) = [(134, .stray)] ∧
    causes (after (.approved 8 134 []) busy) = [(134, .stray)] ∧ (after (.approved 7 134 []) live).money.till.cardIn = 134) := by
  decide +kernel
/-- R121: a waiting authorisation leaves the queue at its cancel, one in BUSY is cancelled at the port. -/
theorem test_cancels_of_authorisations :
    (let waiting := paying .idle;
    let s := waiting.setTerminal { waiting.money.terminal with waiting := [auth 134] };
    (s.cancelAuth o0).money.terminal.waiting = [] ∧ ((s.cancelAuth o0).order? o0).map (fun o => o.state) = some .quoted ∧
    ((paying (.busy (auth 134) 0)).cancelAuth o0).sent = [.cancelAuth 7] ∧ (live.cancelAuth o0).sent = []) := by decide +kernel
/-- R125: an order in each state the statement names, and the money the same after its event. -/
theorem test_money_moves :
    (let q := till 1334 (quoted .complete);
    let a := paying (.busy (auth 134) 0);
    let c := desk .draining (committed false);
    let paid := { quoted .complete with paidCredit := 1334 };
    live.money.till = Till.zero ∧ (∀ r, (live.account r).credit = 0) ∧ (∀ k, (live.orderRecord k).body = none) ∧ unaccounted live = 0 ∧
    (after (.coin 0 15) (gate (valued (seat .active live)))).money.till.cashIn = 200 ∧
    unaccounted (after (.coin 0 15) (gate (valued (seat .active live)))) = 0 ∧
    (q.order? o0).isSome = true ∧ (quoted .complete).state = .quoted ∧ 1334 ≤ (q.account 0).credit ∧ (quoted .complete).paidCard = 0 ∧
    (quoted .complete).refunded = 0 ∧ unaccounted ((q.setCredit 0 0).commitOrder o0 paid 0) = unaccounted q ∧
    (a.order? o0).map (fun o => (o.state, o.paidCard, o.refunded)) = some (.authorising, 0, 0) ∧ (auth 134).order = o0 ∧
    unaccounted (a.endUnapproved (auth 134) .declined) = unaccounted a ∧
    (c.order? o0).map (fun o => (o.state, o.collected, o.paidCredit + o.paidCard, o.refunded)) = some (.committed, 1334, 1334, 0) ∧
    unaccounted (c.finishOrder o0 (committed false)) = unaccounted c) := by decide +kernel
theorem test_authorisations_end :
    (let busy := paying (.busy (auth 134) 0);
    let cancelling := paying (.cancelling 7 (some (auth 134)) 0);
    let asked : State := busy.setOrder 0 { quoted .complete with state := .authorising, paidCredit := 1200, cancel := true };
    let order (s : State) : Option (OrderState × Nat) := (s.order? o0).map (fun o => (o.state, (s.account 0).credit));
    live.order? o0 = none ∧ (live.endUnapproved (auth 1) .declined).link = live.link ∧
    order (after (.declined 7 0) busy) = some (.quoted, 1200) ∧ ((after (.declined 7 0) busy).sessionSet 0).bits = 4 ∧
    order (after (.cancelled 7) cancelling) = some (.quoted, 1200) ∧ ((after (.cancelled 7) asked).order? o0).isNone = true ∧
    ((after (.cancelled 7) asked).sessionSet 0).bits = 0 ∧ order (after (.declined 8 0) busy) = some (.authorising, 0) ∧
    (after (.declined 7 0) (paying (.cancelling 7 none 0))).money.terminal.state = .idle ∧
    (after .terminalHeartbeat live).money.terminal.state = .idle ∧ (after .terminalHeartbeat State.reset).money.terminal.state = .absent ∧
    (after .terminalSilence live).money.terminal.state = .absent ∧ (after .terminalSilence busy).money.terminal.state = .lost ∧
    order (after .terminalSilence busy) = some (.quoted, 1200) ∧ (after .terminalSilence busy).conds.kiosk.bits = 0x80 ∧
    (after .authLimit busy).money.terminal.state = .cancelling 7 none 0 ∧ (after .authLimit busy).sent = [.cancelAuth 7] ∧
    ((after .authLimit busy).sessionSet 0).bits = 2 ∧ (after .authLimit live).sent = [] ∧
    order (after .cancelLimit cancelling) = some (.quoted, 1200) ∧
    (after .cancelLimit (paying (.cancelling 7 none 0))).money.terminal.state = .idle ∧
    (after .cancelLimit busy).money.terminal.state = .busy (auth 134) 0) := by decide +kernel

/-! ### The raster spool -/

/-- The raster of line 0 of order 0/1, of size P1. -/
def raster (accepted written : Nat) : Raster :=
  { order := o0, line := 0, size := .p1, blocks := List.range 25, written := written, accepted := accepted, complete := false
    charged := some h0 }
/-- Line 0 WRITING at the raster given. -/
def writing (x : Raster) : State :=
  let s := desk .active (withLine 0 (line .p1 1 .writing) (order .editing))
  { s with spool := { s.spool with free := (List.range 1024).drop 25, rasters := [x] } }
theorem test_raster_open :
    (let s (r : RasterState) : State := desk .active (withLine 0 (line .p1 1 r) (order .quoted));
    let spool (s : State) (n : Nat) : State := { s with spool := { s.spool with free := List.range n } };
    let share (n : Nat) : State := { s .none with store := { (s .none).store with
      working := { (s .none).store.working with a6 := put (s .none).store.working.a6 0 n } } };
    let t := after (.rasterOpen 7) (asks (s .none) .rasterOpen [0, 1, 0]);
    NamesOrder (asks (desk .active (order .editing)) .rasterOpen [0, 1, 16]) .rasterOpen 7 [0, 1, 16] o0 (order .editing) ∧
    answers .rasterOpen [0, 1, 0] (desk .active (order .committed)) = [0x23] ∧ answers .rasterOpen [0, 1, 16] (s .none) = [0x22] ∧
    answers .rasterOpen [0, 1, 15] (s .none) = [0x37] ∧ answers .rasterOpen [0, 1, 0] (s .writing) = [0x60] ∧
    answers .rasterOpen [0, 1, 0] (s .complete) = [0x60] ∧ answers .rasterOpen [0, 1, 0] (s .orphaned) = [0x43] ∧
    answers .rasterOpen [0, 1, 0] (spool (s .none) 24) = [0x61] ∧ answers .rasterOpen [0, 1, 0] (share 24) = [0x62] ∧
    answers .rasterOpen [0, 1, 0] (share 25) = [0, 0x80, 0xE0, 0x62, 0, 25, 0xE7, 3, 25, 0] ∧
    t.spool.rasters.map (fun x => x.blocks) = [List.range 25] ∧ t.spool.free.length = 999) := by
  refine ⟨names_desk _ _ _ rfl, ?_⟩
  decide +kernel
theorem test_raster_data :
    (let s := writing (raster 0 0);
    let p (k o : Byte) (n : Nat) : List Byte := [0, 1, k, o, 0, 0, 0] ++ List.replicate n 9;
    let t := after (.rasterData 7) (asks s .rasterData (p 0 0 3));
    let ended := after .writeEnd t;
    (asks s .rasterData (p 0 0 4089)).Offers .rasterData 7 (p 0 0 4089) ∧ 4088 < ((p 0 0 4089).drop 7).length ∧
    answers .rasterData (p 0 0 4089) s = [0x22] ∧ answers .rasterData (p 0 0 1) (desk .active (order .authorising)) = [0x23] ∧
    answers .rasterData (p 16 0 1) s = [0x22] ∧ answers .rasterData (p 15 0 1) s = [0x37] ∧
    answers .rasterData (p 0 0 1) (desk .active (withLine 0 (line .p1 1 .none) (order .editing))) = [0x64] ∧
    answers .rasterData (p 0 1 1) s = [0x63] ∧
    answers .rasterData [0, 1, 0, 0x7F, 0xE0, 0x62, 0, 1, 2] (writing (raster 6479999 6479999)) = [0x32] ∧
    t.link.queue = [] ∧ t.spool.granted = some .writer ∧ t.spool.rasters.map (fun x => x.accepted) = [3] ∧
    said ended = [0, 3, 0, 0, 0, 1] ∧ ended.spool.mem = [(0, 9), (1, 9), (2, 9)] ∧ ended.spool.granted = none) := by
  refine ⟨offers_asks _ _ _ rfl rfl, ?_⟩
  decide +kernel
theorem test_memory :
    Memory.wf [] = true ∧ Memory.wf [(3, 7)] = true ∧ Memory.read (Memory.write [(3, 7)] 3 0) 3 = 0 ∧ Memory.write [(3, 7)] 3 0 = [] ∧
    Memory.read (Memory.write [(3, 7)] 2 5) 3 = 7 := by decide +kernel
/-- The last byte of a raster makes it COMPLETE. -/
theorem test_last_write :
    (let s := writing (raster 6479999 6479999);
    let t := after .writeEnd (after (.rasterData 7) (asks s .rasterData [0, 1, 0, 0x7F, 0xE0, 0x62, 0, 5]));
    said t = [0, 0x80, 0xE0, 0x62, 0, 2] ∧ (t.order? o0).map (fun o => o.used.map (fun x => x.2.raster)) = some [.complete] ∧
    t.spool.mem = [(6479999, 5)] ∧ Memory.wf t.spool.mem = true) := by decide +kernel
theorem test_raster_abort :
    (let s := writing (raster 0 0);
    let kept := withEntry h0 s;
    let state (t : State) : Option (List RasterState) := (t.order? o0).map (fun o => o.used.map (fun x => x.2.raster));
    let w : Write := { tag := 9, order := o0, line := 0, offset := 0, data := [1] };
    let queued : State := { s with spool := { s.spool with writes := [w], granted := some .writer } };
    NamesOrder (asks (desk .active (order .committed)) .rasterAbort [0, 1, 0]) .rasterAbort 7 [0, 1, 0] o0 (order .committed) ∧
    answers .rasterAbort [0, 1, 0] (desk .active (order .committed)) = [0x23] ∧ answers .rasterAbort [0, 1, 16] s = [0x22] ∧
    answers .rasterAbort [0, 1, 15] s = [0x37] ∧
    answers .rasterAbort [0, 1, 0] (desk .active (withLine 0 (line .p1 1 .none) (order .editing))) = [0x64] ∧
    answers .rasterAbort [0, 1, 0] s = [0, 0, 4] ∧ state (after (.rasterAbort 7) (asks s .rasterAbort [0, 1, 0])) = some [.orphaned] ∧
    state (after (.rasterAbort 7) (asks kept .rasterAbort [0, 1, 0])) = some [.none] ∧
    live.raster? o0 0 = none ∧ (live.freeRaster o0 0).spool.free = live.spool.free ∧ queued.raster? o0 0 = some (raster 0 0) ∧
    (queued.freeRaster o0 0).spool.writes = [] ∧ (queued.freeRaster o0 0).spool.granted = none ∧
    ((queued.freeRaster o0 0).spool.free.drop 999) = List.range 25) := by
  refine ⟨names_desk _ _ _ rfl, ?_⟩
  decide +kernel
/-- Port 0 FEEDING the raster of line 0, its reader at `next` with `untaken` bytes on the link. -/
def feeding (next untaken : Nat) (asks : Bool) : State :=
  let s := writing { raster 6480000 6480000 with complete := true }
  let t := s.setPort 0 { Port.reset with
    state := .feeding, kind := some .media8, attempt := some { copyId := 5, order := o0, line := 0, second := false, need := 1 } }
  t.setReader 0 { job := some (o0, 0), next := next, asks := asks, untaken := untaken }
theorem test_spool_port :
    (let w : Write := { tag := 9, order := o0, line := 15, offset := 0, data := [1] };
    let both := { feeding 0 0 true with spool := { (feeding 0 0 true).spool with writes := [w] } };
    let granted (next : Nat) : State := (feeding next 0 true).grantSpool;
    both.grantSpool.spool.granted = some .writer ∧
    ({ both with spool := { both.spool with last := .writer } } : State).grantSpool.spool.granted = some (.reader 0) ∧
    live.grantSpool.spool.granted = none ∧ live.spool.writes = [] ∧ (after .writeEnd live).link = live.link ∧
    both.raster? w.order w.line = none ∧ (after .writeEnd both.grantSpool).spool.writes = [] ∧
    (granted 0).spool.granted = some (.reader 0) ∧ ((after (.readTransferEnd 0) (granted 0)).reader 0).untaken = 4096 ∧
    ((after (.readTransferEnd 0) (granted 6479900)).reader 0).untaken = 100 ∧ (after (.readTransferEnd 1) (granted 0)).sent = [] ∧
    (after (.readTransferEnd 0) (granted 6479998)).sent = [.raster 0 [0, 0]]) := by decide +kernel
theorem test_bytes_taken :
    (let reader (n : Nat) (s : State) : Nat × Bool :=
      (((after (.rasterBytesTaken 0 n) s).reader 0).untaken, ((after (.rasterBytesTaken 0 n) s).reader 0).asks);
    let last := feeding 6480000 100 false;
    (live.port 0).state ≠ .feeding ∧ (after (.rasterBytesTaken 0 1) live).sent = [] ∧
    reader 0 (feeding 4096 4096 false) = (4096, false) ∧ reader 4095 (feeding 4096 4096 false) = (1, false) ∧
    reader 4096 (feeding 4096 4096 false) = (0, true) ∧ reader 99 last = (1, false) ∧
    ((after (.rasterBytesTaken 0 100) last).port 0).state = .printing ∧ (after (.rasterBytesTaken 0 100) last).sent = [.rasterEnd 0]) := by
  decide +kernel

/-! ### Print dispatch -/

def port (x : Port) : State := live.setPort 0 x
def kindOf (x : PortState) (k : Option MediaKind) (run errors : Nat) : State :=
  port { Port.reset with state := x, kind := k, run := run, errors := errors, units := 9 }
theorem test_status_reports :
    (let state (x : PortState) (r : PrinterReport) (k : MediaKind) : PortState :=
      ((after (.statusReport 0 r k) (kindOf x (some .media8) 2 1)).port 0).state;
    let failing := feeding 0 0 true;
    (((after (.statusReport 0 .ready .media6) live).port 0).kind, ((after (.statusReport 0 .ready .media6) live).port 0).state) =
      (some .media6, .ready) ∧
    ((after (.statusReport 0 .busy .media6) live).port 0).state = .cooling ∧
    ((after (.statusReport 0 (.error .jam) .media6) live).port 0).fault = some .jam ∧
    state .fault .ready .media8 = .fault ∧ state .ready .ready .media6 = .fault ∧ state .offline .busy .media6 = .fault ∧
    ((after (.statusReport 0 .ready .media6) failing).port 0).fault = some .mediaMismatch ∧
    state .ready .ready .media8 = .ready ∧ state .ready .cooling .media8 = .cooling ∧ state .ready (.error .headFault) .media8 = .fault ∧
    ((after (.statusReport 0 .busy .media8) failing).port 0).state = .feeding ∧
    ((after (.statusReport 0 (.error .ribbonOut) .media8) failing).port 0).fault = some .ribbonOut ∧
    state .cooling .ready .media8 = .ready ∧ state .cooling .busy .media8 = .cooling ∧ state .held .ready .media8 = .held ∧
    state .held (.error .mediaOut) .media8 = .fault ∧ state .offline .ready .media8 = .ready ∧
    ((after (.statusReport 0 .ready .media8) (kindOf .offline none 1 1)).port 0).run = 2 ∧
    ((after (.statusReport 0 .ready .media8) (kindOf .offline none 2 2)).port 0).run = 0 ∧
    ((after (.statusReport 0 .busy .media8) (kindOf .offline none 2 0)).port 0).run = 0 ∧
    ((after (.statusReport 0 .ready .media8) (port { Port.reset with state := .cooling, kind := some .media8, hold := true })).port 0).state =
      .held) := by decide +kernel
theorem test_outcomes :
    (let s := feeding 0 0 true;
    let printing := s.setPort 0 { s.port 0 with state := .printing };
    let state (c : Instr) (s : State) : PortState := ((after c s).port 0).state;
    state (.done 0 6) s = .feeding ∧ state (.fail 0 6 .jam) printing = .printing ∧ (s.port 0).attempt.map (fun a => a.copyId) = some 5 ∧
    state (.fail 0 5 .jam) s = .fault ∧ state (.fail 0 5 .dataError) s = .cooling ∧ state (.done 0 5) s = .cooling ∧
    state (.done 0 5) printing = .cooling ∧ state (.feedLimit 0) s = .cooling ∧ state (.feedLimit 0) printing = .printing ∧
    state (.printLimit 0) printing = .cooling ∧ state (.printLimit 0) s = .feeding ∧
    (after (.feedLimit 0) s).sent = [.cancelCopy 0 5]) := by decide +kernel
/-- Two tasks wait: P4 at the head, P1 behind it (8.6). -/
def tasks (k : MediaKind) (units : Nat) : State :=
  let l (z : Size) : Line := { line z 2 .complete with copies := { Counters.zero with queued := 1, retryPending := 1 } }
  let s := desk .active (withLine 0 (l .p4) (withLine 1 (l .p1) (quoted .complete)))
  let t := s.setOrder 0 { withLine 0 (l .p4) (withLine 1 (l .p1) (quoted .complete)) with state := .committed }
  { t.setPort 0 { Port.reset with state := .ready, kind := some k, units := units } with
    prints := { (t.setPort 0 { Port.reset with state := .ready, kind := some k, units := units }).prints with
      queue := [{ order := o0, line := 0 }, { order := o0, line := 1 }] } }
theorem test_takes :
    (let taken (s : State) : Option (Fin 16 × Bool × Nat) := ((s.portTake 0).port 0).attempt.map (fun a => (a.line, a.second, a.need));
    let full := tasks .media8 2;
    let held := full.setPort 0 { full.port 0 with hold := true };
    taken full = some (0, true, 2) ∧ taken (tasks .media6 12) = some (1, true, 1) ∧ taken (tasks .media8 1) = some (1, true, 1) ∧
    taken (tasks .media8 0) = none ∧ taken held = none ∧ taken live = none ∧
    full.eligible 0 { order := o0, line := 0 } = true ∧ (tasks .media6 2).eligible 0 { order := o0, line := 0 } = false ∧
    ((full.portTake 0).port 0).units = 0 ∧ (full.portTake 0).sent = [.job 0 1 .p4 .gloss] ∧ (full.portTake 0).prints.copyId = 2 ∧
    (({ full with prints := { full.prints with copyId := 65535 } } : State).portTake 0).prints.copyId = 1) := by decide +kernel
theorem test_copies_delivered_and_failed :
    (let s := desk .draining (committed false);
    let a (second : Bool) : Attempt := { copyId := 5, order := o0, line := 1, second := second, need := 1 };
    let line (s : State) : Option (Nat × Nat × Nat × Nat) := (s.order? o0).bind (fun o => (o.lines.get 1).map (fun l =>
      (l.copies.inFlight, l.copies.retryPending, l.copies.delivered, l.copies.finalFailed)));
    let refund (s : State) : Option (Nat × Nat) := (s.order? o0).map (fun o => (o.refunded, o.creditRefunded));
    (s.copyDelivered 0 { a false with line := 0 }).link = s.link ∧ (s.copyFailed 0 { a false with line := 0 } .jam).link = s.link ∧
    ((s.copyDelivered 0 (a true)).link.queue.map (fun f => (f.code, f.payload[8]?))).head? = some (0xC5, some 0xFF) ∧
    line s = some (1, 0, 4, 0) ∧ line (s.copyDelivered 0 (a true)) = some (0, 0, 5, 0) ∧
    line (s.copyFailed 0 (a false) .jam) = some (0, 1, 4, 0) ∧ line (s.copyFailed 0 (a true) .jam) = some (0, 0, 4, 1) ∧
    refund (s.copyFailed 0 (a true) .jam) = some (48, 48) ∧ ((s.copyFailed 0 (a true) .jam).sessionSet 0).bits = 8 ∧
    line ((desk .draining (committed true)).copyFailed 0 (a false) .jam) = some (0, 0, 4, 1)) := by decide +kernel
theorem test_ports_go_offline :
    (let s := feeding 0 0 true;
    let worn (x : PortState) (n : Nat) : State := kindOf x (some .media8) 2 n;
    let state (c : Instr) (s : State) : PortState × Nat := (((after c s).port 0).state, ((after c s).port 0).errors);
    State.reset.power.starting = true ∧ state (.printerSilence 0) State.reset = (.absent, 0) ∧
    state (.statusReport 0 .ready .media8) State.reset = (.absent, 0) ∧
    state (.printerCorruptFrame 0) live = (.absent, 0) ∧ (worn .held 31).prnErrLimit = 31 ∧
    state (.printerCorruptFrame 0) (worn .held 30) = (.held, 31) ∧ state (.printerCorruptFrame 0) (worn .held 31) = (.offline, 32) ∧
    state (.printerCorruptFrame 0) (worn .offline 255) = (.offline, 255) ∧ ((after (.printerCorruptFrame 0) (worn .offline 5)).port 0).run = 0 ∧
    state (.printerSilence 0) live = (.absent, 0) ∧ (after (.printerSilence 0) s).sent = [.cancelCopy 0 5] ∧
    (after (.printerSilence 0) s).conds.kiosk.bits = 0x900 ∧ (kindOf .ready (some .media8) 0 0).evalPrints.conds.kiosk.bits = 0x800) := by
  decide +kernel
theorem test_attendant :
    (let s (x : PortState) : State := served (kindOf x (some .media8) 0 0);
    let free (s : State) : State := s.setPort 0 { s.port 0 with hold := true };
    (asks live .printerHold [3]).Offers .printerHold 7 [3] ∧ answers .printerHold [3] live = [0x26] ∧
    answers .printerHold [3] (served live) = [0x22] ∧ answers .printerRelease [3] (served live) = [0x22] ∧
    answers .mediaLoaded [3, 0, 0, 0] (served live) = [0x22] ∧ answers .printerHold [2] (served live) = [0, 0, 1] ∧
    answers .printerHold [0] (s .ready) = [0, 7, 1] ∧ answers .printerHold [0] (s .feeding) = [0, 2, 1] ∧
    answers .printerRelease [0] (free (s .held)) = [0, 4, 0] ∧ answers .printerRelease [0] (s .ready) = [0, 1, 0] ∧
    9999 < num2At [0, 1, 0x10, 0x27] 2 ∧ answers .mediaLoaded [0, 1, 0x10, 0x27] (s .ready) = [0x22] ∧
    (∀ k : MediaKind, kindCode k = 1 → k = .media8) ∧ answers .mediaLoaded [0, 2, 0, 0] (s .ready) = [0x22] ∧
    answers .mediaLoaded [0, 0, 1, 0] (served live) = [0x23] ∧ answers .mediaLoaded [0, 0, 1, 0] (s .printing) = [0x23] ∧
    answers .mediaLoaded [0, 0, 0x0F, 0x27] (s .fault) = [0, 4, 0, 0x0F, 0x27] ∧
    answers .mediaLoaded [0, 0, 1, 0] (free (s .fault)) = [0, 7, 0, 1, 0] ∧
    answers .mediaLoaded [0, 0, 1, 0] (s .offline) = [0, 6, 0, 1, 0]) := by
  refine ⟨offers_asks _ _ _ rfl rfl, ?_⟩
  refine ⟨?_, ?_, ?_, ?_, ?_, ?_, ?_, ?_, ?_, ?_, ?_, ?kind, ?_⟩
  case kind => intro k; cases k <;> decide
  all_goals decide +kernel

/-! ### Conditions, modes and masks -/

def doors (confirmed : Bool) (run : Nat) (s : State) : State :=
  { s with conds := { s.conds with door := { confirmed := confirmed, run := run } } }
/-- Kiosk bits set with their recorded actions. -/
def kiosk (bits mask : BitVec 16) (i : Fin 16) (a : Action) (s : State) : State :=
  { s with conds := { s.conds with kiosk := { bits := bits, mask := mask, recorded := put (Vector.replicate 16 .unset) i a } } }
def asleep (s : State) : State := { s with power := { s.power with standby := true } }
theorem test_inputs :
    (let opened := after (.doorSample true) (doors false 7 live);
    let closed := after (.doorSample false) (doors true 7 (kiosk 2 0xFFFF 1 .status (served live)));
    let supply : State := { live with conds := { live.conds with supply := { confirmed := false, run := 7 } } };
    let presence : State := { asleep live with power := { (asleep live).power with presence := { confirmed := false, run := 7 } } };
    (after (.doorSample true) State.reset).conds.door = Input.reset ∧
    (after (.doorSample true) live).conds.door = { confirmed := false, run := 1 } ∧
    (after (.doorSample true) (doors false 6 live)).conds.door = { confirmed := false, run := 7 } ∧
    (after (.doorSample false) (doors false 7 live)).conds.door = { confirmed := false, run := 0 } ∧
    opened.conds.door = { confirmed := true, run := 0 } ∧ opened.conds.kiosk.bits = 2 ∧ opened.conds.inService = false ∧
    opened.power.latches = 0 ∧ (after (.doorSample true) (doors false 7 (asleep live))).power.latches = 4 ∧
    closed.conds.mode = .customer ∧ closed.conds.kiosk.bits = 0 ∧ closed.conds.inService = true ∧
    (after (.supplySample true) live).conds.supply.run = 1 ∧ (after (.supplySample true) supply).conds.kiosk.bits = 1 ∧
    (after (.presenceSample true) (asleep live)).power.latches = 0 ∧ (after (.presenceSample true) presence).power.latches = 2 ∧
    ((asleep live).wakeCause .card).power.latches = 1 ∧ (live.wakeCause .card).power.latches = 0) := by decide +kernel
theorem test_set_mode :
    (asks live .setMode [2]).Offers .setMode 7 [2] ∧ answers .setMode [2] live = [0x22] ∧ answers .setMode [1] live = [0x28] ∧
    live.conds.door.confirmed = false ∧ answers .setMode [1] (doors true 0 live) = [0, 1, 0] ∧
    answers .setMode [0] (served live) = [0, 0, 0] ∧ answers .setMode [0] live = [0, 0, 0] ∧ answers .setMode [1] (served live) = [0, 1, 0] := by
  refine ⟨offers_asks _ _ _ rfl rfl, ?_⟩
  decide +kernel
theorem test_resolutions :
    (let s := kiosk 0x1002 0xFFFD 1 .unset live;
    s.kioskResolved 0 = .unset ∧ s.kioskResolved 1 = .hold ∧ s.kioskResolved 12 = .lockout ∧ (served s).kioskResolved 12 = .notify ∧
    (withBit 5 (seat .active live)).sessionResolved 0 5 = .suspend ∧ (served (withBit 5 (seat .active live))).sessionResolved 0 5 = .notify ∧
    (withBit 6 (served (seat .active live))).sessionResolved 0 6 = .suspend ∧
    (live.raiseKiosk 12 []).conds.inService = false ∧ (s.raiseKiosk 12 []).conds.inService = true ∧
    (live.reportLevel 13 true).link.queue.length = 1 ∧ ((served live).reportLevel 13 true).link.queue.length = 0 ∧
    (s.reportLevel 1 false).conds.kiosk.bits = 0x1000 ∧
    live.attn = false ∧ s.attn = true ∧ live.wake = false ∧ ({ live with power := { live.power with latches := 4 } } : State).wake = true ∧
    ({ live with power := { live.power with latches := 4 } } : State).attn = true ∧
    ((seat .active live).suspend 0).front .a = some h0 ∧ (((seat .active live).suspend 0).record 0).state = .suspended ∧
    (((seat .closing live).suspend 0).record 0).state = .closing ∧
    (let t := (challenged 0 (gate (valued (seat .active live)))).lockout;
    (t.conds.inService, (t.unit 0).gateOpen, (t.record 0).state) = (false, false, .suspended))) := by decide +kernel
/-- A raise of a session's set: of a clear bit, of a set bit, of a session that is gone. -/
theorem test_raises_of_a_session :
    (let s := seat .active live;
    let t := s.raiseSession h0 0 [1];
    s.current h0 = true ∧ (t.sessionSet 0).bits = 1 ∧ t.link.queue.length = 1 ∧ (t.raiseSession h0 0 [2]).link.queue.length = 1 ∧
    s.current { record := 0, gen := 2 } = false ∧ (s.raiseSession { record := 0, gen := 2 } 0 []).link.queue = []) := by decide +kernel
theorem test_condition_clear :
    (let s := served (kiosk 0x103A 0xFFFF 12 .lockout (challenged 3 live));
    let jammed := s.setUnit 0 { s.unit 0 with jammed := true };
    let t := after (.conditionClear 7) (asks jammed .conditionClear [0, 0, 0, 0x3F, 0x10]);
    let seated := withBit 5 (withBit 0 (seat .draining live));
    (asks live .conditionClear [2, 0, 0, 0, 0]).Offers .conditionClear 7 [2, 0, 0, 0, 0] ∧
    answers .conditionClear [2, 0, 0, 0, 0] live = [0x22] ∧ answers .maskSet [2, 0, 0, 0, 0] live = [0x22] ∧
    answers .conditionClear [0, 0, 0, 0, 0] live = [0x26] ∧ answers .maskSet [0, 0, 0, 0, 0] live = [0x26] ∧
    answers .conditionClear [1, 8, 0, 0, 0] live = [0x22] ∧ live.current { record := 7, gen := 0 } = false ∧
    answers .maskSet [1, 7, 0, 0, 0] live = [0x20] ∧
    answers .conditionClear [0, 0, 0, 0x3F, 0x10] jammed = [0, 0x20, 0x10, 0x1A, 0] ∧ (t.unit 0).jammed = false ∧
    t.money.challenge.errors = 0 ∧ t.conds.kiosk.recorded.get 12 = .unset ∧
    seated.current h0 = true ∧ answers .conditionClear [1, 0, 1, 0x20, 0] seated = [0, 0x20, 1]) := by
  refine ⟨offers_asks _ _ _ rfl rfl, ?_⟩
  decide +kernel
theorem test_mask_set :
    (let s := served (kiosk 0x0800 0xF7FF 11 .hold live);
    let t := after (.maskSet 7) (asks s .maskSet [0, 0, 0, 0xFF, 0xFF]);
    let seated := (seat .active live).setSessionSet 0 { bits := 0x40, mask := 0xBF, recorded := put (Vector.replicate 8 .unset) 6 .hold };
    s.kioskResolved 11 = .hold ∧ answers .maskSet [0, 0, 0, 0xFF, 0xFF] s = [0, 0xFF, 0xFF, 1, 11, 2] ∧ t.link.queue.length = 2 ∧
    answers .maskSet [1, 0, 1, 0xFF, 0] seated = [0, 0xFF, 1, 6, 3] ∧
    ((after (.maskSet 7) (asks seated .maskSet [1, 0, 1, 0xFF, 0])).record 0).state = .suspended) := by decide +kernel
theorem test_service_restore :
    (let out (s : State) : State := { s with conds := { s.conds with inService := false } };
    let s := out (kiosk 0x1000 0xFFFF 12 .lockout live);
    s.kioskResolved 12 = .lockout ∧ answers .serviceRestore [] s = [0x27] ∧ (∀ i, (served s).kioskResolved i ≠ .lockout) ∧
    answers .serviceRestore [] (served s) = [0, 0] ∧
    (told (after (.serviceRestore 7) (asks (served s) .serviceRestore []))).map (fun x => x.1) = [0xCC, 0x73]) := by decide +kernel

/-! ### Settings, store, start-up, standby and reset -/

def running (op : StoreOp) (s : State) : State := { s with store := { s.store with op := op } }
def guarded (flags : BitVec 7) (s : State) : State := { s with store := { s.store with protection := flags } }
theorem test_setting_put :
    (let s := served live;
    let t := after (.settingPut 7) (asks s .settingPut [2, 35, 0, 0x39, 3, 0, 0]);
    let coded := s.setSlot 0 { Slot.reset with state := .settling, run := 9, grade := some .g3 };
    (asks live .settingPut [0, 0, 0, 0, 0, 0, 0]).Offers .settingPut 7 [0, 0, 0, 0, 0, 0, 0] ∧
    answers .settingPut [0, 0, 0, 60, 0, 0, 0] live = [0x26] ∧ answers .settingPut [0, 0, 0, 60, 0, 0, 0] (running (.saving 9) s) = [0x11] ∧
    answers .settingPut [8, 0, 0, 0, 0, 0, 0] s = [0x22] ∧ answers .settingPut [3, 66, 0, 0, 0, 0, 0] s = [0x22] ∧
    answers .settingPut [2, 35, 1, 0, 0, 0, 0] s = [0x22] ∧ settingKind 1 0 = some (.names 2) ∧
    answers .settingPut [1, 0, 0, 2, 0, 0, 0] s = [0x22] ∧ answers .settingPut [0, 0, 0, 60, 0, 0, 0] (guarded 1 s) = [0x29] ∧
    answers .settingPut [0, 0, 0, 60, 0, 0, 0] s = [0] ∧ answers .settingPut [0, 0, 0, 29, 0, 0, 0] s = [1, 30, 0, 0, 0] ∧
    answers .settingPut [2, 35, 0, 0x39, 3, 0, 0] s = [0] ∧ t.store.draft.rate = 825 ∧ t.store.modified = true ∧
    t.store.published.rate = 0 ∧ answers .settingPut [5, 2, 0, 0xFF, 0, 0, 0] s = [0] ∧
    ((after (.settingPut 7) (asks coded .settingPut [1, 0, 0, 1, 0, 0, 0])).slot 0).run = 0 ∧
    ((after (.settingPut 7) (asks coded .settingPut [1, 4, 0, 1, 0, 0, 0])).slot 0).grade = some .g1 ∧
    ((after (.settingPut 7) (asks coded .settingPut [1, 4, 0, 1, 0, 0, 0])).slot 0).run = 9) := by
  refine ⟨offers_asks _ _ _ rfl rfl, ?_⟩
  decide +kernel
theorem test_prices_publish :
    (let draft (t : PriceTable) : State := { served live with store := { live.store with draft := t } };
    let t := after (.pricesPublish 7) (asks (draft workedTable) .pricesPublish []);
    answers .pricesPublish [] live = [0x26] ∧ answers .pricesPublish [] (running (.checking 9) (served live)) = [0x11] ∧
    answers .pricesPublish [] (guarded 4 (served live)) = [0x29] ∧
    answers .pricesPublish [] (draft (put workedTable 1 1)) = [0x2A, 0, 1] ∧
    answers .pricesPublish [] (draft (put workedTable 2 10)) = [0x2A, 0, 2] ∧
    answers .pricesPublish [] (draft (put workedTable 13 1)) = [0x2A, 3, 1] ∧
    answers .pricesPublish [] (draft (put workedTable 2 11)) = [0, 1, 0] ∧ t.store.published.rate = 825 ∧ t.store.valid = true) := by
  decide +kernel
theorem test_tiers_that_fail_and_pass :
    tierFails (put workedTable 1 1) .p1 1 ∧ tierFails (put workedTable 2 10) .p1 2 ∧ ¬ tierFails (put workedTable 2 11) .p1 2 := by
  refine ⟨⟨by decide, by decide +kernel, Or.inl (by decide +kernel)⟩,
    ⟨by decide, by decide +kernel, Or.inr ⟨1, by decide, by decide, by decide +kernel, by decide +kernel⟩⟩, ?_⟩
  rintro ⟨_, _, h | ⟨j, h1, h2, _, h3⟩⟩
  · revert h; decide +kernel
  · have : j = 1 := by omega
    subst this; revert h3; decide +kernel
/-- A save whose read back is clean, its check and its load: each matches. -/
theorem test_store :
    (let s := served live;
    let saving := after (.storeSave 7) (asks s .storeSave []);
    let saved := after (.saveEnd .clean) saving;
    let checking := after (.storeCheck 7) (asks saved .storeCheck []);
    let loading := after (.storeReload 7) (asks { saved with store := { saved.store with revision := 9 } } .storeReload []);
    let first : FirstSamples := { doorOpen := false, supplyFault := false, presence := false };
    let off : State := { loading with store := { loading.store with image := [0] } };
    (asks s .storeCheck []).Offers .storeCheck 7 [] ∧ answers .storeSave [] live = [0x26] ∧ answers .storeReload [] live = [0x26] ∧
    answers .storeCheck [] (running (.saving 9) live) = [0x11] ∧ saving.store.op = .saving 7 ∧ said saved = [0] ∧
    said (after (.saveEnd (.disturbed [1])) saving) = [0x2B] ∧ (after (.saveEnd (.disturbed [1])) saving).conds.kiosk.bits = 4 ∧
    (after (.saveEnd .clean) live).store.image = [] ∧ said (after (.checkEnd .clean) checking) = [0, 0] ∧
    said (after (.checkEnd (.disturbed [])) checking) = [0, 1] ∧ (after (.checkEnd .clean) live).link.queue = [] ∧
    (after (.loadEnd [.clean] first) live).link.queue = [] ∧ said (after (.loadEnd [.disturbed [0], .clean] first) loading) = [0, 0] ∧
    (after (.loadEnd [.clean] first) loading).store.revision = 0 ∧ (after (.loadEnd [.clean] first) loading).store.valid = true ∧
    said (after (.loadEnd [.disturbed [0]] first) loading) = [0, 0] ∧
    said (after (.loadEnd (List.replicate 8 (.disturbed [0])) first) loading) = [0, 1] ∧
    said (after (.loadEnd (List.replicate 8 .clean) first) off) = [0, 1] ∧
    (after (.loadEnd (List.replicate 8 .clean) first) off).store.valid = false) := by
  refine ⟨offers_asks _ _ _ rfl rfl, ?_⟩
  decide +kernel
/-- R180: a revision beyond 16 bits is held to 65535. -/
theorem test_load_holds_the_revision :
    (let body := (put (Vector.replicate 51 (0 : Nat)) 50 70000).toList.flatMap le4;
    imageRevision body = 65535) := by decide +kernel
theorem test_start_up :
    (let first (open' : Bool) : FirstSamples := { doorOpen := open', supplyFault := false, presence := true };
    let t := after (.loadEnd [.clean] (first false)) State.reset;
    State.reset.power.starting = true ∧ (told t).map (fun x => x.1) = [0xC0, 0xCC] ∧ t.power.starting = false ∧
    t.conds.kiosk.bits = 4 ∧ t.power.presence.confirmed = true ∧
    (after (.loadEnd [.clean] (first true)) State.reset).conds.inService = false) := by decide +kernel
theorem test_standby :
    (let t := after (.quiesce 7) (asks (kindOf .ready none 0 0) .quiesce []);
    (asks live .quiesce []).Offers .quiesce 7 [] ∧ answers .quiesce [] (seat .settling live) = [0x11] ∧
    answers .quiesce [] (kindOf .printing none 0 0) = [0x11] ∧ answers .quiesce [] (running (.loading 9) live) = [0x11] ∧
    (∀ r, (live.record r).state = .idle) ∧ said t = [0] ∧ t.sent = [.sleep 0, .inhibit 0] ∧ t.power.standby = true ∧
    answers .resume [] { asleep live with power := { (asleep live).power with latches := 7 } } = [0, 0] ∧
    (after (.resume 7) (asks (asleep live) .resume [])).power.standby = false) := by
  refine ⟨offers_asks _ _ _ rfl rfl, ?_⟩
  decide +kernel
theorem test_kiosk_reset :
    (let s := served (asks (withEntry h0 (desk .active (quoted .complete))) .kioskReset []);
    let two : State := { s with link := { s.link with
      table := { tag := 9, code := .rasterData, payload := [], taken := true } :: s.link.table } };
    let t := after (.kioskReset 7) two;
    s.Offers .kioskReset 7 [] ∧ answers .kioskReset [] live = [0x26] ∧ answers .kioskReset [] (running (.saving 9) (served live)) = [0x11] ∧
    (told t) = [(0x51, [0x15]), (0x92, [0]), (0xC0, [1, 1])] ∧ t.link.table = [] ∧ (t.record 0).gen = 0 ∧
    t.catalogue.table.get 0 = { gen := 1, entry := none } ∧ t.orderRecord 0 = { gen := 1, body := none }) := by
  refine ⟨?_, ?_⟩
  · exact offers_asks (served (withEntry h0 (desk .active (quoted .complete)))) _ _ rfl rfl
  · decide +kernel

end Sys2Proof.Tests
end

/-! Every command answers a next state that keeps what `Keeps` says, one lemma per operation of a command. -/

namespace Sys2Proof.Machine

namespace Keeps

variable {s t : State}

/-- Both branches keep. -/
theorem ite {c : Prop} [Decidable c] {u v : State} (h : Keeps s u) (k : Keeps s v) : Keeps s (if c then u else v) := by
  split_ifs
  · exact h
  · exact k

/-! ### Sessions -/

@[simp] theorem openSession (h : Keeps s t) (r : Fin 8) (st : Station) : Keeps s (t.openSession r st) := by
  unfold State.openSession
  have opened := ((((h.setRecord r
    { state := .active, gen := (t.record r).gen + 1, station := some st, uncommitted := none, committed := [],
      timer := .running t.now, totals := Totals.zero, closedOrder := none }).setFront st
    (some { record := r, gen := (t.record r).gen + 1 })).setAccount r Account.zero).setSessionSet r
    (CondSet.clear t.defaultSessionMask))
  exact each (opened.setCatalogue _) _ _ (fun v n => (refl v).bindSlot n _ _)

@[simp] theorem closeOrder (h : Keeps s t) (x : OrderHandle) : Keeps s (t.closeOrder x) := by
  unfold State.closeOrder
  split
  · exact h
  · next o ho =>
    split_ifs
    · exact (h.cancelOrder x o).orderNotice _ _ _ _ _
    · exact h
    · exact (h.setOrder x.record { o with cancel := true }
        (fun k => (counted_of_order? ho k).of_lines rfl id)).cancelAuth x

@[simp] theorem closeSession (h : Keeps s t) (x : SessionHandle) : Keeps s (t.closeSession x) := by
  unfold State.closeSession
  dsimp only
  refine closingExit ?_ _
  split
  · exact closeOrder (setCatalogue (each ((h.setRecord _ _).closeStationGate _ _) _ _ (fun v n => (refl v).closeSlot n)) _) _
  · exact setCatalogue (each ((h.setRecord _ _).closeStationGate _ _) _ _ (fun v n => (refl v).closeSlot n)) _

/-! ### Slots and the catalogue -/

@[simp] theorem queueRead (h : Keeps s t) (tag : Byte) (x : CatHandle) (e : CatEntry) (a b : Nat) :
    Keeps s (t.queueRead tag x e a b) :=
  h.trans (checked _ _ _ _ (((refl t).setSlot _ _).serveNext _))

@[simp] theorem probeEnds (h : Keeps s t) (n : Fin 4) (b : Bool) : Keeps s (t.probeEnds n b) :=
  ((h.busOutcome n).busReading n b).serveNext n

@[simp] theorem admissionAnswer (h : Keeps s t) (n : Fin 4) (a : Admission) : Keeps s (t.admissionAnswer n a) := by
  unfold State.admissionAnswer
  split
  · cases a with
    | admitted =>
      refine finishStep ?_ _ _
      split_ifs
      · exact (h.countScan n _).scanNotice n .progress
      · exact h.countScan n _
    | noRoom => exact (h.countScan n _).finishStep n _
    | alreadyHeld => exact h.finishStep n _
  · exact h

@[simp] theorem admitFrom (h : Keeps s t) (n : Fin 4) : Keeps s (t.admitFrom n) := by
  unfold State.admitFrom
  split
  · exact h
  · dsimp only
    split_ifs
    · exact ((h.setCatalogue _).setCatalogue _).admissionAnswer n _
    · exact h.setCatalogue _

@[simp] theorem freeRemoved (h : Keeps s t) : Keeps s t.freeRemoved := by
  unfold State.freeRemoved
  split
  · exact h
  · exact (h.setCatalogue _).setOrders _ id

/-! ### Orders -/

@[simp] theorem markOrphans (h : Keeps s t) : Keeps s t.markOrphans := by
  unfold State.markOrphans
  split
  · exact h
  · next x rest _ =>
    dsimp only
    have taken : Keeps s (t.setOrders { t.orders with reports := rest }) := h.setOrders _ id
    generalize t.setOrders { t.orders with reports := rest } = u at taken
    have marked : Keeps s (match if u.current x.owner then (u.record x.owner.record).uncommitted else none with
        | some o => match u.order? o with
          | some y => u.setOrder o.record { y with lines := y.lines.map (fun l => l.map (orphanLine x.entries)) }
          | none => u
        | none => u) := by
      split
      · split
        · next y hy =>
          refine taken.setOrder _ _ (fun k => (counted_of_order? hy k).map (orphanLine x.entries) rfl id (fun l hl => ?_))
          unfold orphanLine
          split_ifs <;> exact hl
        · exact taken
      · exact taken
    exact ite (marked.raiseSession _ _ _) marked

/-- An order carried back to EDITING has no copies to count. -/
theorem setEdited (h : Keeps s t) (k : Fin 16) (o : Order) : Keeps s (t.setOrder k o.edited) :=
  h.setOrderUncommitted k _ (by simp [Order.edited])

theorem addLine (tag : Byte) (p : List Byte) (x : OrderHandle) (o : Order) (z : Size) (f : Finish) (q : Nat) :
    Keeps s (s.addLine tag p x o z f q) := by
  unfold State.addLine
  split
  · exact (refl s).refuse _ _
  · refine checked _ _ _ _ ?_
    split
    · exact (refl s).refuseImage _ _ _ _ _
    · exact (((refl s).refRises _).setEdited _ _).ok _ _

theorem changeLine (tag : Byte) (x : OrderHandle) (o : Order) (k : Fin 16) (l : Line) (z : Size) (f : Finish) (q : Nat) :
    Keeps s (s.changeLine tag x o k l z f q) := by
  unfold State.changeLine
  refine checked _ _ _ _ (ok (setEdited ?_ _ _) _ _)
  split_ifs
  · exact refl s
  · exact (refl s).freeRaster x k

theorem payOrder (tag : Byte) (x : OrderHandle) (o : Order) (total : Nat) (card : Bool) :
    Keeps s (s.payOrder tag x o total card) := by
  unfold State.payOrder
  dsimp only
  have paid := (refl s).setCredit o.session.record
    ((s.account o.session.record).credit - min (s.account o.session.record).credit total)
  split_ifs
  · exact ((paid.commitOrder _ _ _).tasksJoined).ok _ _
  · exact ((((paid.setOrderUncommitted _ _ (by simp)).setTerminal _).handTerminal).ok _ _)
  · exact (refl s).refuse _ _

theorem cancelNotices (h : Keeps s t) (x : OrderHandle) (y : SessionHandle) (b : List Byte) (ls : List (Fin 16 × Line)) :
    Keeps s (t.cancelNotices x y b ls) := by
  induction ls generalizing t b with
  | nil => exact h
  | cons l rest ih => exact ih (h.copyNotice _ _ _ _ _ _ _ _ _) _

theorem cancelled_sum (c : Counters) : c.cancelled.sum = c.sum := by
  simp only [Counters.cancelled, Counters.sum, Counters.waiting]
  omega

theorem cancelCommitted (tag : Byte) (x : OrderHandle) (o : Order) (ho : s.order? x = some o) :
    Keeps s (s.cancelCommitted tag x o) := by
  unfold State.cancelCommitted
  have counted (k : s.orders.CopiesCounted) : Order.CopiesCounted { o with
      cancel := true, lines := o.lines.map (fun l => l.map (fun y => { y with copies := y.copies.cancelled })) } :=
    (counted_of_order? ho k).map (fun y => { y with copies := y.copies.cancelled }) rfl id
      (fun l hl => (cancelled_sum l.copies).trans hl)
  dsimp only
  refine ok (evalPrints (settleLines (cancelNotices ?_ _ _ _ _) _ _)) _ _
  split_ifs
  · exact (refl s).setOrder _ _ counted
  · exact (refl s).refundCopies _ _ _ counted

end Keeps
end Sys2Proof.Machine

/-! `Keeps` for the operations of the money, spool and print commands. -/

namespace Sys2Proof.Machine

namespace Keeps

variable {s t : State}

/-! ### Money -/

@[simp] theorem openGate (h : Keeps s t) (u : Fin 2) : Keeps s (t.openGate u) := by
  unfold State.openGate
  exact ite h (ite (((h.setUnit _ _).send _).issueToken _) ((h.setUnit _ _).send _))

@[simp] theorem returnBill (h : Keeps s t) (u : Fin 2) (c : Byte) (v : Nat) (x : Option SessionHandle) :
    Keeps s (t.returnBill u c v x) := (h.setUnit _ _).send _
@[simp] theorem raiseCreditLimit (h : Keeps s t) (x : SessionHandle) (u : Fin 2) (v : Nat) :
    Keeps s (t.raiseCreditLimit x u v) := h.raiseSession _ _ _

@[simp] theorem releaseHeld (h : Keeps s t) (u : Fin 2) : Keeps s (t.releaseHeld u) := by
  unfold State.releaseHeld
  split
  · split
    · exact (h.setUnit _ _).send _
    · exact (h.returnBill _ _ _ _).raiseCreditLimit _ _ _
    · exact h.returnBill _ _ _ _
  · exact h

@[simp] theorem answerReply (h : Keeps s t) (tag : Byte) (n : Nat) : Keeps s (t.answerReply tag n) := h.ok _ _

@[simp] theorem answerChallenge (h : Keeps s t) (tag x v : Byte) : Keeps s (t.answerChallenge tag x v) := by
  unfold State.answerChallenge
  exact ite (h.answerReply _ _)
    (ite ((((h.setChallenge _).releaseHeld 0).releaseHeld 1).answerReply _ _)
      ((h.setChallenge _).challengeError.answerReply _ _))

@[simp] theorem challengeIssue (h : Keeps s t) : Keeps s t.challengeIssue := by
  unfold State.challengeIssue
  exact ite h (ite (h.issueToken _).challengeError (h.issueToken _))

/-- A message from a cash unit. -/
theorem unitMessage (u : Fin 2) (act : State → State) (ha : ∀ v, Keeps v (act v)) : Keeps s (s.unitMessage u act) :=
  heard _ s (ite (((refl s).setUnit _ _).trans (ha _)) (refl s))

@[simp] theorem jamUnit (h : Keeps s t) (u : Fin 2) (n : Nat) : Keeps s (t.jamUnit u n) :=
  ((((h.setUnit _ _).raiseKioskQuiet _ _).closeGate _ _).giveBackHeld _).setUnit _ _ |>.closingExitOf _

@[simp] theorem billHeld (h : Keeps s t) (u : Fin 2) (c : Byte) : Keeps s (t.billHeld u c) := by
  unfold State.billHeld
  dsimp only
  split
  · exact h.setUnit _ _
  · exact (h.returnBill _ _ _ _).raiseCreditLimit _ _ _
  · exact h.returnBill _ _ _ _

@[simp] theorem endEscrow (h : Keeps s t) (u : Fin 2) : Keeps s (t.endEscrow u) := (h.setUnit _ _).closingExitOf _

@[simp] theorem lateStacked (h : Keeps s t) (u : Fin 2) (x : LateStack) : Keeps s (t.lateStacked u x) := by
  unfold State.lateStacked
  dsimp only
  split
  · exact (h.setUnit _ _).creditCash _ _ _ _
  · exact ite (((h.setUnit _ _).tillCashIn _).issueSlip _ _ _) ((h.setUnit _ _).tillOverage _)

@[simp] theorem stackedBill (h : Keeps s t) (u : Fin 2) : Keeps s (t.stackedBill u) := by
  unfold State.stackedBill
  split
  · exact (h.creditCash _ _ _ _).endEscrow u
  · exact (h.tillOverage _).endEscrow u
  · exact (h.tillOverage _).endEscrow u
  · split
    · exact h.lateStacked u _
    · exact h

/-- A message from the terminal. -/
theorem terminalMessage (act : State → State) (ha : ∀ v, Keeps v (act v)) : Keeps s (s.terminalMessage act) := by
  refine heard _ s ?_
  have restarted := (refl s).setTerminal { s.money.terminal with lastHeard := s.now }
  dsimp only
  split
  · exact restarted.terminalIdle.trans (ha _)
  · exact (restarted.terminalIdle.reportLevelQuiet _ _).trans (ha _)
  · exact restarted.trans (ha _)

@[simp] theorem portIdle (h : Keeps s t) : Keeps s t.portIdle := h.setTerminal _

@[simp] theorem approvedRight (h : Keeps s t) (a : Auth) : Keeps s (t.approvedRight a) := by
  unfold State.approvedRight
  have counted := (h.portIdle.tillCardIn a.amount).setAccount a.session.record
  dsimp only
  split
  · exact (counted _).handTerminal
  · exact ((((((counted _).commitOrder _ _ _).orderNotice _ _ _ _ _).touchHandle _).tasksJoined).closingExitOf _).handTerminal

@[simp] theorem approvedWrong (h : Keeps s t) (a : Auth) (n : Nat) : Keeps s (t.approvedWrong a n) :=
  ((((h.portIdle.setLastEnded a).tillCardIn n).makeRefund _).endWithCondition a _ _).handTerminal

@[simp] theorem lateApproval (h : Keeps s t) (r : BitVec 16) (x : Option SessionHandle) (o : Option OrderHandle) (n : Nat)
    (c : RefundCause) : Keeps s (t.lateApproval r x o n c) := (h.tillCardIn n).makeRefund _

@[simp] theorem otherApproval (h : Keeps s t) (r : BitVec 16) (n : Nat) : Keeps s (t.otherApproval r n) := by
  unfold State.otherApproval
  split
  · exact ite (h.lateApproval _ _ _ _ _) (h.lateApproval _ _ _ _ _)
  · exact h.lateApproval _ _ _ _ _

@[simp] theorem cancelEnds (h : Keeps s t) (a : Option Auth) : Keeps s (t.cancelEnds a) := by
  cases a with
  | none => exact h.terminalIdle
  | some a => exact ((h.portIdle.setLastEnded a).endUnapproved a _).handTerminal

@[simp] theorem approval (h : Keeps s t) (r : BitVec 16) (n : Nat) : Keeps s (t.approval r n) := by
  unfold State.approval
  split
  · exact ite (ite (h.approvedRight _) (h.approvedWrong _ _)) (h.otherApproval _ _)
  · refine ite ?_ (h.otherApproval _ _)
    split
    · exact (h.lateApproval _ _ _ _ _).cancelEnds _
    · exact (h.otherApproval _ _).cancelEnds _
  · exact h.otherApproval _ _

@[simp] theorem notTaken (h : Keeps s t) (r : BitVec 16) : Keeps s (t.notTaken r) := by
  unfold State.notTaken
  split
  · exact ite ((h.portIdle.setLastEnded _).endWithCondition _ _ _).handTerminal h
  · exact ite (h.cancelEnds _) h
  · exact h

@[simp] theorem terminalLost (h : Keeps s t) : Keeps s t.terminalLost := by
  unfold State.terminalLost
  have lost := (h.setTerminal { t.money.terminal with state := .lost, waiting := [] }).reportLevelQuiet 7 true
  refine each ?_ _ _ (fun v a => (refl v).endWithCondition a _ _)
  split
  · exact (lost.setLastEnded _).endWithCondition _ _ _
  · exact lost

/-! ### Spool -/

theorem openRaster (h : Keeps s t) (x : OrderHandle) (k : Fin 16) (z : Size) (y : SessionHandle)
    (hz : z.blocks ≤ t.spool.free.length) : Keeps s (t.openRaster x k z y) :=
  ((h.setSpool { t.spool with
      free := t.spool.free.drop z.blocks
      rasters := t.spool.rasters ++ [Raster.opened x k z (t.spool.free.take z.blocks) y] } rfl
    (fun c => c.opened _ z.blocks rfl rfl hz)).setLineRaster x k _).evalPressure

/-- Other writes waiting, another transfer served: no block changes hands. -/
theorem setTransfers (h : Keeps s t) (ws : List Write) (g : Option Requester) :
    Keeps s (t.setSpool { t.spool with writes := ws, granted := g }) := h.setSpool _ rfl (fun c => c.congr rfl rfl)

@[simp] theorem acceptWrite (h : Keeps s t) (tag : Byte) (x : Raster) (d : List Byte) :
    Keeps s (t.acceptWrite tag x d) := by
  unfold State.acceptWrite
  have accepted := h.updateRaster x.order x.line (fun y => { y with accepted := y.accepted + d.length })
    (fun _ => ⟨rfl, rfl⟩)
  exact (accepted.setTransfers _ _).grantSpool

@[simp] theorem abortRaster (h : Keeps s t) (x : OrderHandle) (k : Fin 16) (i : CatHandle) :
    Keeps s (t.abortRaster x k i) := (h.freeRaster x k).setLineRaster x k _

/-- Bytes stored in the blocks of a raster. -/
theorem storeRaster (h : Keeps s t) (m : Memory) (hm : m = t.spool.mem) (bs : List Nat) (k : Nat) (d : List Byte) :
    Keeps s (t.setSpool { t.spool with mem := Memory.storeRaster m bs k d }) :=
  ⟨h.pending, h.now, h.sent, fun w => Memory.wf_storeRaster bs d m k (hm ▸ h.memory w), h.link, h.copies, h.door,
    fun c => (h.blocks c).congr rfl rfl⟩

@[simp] theorem writeEnds (h : Keeps s t) : Keeps s t.writeEnds := by
  unfold State.writeEnds
  split
  · next w rest _ _ =>
    have served := h.setTransfers rest none
    dsimp only
    split
    · exact served.grantSpool
    · have stored := (served.updateRaster w.order w.line (fun z => z.grown w.data.length) (fun _ => ⟨rfl, rfl⟩)).storeRaster
        t.spool.mem rfl
      exact grantSpool (ok (ite ((stored _ _ _).setLineRaster _ _ _) (stored _ _ _)) _ _)
  · exact h

@[simp] theorem readTransferEnds (h : Keeps s t) (p : Fin 3) : Keeps s (t.readTransferEnds p) := by
  unfold State.readTransferEnds
  dsimp only
  split
  · refine ite ?_ h
    split
    · exact h
    · exact (((h.send _).setReader _ _).setTransfers _ _).grantSpool
  · exact h

@[simp] theorem bytesTaken (h : Keeps s t) (p : Fin 3) (n : Nat) : Keeps s (t.bytesTaken p n) := by
  unfold State.bytesTaken
  dsimp only
  split
  · exact h
  · exact ite h (ite ((h.setPort _ _).setReader _ _)
      (ite ((((h.setPort _ _).send _).stopReader _).setPort _ _) (((h.setPort _ _).setReader _ _).grantSpool)))

/-! ### Printers -/

@[simp] theorem goodFrame (h : Keeps s t) (p : Fin 3) : Keeps s (t.goodFrame p) := ite h (h.setPort _ _)
@[simp] theorem enterReady (h : Keeps s t) (p : Fin 3) (c : PrinterCause) : Keeps s (t.enterReady p c) :=
  (h.movePort _ _ _ _).takeOnEntry p

@[simp] theorem firstStatus (h : Keeps s t) (p : Fin 3) (r : PrinterReport) (k : MediaKind) :
    Keeps s (t.firstStatus p r k) := by
  unfold State.firstStatus
  have kind := h.setPort p { t.port p with kind := some k }
  cases r with
  | ready => exact kind.enterReady _ _
  | busy => exact kind.movePort _ _ _ _
  | cooling => exact kind.movePort _ _ _ _
  | error r => exact kind.movePort _ _ _ _

@[simp] theorem recovering (h : Keeps s t) (p : Fin 3) (r : PrinterReport) : Keeps s (t.recovering p r) :=
  ite (ite ((h.setPort _ _).enterReady _ _) (h.setPort _ _)) (h.setPort _ _)

@[simp] theorem statusActs (h : Keeps s t) (p : Fin 3) (r : PrinterReport) : Keeps s (t.statusActs p r) := by
  unfold State.statusActs
  split
  · exact h.movePort _ _ _ _
  · exact h.movePort _ _ _ _
  · exact h.movePort _ _ _ _
  · exact h.attemptFails _ _
  · exact h.attemptFails _ _
  · exact h.enterReady _ _
  · exact h.movePort _ _ _ _
  · exact h.movePort _ _ _ _
  · exact h.recovering _ _
  · exact h

@[simp] theorem kindDiffers (h : Keeps s t) (p : Fin 3) : Keeps s (t.kindDiffers p) := by
  unfold State.kindDiffers
  split
  · exact h.attemptFails _ _
  · exact h.attemptFails _ _
  · exact (h.setPort _ _).movePort _ _ _ _

@[simp] theorem statusReport (h : Keeps s t) (p : Fin 3) (r : PrinterReport) (k : MediaKind) :
    Keeps s (t.statusReport p r k) := by
  unfold State.statusReport
  have heard := (h.goodFrame p).setPort p
  refine evalPrints ?_
  split
  · exact (heard _).firstStatus _ _ _
  · exact heard _
  · exact ite ((heard _).statusActs _ _) ((heard _).kindDiffers _)
  · exact ((heard _).setPort _ _).statusActs _ _

@[simp] theorem attemptDone (h : Keeps s t) (p : Fin 3) (a : Attempt) : Keeps s (t.attemptDone p a) := by
  unfold State.attemptDone
  split
  · exact (((h.setPort _ _).copyDelivered _ _).movePort _ _ _ _).evalPrints
  · exact h.attemptFails _ _
  · exact h

@[simp] theorem corruptFrame (h : Keeps s t) (p : Fin 3) : Keeps s (t.corruptFrame p) := by
  unfold State.corruptFrame
  dsimp only
  split
  · exact h
  · exact h.setPort _ _
  · exact ite ((h.setPort _ _).goOffline _ _) (h.setPort _ _)

theorem onPort (tag : Byte) (p : List Byte) (act : State → Fin 3 → State) (ha : ∀ n, Keeps s (act s n)) :
    Keeps s (s.onPort tag p act) := by
  refine checked _ _ _ _ ?_
  split
  · exact (refl s).refuse _ _
  · exact ha _

@[simp] theorem portReply (h : Keeps s t) (tag : Byte) (n : Fin 3) : Keeps s (t.portReply tag n) := h.ok _ _

@[simp] theorem holdPort (h : Keeps s t) (n : Fin 3) : Keeps s (t.holdPort n) := by
  unfold State.holdPort
  dsimp only
  split
  · exact ((h.setPort _ _).movePort _ _ _ _).evalPrints
  · exact ((h.setPort _ _).movePort _ _ _ _).evalPrints
  · exact h.setPort _ _

@[simp] theorem releasePort (h : Keeps s t) (n : Fin 3) : Keeps s (t.releasePort n) := by
  unfold State.releasePort
  dsimp only
  split
  · exact ((h.setPort _ _).movePort _ _ _ _).evalPrints
  · exact h.setPort _ _

@[simp] theorem loadMedia (h : Keeps s t) (n : Fin 3) (k : MediaKind) (u : Nat) : Keeps s (t.loadMedia n k u) :=
  evalPrints (takeOnEntry (ite ((h.setPort _ _).movePort _ _ _ _) (h.setPort _ _)) n)

end Keeps
end Sys2Proof.Machine

/-! `Keeps` for the operations of the condition, setting and power commands. -/

namespace Sys2Proof.Machine

/-! ### After power-on -/

theorem Orders.reset_copiesCounted : Orders.reset.CopiesCounted := by
  intro k o ho
  simp [Orders.reset, Vector.get_eq_getElem] at ho

theorem Spool.reset_blocksCounted : Spool.reset.BlocksCounted := ⟨by simp [Spool.reset], by simp [Spool.reset]⟩

theorem State.powerOn_doorKept (x : Straps) (image : List Byte) : (State.powerOn x image).DoorKept :=
  ⟨fun hm => absurd (show Mode.customer = .service from hm) (by decide), fun _ => rfl⟩

namespace Keeps

variable {s t : State}

/-! ### Conditions and inputs -/

/-- Behind a change of the conditions, with the door's rule holding of the state at the end whatever the way there. -/
theorem ofDoorKept {x : Conditions} (h : Keeps (s.setConds x) t) (hd : t.DoorKept) : Keeps s t :=
  ⟨h.pending, h.now, h.sent, h.memory, h.link, h.copies, fun _ => hd, h.blocks⟩

/-- The mode changed to one that the door allows. -/
theorem changeMode (h : Keeps s t) (m : Mode) (hd : m = .service → t.conds.door.confirmed = true)
    (hs : t.power.starting = true → m = .customer) : Keeps s (t.changeMode m) := by
  unfold State.changeMode
  refine ite h (resolveSets ?_ _)
  exact ⟨h.pending, h.now, h.sent, h.memory, h.link, h.copies, fun _ => ⟨hd, hs⟩, h.blocks⟩

/-- In CUSTOMER the door's rule holds, wherever the mode was. -/
theorem changeMode_customer_doorKept (t : State) : (t.changeMode .customer).DoorKept := by
  unfold State.changeMode
  split_ifs with hm
  · exact ⟨fun hc => by simp [hm] at hc, fun _ => hm⟩
  · exact ((refl _).resolveSets .mode).door ⟨fun hc => by simp at hc, fun _ => rfl⟩

/-- An unconfirmed reading leaves the confirmed state; a confirmed one takes the level. -/
theorem reading_confirmed (x : Input) (b : Bool) :
    (x.reading b).1.confirmed = if (x.reading b).2 then b else x.confirmed := by
  unfold Input.reading
  split_ifs <;> simp_all

@[simp] theorem doorSample (s : State) (b : Bool) : Keeps s (s.doorSample b) := by
  unfold State.doorSample
  have hr := reading_confirmed s.conds.door b
  generalize s.conds.door.reading b = r at hr
  obtain ⟨x, confirmed⟩ := r
  dsimp only at hr ⊢
  cases confirmed with
  | false =>
    refine ⟨rfl, rfl, List.prefix_rfl, id, id, id, fun k => ⟨fun hm => ?_, k.2⟩, id⟩
    exact hr.trans (k.1 hm)
  | true =>
    cases b with
    | true =>
      refine wakeCause (reportLevel ?_ _ _) _
      exact ⟨rfl, rfl, List.prefix_rfl, id, id, id, fun k => ⟨fun _ => hr, k.2⟩, id⟩
    | false =>
      exact (((refl _).reportLevel 1 false).changeMode .customer (by simp) (fun _ => rfl)).ofDoorKept
        (changeMode_customer_doorKept _)

@[simp] theorem supplySample (h : Keeps s t) (b : Bool) : Keeps s (t.supplySample b) := by
  unfold State.supplySample
  have sampled := h.setConds { t.conds with supply := (t.conds.supply.reading b).1 } rfl rfl
  exact ite (sampled.reportLevel 0 b) sampled

@[simp] theorem presenceSample (h : Keeps s t) (b : Bool) : Keeps s (t.presenceSample b) := by
  unfold State.presenceSample
  have sampled := h.setPower { t.power with presence := (t.power.presence.reading b).1 } rfl
  exact ite (sampled.wakeCause .presence) sampled

@[simp] theorem clearReaches (h : Keeps s t) (i : Fin 16) : Keeps s (t.clearReaches i) := by
  unfold State.clearReaches
  split
  · exact h.setUnit _ _
  · exact h.setUnit _ _
  · exact h.setChallenge _
  · exact h

@[simp] theorem clearKiosk (h : Keeps s t) (tag : Byte) (n : BitVec 16) : Keeps s (t.clearKiosk tag n) :=
  ((h.setKioskSet _).each _ _ (fun v i => (refl v).clearReaches i)).ok _ _
@[simp] theorem clearSession (h : Keeps s t) (tag : Byte) (r : Fin 8) (n : BitVec 8) : Keeps s (t.clearSession tag r n) :=
  (h.setSessionSet _ _).ok _ _

@[simp] theorem maskKiosk (h : Keeps s t) (tag : Byte) (m : BitVec 16) : Keeps s (t.maskKiosk tag m) :=
  ((h.setKioskSet _).each _ _ (fun v i => (refl v).resolveKiosk _ (fun w => (refl w).lockout) _ i)).ok _ _
@[simp] theorem maskSession (h : Keeps s t) (tag : Byte) (r : Fin 8) (m : BitVec 8) : Keeps s (t.maskSession tag r m) :=
  ((h.setSessionSet _ _).each _ _ (fun v i => (refl v).resolveSession _ (fun w q => (refl w).suspend q) _ r i)).ok _ _

@[simp] theorem restoreService (h : Keeps s t) : Keeps s t.restoreService := by
  unfold State.restoreService
  refine resolveSets (setConds h _ ?_ ?_) _
  · rfl
  · rfl

/-! ### Settings -/

@[simp] theorem slotSettings (h : Keeps s t) (w : WorkingCopy) (n : Fin 4) : Keeps s (State.slotSettings w t n) := by
  unfold State.slotSettings
  have run := ite (c := w.a1.get ⟨n.val, by omega⟩ = t.store.working.a1.get ⟨n.val, by omega⟩) h
    (h.setSlot n { t.slot n with run := 0 })
  dsimp only
  split
  · exact ite ((run.setSlot _ _).slotNotice _ _) run
  · exact run

@[simp] theorem idleSettings (h : Keeps s t) (w : WorkingCopy) (r : Fin 8) : Keeps s (State.idleSettings w t r) :=
  ite (h.idleExpires r) h

@[simp] theorem settingsChanged (h : Keeps s t) (w : WorkingCopy) : Keeps s (State.settingsChanged w t) :=
  (((((h.each _ _ (fun v n => (refl v).slotSettings w n)).refreshGates).each _ _
    (fun v u => (refl v).evalBox u)).evalPressure).evalPrints).each _ _ (fun v r => (refl v).idleSettings w r)

@[simp] theorem putSetting (h : Keeps s t) (a n v : Nat) : Keeps s (t.putSetting a n v) :=
  ite (h.setStore _) ((h.setStore _).settingsChanged _)

@[simp] theorem putReply (h : Keeps s t) (tag : Byte) (k : SettingKind) (v : Nat) : Keeps s (t.putReply tag k v) := by
  unfold State.putReply
  split
  · exact ite (h.ok _ _) (h.replyWith _ _ _)
  · exact h.ok _ _

@[simp] theorem setOp (h : Keeps s t) (x : StoreOp) : Keeps s (t.setOp x) := h.setStore _

@[simp] theorem saveEnds (h : Keeps s t) (x : StoreRead) : Keeps s (t.saveEnds x) := by
  unfold State.saveEnds
  split
  · exact ite ((h.setStore _).ok _ _) (((h.setStore _).raiseKioskQuiet _ _).refuse _ _)
  · exact h

@[simp] theorem checkEnds (h : Keeps s t) (x : StoreRead) : Keeps s (t.checkEnds x) := by
  unfold State.checkEnds
  split
  · exact ite ((h.setOp _).ok _ _) (((h.setOp _).raiseKioskQuiet _ _).ok _ _)
  · exact h

@[simp] theorem loadFault (h : Keeps s t) : Keeps s t.loadFault := ite h (h.raiseKioskQuiet _ _)

@[simp] theorem reloadEnds (h : Keeps s t) (tag : Byte) (xs : List StoreRead) : Keeps s (t.reloadEnds tag xs) :=
  ((((h.setStore _).settingsChanged _).loadFault).ok _ _)

/-- START-UP ends before any request, so the mode is still CUSTOMER, whatever the first sample of the door says. -/
theorem startUp (xs : List StoreRead) (f : FirstSamples) (hs : s.power.starting = true) : Keeps s (s.startUp xs f) := by
  unfold State.startUp
  refine reportLevel (reportLevel (loadFault (notify (setSlots ?_ _) _ _)) _ _) _ _
  refine ⟨rfl, rfl, List.prefix_rfl, id, id, id, fun k => ⟨fun hm => ?_, fun h => by simp at h⟩, id⟩
  have hc : s.conds.mode = .service := hm
  simp [k.2 hs] at hc

/-! ### Power -/

theorem powerOn (x : Straps) (s : State) :
    Keeps s ((((State.powerOn x s.store.image).setSent s.sent).setNow s.now).setPending s.pending) :=
  ⟨rfl, rfl, List.prefix_rfl, fun _ => rfl, fun _ => Link.Bounded.reset, fun _ => Orders.reset_copiesCounted,
    fun _ => State.powerOn_doorKept x s.store.image, fun _ => Spool.reset_blocksCounted⟩

@[simp] theorem enterStandby (h : Keeps s t) : Keeps s t.enterStandby := by
  unfold State.enterStandby
  have asleep := h.setPower { t.power with standby := true, latches := 0 } rfl
  exact (asleep.each _ _ (fun v p => (refl v).send (.sleep p))).each _ _ (fun v u => (refl v).send (.inhibit u))

/-! ### The kiosk reset -/

@[simp] theorem resetLink (h : Keeps s t) (tag : Byte) : Keeps s (t.resetLink tag) :=
  ((h.each _ _ (fun v _ => (refl v).refuse _ _)).ok _ _).notify _ _
@[simp] theorem resetSessions (h : Keeps s t) : Keeps s t.resetSessions := h.setSessions _
@[simp] theorem resetCatalogue (h : Keeps s t) : Keeps s t.resetCatalogue := h.setCatalogue _
@[simp] theorem resetOrders (h : Keeps s t) : Keeps s t.resetOrders :=
  h.setOrders _ (fun _ k o ho => by simp [Vector.get_eq_getElem] at ho)
@[simp] theorem resetSpool (h : Keeps s t) : Keeps s t.resetSpool :=
  h.setSpool _ rfl (fun _ => Spool.BlocksCounted.reset _)
@[simp] theorem resetUnit (h : Keeps s t) (u : Fin 2) : Keeps s (t.resetUnit u) :=
  ite ((((h.setUnit _ _).send _).send _).notify _ _) (((h.setUnit _ _).send _).send _)
@[simp] theorem resetTerminal (h : Keeps s t) : Keeps s t.resetTerminal := by
  unfold State.resetTerminal
  dsimp only
  split
  · exact (h.setTerminal _).send _
  · exact h.setTerminal _
  · exact h.setTerminal _
@[simp] theorem resetMoney (h : Keeps s t) : Keeps s t.resetMoney :=
  ((h.setMoney _).each _ _ (fun v u => (refl v).resetUnit u)).resetTerminal
@[simp] theorem resetPort (h : Keeps s t) (p : Fin 3) : Keeps s (t.resetPort p) := by
  unfold State.resetPort
  split
  · exact ((h.send _).setPort _ _).movePort _ _ _ _
  · exact h
@[simp] theorem resetPrints (h : Keeps s t) : Keeps s t.resetPrints :=
  (h.setPrints _).each _ _ (fun v p => (refl v).resetPort p)
@[simp] theorem resetConds (h : Keeps s t) : Keeps s t.resetConds := h.setConds _ rfl rfl
@[simp] theorem resetPower (h : Keeps s t) : Keeps s t.resetPower := h.setPower _ rfl
@[simp] theorem evalLevels (h : Keeps s t) : Keeps s t.evalLevels :=
  evalPrints (evalPressure (reportLevelQuiet
    (((h.reportLevel _ _).reportLevel _ _).each _ _ (fun v u => (refl v).evalBox u)) _ _))
@[simp] theorem kioskReset (h : Keeps s t) (tag : Byte) : Keeps s (t.kioskReset tag) :=
  (((((((((h.resetPower.resetLink tag).resetSessions).resetCatalogue).resetOrders).resetSpool).resetSlots).resetMoney
    ).resetPrints).resetConds).evalLevels

end Keeps
end Sys2Proof.Machine

/-! `Keeps` for each command that needs more than its operations' lemmas. -/

namespace Sys2Proof.Machine

/-- A command that answers a next state which keeps. -/
def KeepsNext (s : State) (o : Host.Outcome State Fault Refusal) : Prop := ∃ t, o = .next t ∧ Keeps s t

theorem Keeps.next {s t : State} (h : Keeps s t) : KeepsNext s (.next t) := ⟨t, rfl, h⟩

/-- What STATUS clears leaves the bounds. -/
theorem Link.Bounded.cleared {l : Link} (h : l.Bounded) : ({ l with errors := 0, dropped := false } : Link).Bounded :=
  ⟨h.table, h.places, h.notices, Nat.zero_le _, h.tags, h.sending⟩

namespace KeepsNext

open Keeps

variable (tag : Byte) (s : State)

/-! ### The link and the sessions -/

theorem interByteTimeout : KeepsNext s (execInterByteTimeout s) :=
  next (ite (refl s) ((refl s).setLink _ (fun k => k.countError.receiver [] _)))

theorem frameSent : KeepsNext s (execFrameSent s) := by
  refine next ?_
  split
  · exact refl s
  · next f rest hq => exact ((refl s).setLink _ (fun k => k.frameGone hq)).setSent _ (List.prefix_append _ _)

theorem status : KeepsNext s (execStatus tag s) :=
  next (take _ tag _ s (fun _ => ok (setLink (refl _) _ (fun k => k.cleared)) _ _))

theorem sessionOpen : KeepsNext s (execSessionOpen tag s) := by
  refine next (take _ tag _ s (fun p => ?_))
  split
  · exact (refl _).refuse _ _
  · refine checked _ _ _ _ ?_
    split
    · exact (refl _).refuse _ _
    · exact ((refl _).openSession _ _).ok _ _

theorem sessionClose : KeepsNext s (execSessionClose tag s) :=
  next (take _ tag _ s (fun _ => withSession _ _ _ _ _ _ (fun _ x => ((refl _).closeSession x).ok _ _)))

theorem sessionResume : KeepsNext s (execSessionResume tag s) :=
  next (take _ tag _ s (fun _ => withSession _ _ _ _ _ _ (fun _ _ =>
    checked _ _ _ _ (((refl _).setRecord _ _).ok _ _))))

/-! ### The slots and the catalogue -/

theorem imageRead : KeepsNext s (execImageRead tag s) := by
  refine next (take _ tag _ s (fun p => checked _ _ _ _ (withSession _ _ _ _ _ _ (fun u x => ?_))))
  split
  · exact (refl u).refuseImage _ _ _ _ _
  · exact (refl u).queueRead _ _ _ _ _

theorem slotQuery : KeepsNext s (execSlotQuery tag s) := by
  refine next (take _ tag _ s (fun p => ?_))
  split
  · exact (refl _).refuse _ _
  · exact (refl _).ok _ _

theorem identificationAnswer (x : Exchange) (a : IdentAnswer) : KeepsNext s (execIdentificationAnswer x a s) := by
  refine next (heard _ s (ite ?_ (refl s)))
  cases a with
  | card g n => exact (((refl s).busOutcome _).busReading _ _).identified _ _ _
  | error => exact (((refl s).busOutcome _).busReading _ _).unreadable _
  | noFileSystem => exact (((refl s).busOutcome _).busReading _ _).unreadable _

theorem identificationTimeout (n : Fin 4) : KeepsNext s (execIdentificationTimeout n s) :=
  have read := ((refl s).busOutcome n).busReading n false
  next (heard _ s (ite (ite (ite (read.unreadable n) read) ((refl s).unreadable n)) (refl s)))

theorem blockReadAnswer (x : Exchange) (a : BlockAnswer) : KeepsNext s (execBlockReadAnswer x a s) := by
  refine next (heard _ s (ite ?_ (refl s)))
  cases a with
  | good c => exact ((((refl s).busOutcome _).busReading _ _).blockGood _).goodBlock _ _
  | error => exact (((refl s).busOutcome _).busReading _ _).failedBlock _

theorem blockReadTimeout (n : Fin 4) : KeepsNext s (execBlockReadTimeout n s) :=
  have read := ((refl s).busOutcome n).busReading n false
  next (heard _ s (ite (ite read (read.failedBlock n)) (refl s)))

theorem catalogueList : KeepsNext s (execCatalogueList tag s) :=
  next (take _ tag _ s (fun _ => checked _ _ _ _ (withSession _ _ _ _ _ _ (fun u _ => (refl u).ok _ _))))

/-! ### The orders -/

theorem orderOpen : KeepsNext s (execOrderOpen tag s) := by
  refine next (take _ tag _ s (fun p => withSession _ _ _ _ _ _ (fun u x => checked _ _ _ _ ?_)))
  split
  · exact (refl u).refuse _ _
  · refine ok (setRecord (setOrderRecord (refl u) _ _ (fun _ y hy => ?_)) _ _) _ _
    simp only [Option.some.injEq] at hy
    subst hy
    intro hc
    simp [Order.opened] at hc

theorem lineAdd : KeepsNext s (execLineAdd tag s) := by
  refine next (take _ tag _ s (fun p => withOrder _ _ _ _ _ _ (fun u x o _ => checked _ _ _ _ ?_)))
  split
  · exact Keeps.addLine _ _ _ _ _ _ _
  · exact (refl u).refuse _ _

theorem lineChange : KeepsNext s (execLineChange tag s) := by
  refine next (take _ tag _ s (fun p => withOrder _ _ _ _ _ _ (fun u x o _ => checked _ _ _ _ ?_)))
  split
  · exact (refl u).refuse _ _
  · split
    · exact Keeps.changeLine _ _ _ _ _ _ _ _
    · exact (refl u).refuse _ _

theorem lineRemove : KeepsNext s (execLineRemove tag s) := by
  refine next (take _ tag _ s (fun p => withOrder _ _ _ _ _ _ (fun u x o _ => checked _ _ _ _ ?_)))
  split
  · exact (refl u).refuse _ _
  · exact ((((refl u).freeRaster _ _).refFalls _).setEdited _ _).ok _ _

theorem orderQuote : KeepsNext s (execOrderQuote tag s) :=
  next (take _ tag _ s (fun _ => withOrder _ _ _ _ _ _ (fun u _ _ _ => checked _ _ _ _
    (ite (((refl u).setEdited _ _).refuse _ _) (((refl u).setOrderUncommitted _ _ (by simp)).ok _ _)))))

theorem orderCommit : KeepsNext s (execOrderCommit tag s) := by
  refine next (take _ tag _ s (fun p => withOrder _ _ _ _ _ _ (fun u x o _ => ?_)))
  split
  · exact (refl u).refuse _ _
  · exact ite (checked _ _ _ _ (Keeps.payOrder _ _ _ _ _)) (((refl u).setEdited _ _).refuse _ _)
  · exact (refl u).refuse _ _

theorem orderCancel : KeepsNext s (execOrderCancel tag s) := by
  refine next (take _ tag _ s (fun p => unlessClosed _ _ _ _ (withAnyOrder _ _ _ _ _ (fun u x o ho => ?_))))
  refine ite (checked _ _ _ _ (Keeps.cancelCommitted _ _ _ ho)) ?_
  split
  · exact (refl u).refuse _ _
  · refine ite (((refl u).cancelOrder _ _).ok _ _) (ite ((refl u).refuse _ _) (ok (cancelAuth (setOrder (refl u) _ _ ?_) _) _ _))
    exact fun k => (counted_of_order? ho k).of_lines rfl id

theorem orderQuery : KeepsNext s (execOrderQuery tag s) :=
  next (take _ tag _ s (fun _ => withAnyOrder _ _ _ _ _ (fun u _ _ _ => (refl u).ok _ _)))

/-! ### The money -/

theorem gateOpen : KeepsNext s (execGateOpen tag s) := by
  refine next (take _ tag _ s (fun p => withSession _ _ _ _ _ _ (fun u x => ?_)))
  split
  · exact (refl u).refuse _ _
  · exact checked _ _ _ _ (((refl u).openGate _).ok _ _)

theorem gateClose : KeepsNext s (execGateClose tag s) := by
  refine next (take _ tag _ s (fun p => withSession _ _ _ _ _ _ (fun u x => ?_)))
  split
  · exact (refl u).refuse _ _
  · exact ((refl u).closeGate _ _).ok _ _

theorem slipTake : KeepsNext s (execSlipTake tag s) := by
  refine next (take _ tag _ s (fun p => ?_))
  split
  · exact (refl _).refuse _ _
  · exact (((refl _).setMoney _).settleHead).ok _ _

theorem refundTake : KeepsNext s (execRefundTake tag s) := by
  refine next (take _ tag _ s (fun p => ?_))
  split
  · exact (refl _).refuse _ _
  · exact ((refl _).setMoney _).ok _ _

theorem tillRoll : KeepsNext s (execTillRoll tag s) :=
  next (take _ tag _ s (fun _ => checked _ _ _ _ (((refl _).setMoney _).ok _ _)))

theorem coin (u : Fin 2) (code : Byte) : KeepsNext s (execCoin u code s) := by
  refine next (unitMessage u _ (fun v => ?_))
  have counted := (refl v).setUnit u { v.unit u with coins := (v.unit u).coins + 1 }
  refine ite counted ?_
  split
  · exact counted.creditCash _ _ _ _
  · exact counted.tillOverage _

theorem billHeld (u : Fin 2) (code : Byte) : KeepsNext s (execBillHeld u code s) := by
  refine next (unitMessage u _ (fun v => ?_))
  dsimp only
  split
  · have touched := (refl v).touch
    exact ite ((touched _).billHeld u code) (((touched _).jamUnit u 3).send _)
  · exact ite ((refl v).billHeld u code) (((refl v).jamUnit u 3).send _)

theorem billStacked (u : Fin 2) : KeepsNext s (execBillStacked u s) :=
  next (unitMessage u _ (fun v => ((((refl v).setUnit u _).stackedBill u).refreshGate u).evalBox u))

theorem boxIn (u : Fin 2) : KeepsNext s (execBoxIn u s) :=
  next (unitMessage u _ (fun v => (((refl v).setUnit u _).refreshGate u).evalBox u))

theorem boxFull (u : Fin 2) : KeepsNext s (execBoxFull u s) :=
  next (unitMessage u _ (fun v => (((refl v).setUnit u _).refreshGate u).evalBox u))

theorem boxOut (u : Fin 2) : KeepsNext s (execBoxOut u s) :=
  next (unitMessage u _ (fun v => ((refl v).setUnit u _).refreshGate u))

theorem cashUnitSilence (u : Fin 2) : KeepsNext s (execCashUnitSilence u s) :=
  next (heard _ s (ite (((refl s).setUnit u _).jamUnit u 1) (refl s)))

theorem escrowTimeout (u : Fin 2) : KeepsNext s (execEscrowTimeout u s) := by
  refine next (heard _ s ?_)
  split
  · exact (refl s).jamUnit u 2
  · exact (refl s).jamUnit u 2
  · exact refl s

theorem terminalSilence : KeepsNext s (execTerminalSilence s) := by
  refine next (heard _ s ?_)
  split
  · exact refl s
  · exact refl s
  · exact (refl s).terminalLost

theorem authLimit : KeepsNext s (execAuthLimit s) := by
  refine next (heard _ s ?_)
  split
  · exact ((((refl s).setTerminal _).send _).setLastEnded _).endWithCondition _ _ _
  · exact refl s

theorem cancelLimit : KeepsNext s (execCancelLimit s) := by
  refine next (heard _ s ?_)
  split
  · exact (refl s).cancelEnds _
  · exact refl s

/-! ### The spool -/

theorem rasterOpen : KeepsNext s (execRasterOpen tag s) := by
  refine next (take _ tag _ s (fun p => withOrder _ _ _ _ _ _ (fun u x o _ => checked _ _ _ _ ?_)))
  split
  · exact (refl u).refuse _ _
  · next k l _ =>
    unfold State.checked
    split
    · exact (refl u).refuse _ _
    · next hc =>
      refine ok ((refl u).openRaster _ _ _ _ ?_) _ _
      simpa using List.find?_eq_none.1 hc (decide (l.size.blocks ≤ u.spool.free.length), .noSpool) (by simp)

theorem rasterData : KeepsNext s (execRasterData tag s) := by
  refine next (take _ tag _ s (fun p => checked _ _ _ _ (withOrder _ _ _ _ _ _ (fun u x o _ => checked _ _ _ _ ?_))))
  split
  · exact (refl u).refuse _ _
  · split
    · exact (refl u).refuse _ _
    · exact checked _ _ _ _ ((refl u).acceptWrite _ _ _)

theorem rasterAbort : KeepsNext s (execRasterAbort tag s) := by
  refine next (take _ tag _ s (fun p => withOrder _ _ _ _ _ _ (fun u x o _ => checked _ _ _ _ ?_)))
  split
  · exact (refl u).refuse _ _
  · split
    · exact (refl u).refuse _ _
    · exact ((refl u).abortRaster _ _ _).ok _ _

theorem rasterQuery : KeepsNext s (execRasterQuery tag s) := by
  refine next (take _ tag _ s (fun p => withAnyOrder _ _ _ _ _ (fun u x o _ => ?_)))
  split
  · exact (refl u).refuse _ _
  · split
    · exact (refl u).refuse _ _
    · exact (refl u).ok _ _

/-! ### The printers -/

theorem done (p : Fin 3) (id : BitVec 16) : KeepsNext s (execDone p id s) := by
  refine next (heard _ s ?_)
  dsimp only
  split
  · exact ((refl s).goodFrame p).attemptDone _ _
  · exact (refl s).goodFrame p

theorem fail (p : Fin 3) (id : BitVec 16) (r : FailReason) : KeepsNext s (execFail p id r s) := by
  refine next (heard _ s ?_)
  dsimp only
  split
  · exact ((refl s).goodFrame p).attemptFails _ _
  · exact (refl s).goodFrame p

theorem printerHold : KeepsNext s (execPrinterHold tag s) :=
  next (take _ tag _ s (fun _ => onPort _ _ _ (fun n => ((refl _).holdPort n).portReply _ n)))

theorem printerRelease : KeepsNext s (execPrinterRelease tag s) :=
  next (take _ tag _ s (fun _ => onPort _ _ _ (fun n => ((refl _).releasePort n).portReply _ n)))

theorem mediaLoaded : KeepsNext s (execMediaLoaded tag s) := by
  refine next (take _ tag _ s (fun p => checked _ _ _ _ ?_))
  split
  · exact checked _ _ _ _ (((refl _).loadMedia _ _ _).ok _ _)
  · exact (refl _).refuse _ _

theorem printerQuery : KeepsNext s (execPrinterQuery tag s) := by
  refine next (take _ tag _ s (fun p => ?_))
  split
  · exact (refl _).refuse _ _
  · exact (refl _).ok _ _

/-! ### The conditions and the settings -/

/-- SET_MODE is taken behind START alone, and lets SERVICE in behind the open door. -/
theorem setMode : KeepsNext s (execSetMode tag s) := by
  refine next ?_
  cases hs : s.power.starting with
  | true => simp [State.take, hs]
  | false =>
    refine take _ tag _ s (fun p => ?_)
    split
    · exact (refl _).refuse _ _
    · next m _ =>
      unfold State.checked
      split
      · exact (refl _).refuse _ _
      · next hc =>
        have hd := List.find?_eq_none.1 hc _ (List.mem_singleton_self _)
        simp only [State.setLink_conds, Bool.not_eq_true', Bool.not_eq_false, Bool.or_eq_true] at hd
        unfold State.changeMode
        refine ok (ite (refl _) (resolveSets ?_ _)) _ _
        refine ⟨rfl, rfl, List.prefix_rfl, id, id, id, fun k => ⟨fun hm => ?_, fun h => ?_⟩, id⟩
        · rcases hd with hm' | hd
          · rcases of_decide_eq_true hm' with hm' | hm'
            · cases hm.symm.trans hm'
            · exact k.1 hm'
          · exact hd
        · exact absurd (hs.symm.trans h) (by decide)

theorem conditionClear : KeepsNext s (execConditionClear tag s) := by
  refine next (take _ tag _ s (fun p => ?_))
  split
  · exact (refl _).refuse _ _
  · exact checked _ _ _ _ ((refl _).clearKiosk _ _)
  · exact withSession _ _ _ _ _ _ (fun u _ => (refl u).clearSession _ _ _)

theorem maskSet : KeepsNext s (execMaskSet tag s) := by
  refine next (take _ tag _ s (fun p => ?_))
  split
  · exact (refl _).refuse _ _
  · exact checked _ _ _ _ ((refl _).maskKiosk _ _)
  · exact withSession _ _ _ _ _ _ (fun u _ => (refl u).maskSession _ _ _)

theorem settingGet : KeepsNext s (execSettingGet tag s) := by
  refine next (take _ tag _ s (fun p => ?_))
  split
  · exact (refl _).refuse _ _
  · exact (refl _).ok _ _

theorem settingPut : KeepsNext s (execSettingPut tag s) := by
  refine next (take _ tag _ s (fun p => checked _ _ _ _ ?_))
  split
  · exact (refl _).refuse _ _
  · exact checked _ _ _ _ (((refl _).putSetting _ _ _).putReply _ _ _)

theorem pricesPublish : KeepsNext s (execPricesPublish tag s) := by
  refine next (take _ tag _ s (fun p => checked _ _ _ _ ?_))
  split
  · exact (refl _).replyWith _ _ _
  · exact ((refl _).setStore _).ok _ _

theorem resume : KeepsNext s (execResume tag s) := by
  refine next (take _ tag _ s (fun _ => ok (setPower (refl _) _ ?_) _ _))
  rfl

theorem loadEnd (xs : List StoreRead) (f : FirstSamples) : KeepsNext s (execLoadEnd xs f s) := by
  refine next ?_
  split_ifs with hs
  · exact Keeps.startUp xs f hs
  · split
    · exact (refl s).reloadEnds _ _
    · exact refl s

end KeepsNext
end Sys2Proof.Machine

/-! Every command and every step keeps; what follows for the step and for the state after reset. -/

namespace Sys2Proof.Machine

open Keeps in
/-- Every command answers a next state, and keeps what `Keeps` says. -/
theorem exec_keepsNext (c : Instr) (s : State) : KeepsNext s (exec c s) := by
  cases c with
  | powerOn x => exact next (Keeps.powerOn x s)
  | loadEnd xs f => exact KeepsNext.loadEnd s xs f
  | frameReceived b => exact next ((refl s).receiveBytes b)
  | interByteTimeout => exact KeepsNext.interByteTimeout s
  | frameSent => exact KeepsNext.frameSent s
  | identify tag => exact next (take _ tag _ s (fun _ => (refl _).ok _ _))
  | status tag => exact KeepsNext.status tag s
  | sessionOpen tag => exact KeepsNext.sessionOpen tag s
  | sessionClose tag => exact KeepsNext.sessionClose tag s
  | sessionResume tag => exact KeepsNext.sessionResume tag s
  | sessionQuery tag => exact next (take _ tag _ s (fun _ => withSession _ _ _ _ _ _ (fun u _ => (refl u).ok _ _)))
  | idleTimerExpiry r => exact next ((refl s).idleExpires r)
  | imageRead tag => exact KeepsNext.imageRead tag s
  | slotQuery tag => exact KeepsNext.slotQuery tag s
  | slotSample n b => exact next (heard _ s (ite (refl s) ((refl s).slotReading n b _)))
  | catalogueRemovalFreeing => exact next (refl s).freeRemoved
  | orphanMarking => exact next (refl s).markOrphans
  | probeDue n => exact next (heard _ s (ite ((refl s).issue n _) (refl s)))
  | probeAnswer x => exact next (heard _ s (ite ((refl s).probeEnds _ _) (refl s)))
  | probeTimeout n => exact next (heard _ s (ite ((refl s).probeEnds n _) (refl s)))
  | identificationAnswer x a => exact KeepsNext.identificationAnswer s x a
  | identificationTimeout n => exact KeepsNext.identificationTimeout s n
  | blockReadAnswer x a => exact KeepsNext.blockReadAnswer s x a
  | blockReadTimeout n => exact KeepsNext.blockReadTimeout s n
  | catalogueAdmission n => exact next ((refl s).admitFrom n)
  | catalogueList tag => exact KeepsNext.catalogueList tag s
  | orderOpen tag => exact KeepsNext.orderOpen tag s
  | lineAdd tag => exact KeepsNext.lineAdd tag s
  | lineChange tag => exact KeepsNext.lineChange tag s
  | lineRemove tag => exact KeepsNext.lineRemove tag s
  | orderQuote tag => exact KeepsNext.orderQuote tag s
  | orderCommit tag => exact KeepsNext.orderCommit tag s
  | orderCancel tag => exact KeepsNext.orderCancel tag s
  | orderQuery tag => exact KeepsNext.orderQuery tag s
  | gateOpen tag => exact KeepsNext.gateOpen tag s
  | gateClose tag => exact KeepsNext.gateClose tag s
  | challengeAnswer tag => exact next (take _ tag _ s (fun _ => (refl _).answerChallenge _ _ _))
  | challengeIssue => exact next (refl s).challengeIssue
  | slipTake tag => exact KeepsNext.slipTake tag s
  | refundTake tag => exact KeepsNext.refundTake tag s
  | tillQuery tag => exact next (take _ tag _ s (fun _ => (refl _).ok _ _))
  | tillRoll tag => exact KeepsNext.tillRoll tag s
  | coin u code => exact KeepsNext.coin s u code
  | billHeld u code => exact KeepsNext.billHeld s u code
  | billStacked u => exact KeepsNext.billStacked s u
  | billReturned u => exact next (unitMessage u _ (fun v => ite (refl v) ((refl v).endEscrow u)))
  | jam u => exact next (unitMessage u _ (fun v => (refl v).jamUnit u _))
  | boxFull u => exact KeepsNext.boxFull s u
  | boxOut u => exact KeepsNext.boxOut s u
  | boxIn u => exact KeepsNext.boxIn s u
  | cashHeartbeat u => exact next (unitMessage u _ refl)
  | cashUnitSilence u => exact KeepsNext.cashUnitSilence s u
  | escrowTimeout u => exact KeepsNext.escrowTimeout s u
  | approved r n code => exact next (terminalMessage _ (fun v => (refl v).approval r _))
  | declined r x => exact next (terminalMessage _ (fun v => (refl v).notTaken r))
  | cancelled r => exact next (terminalMessage _ (fun v => (refl v).notTaken r))
  | terminalHeartbeat => exact next (terminalMessage _ refl)
  | terminalSilence => exact KeepsNext.terminalSilence s
  | authLimit => exact KeepsNext.authLimit s
  | cancelLimit => exact KeepsNext.cancelLimit s
  | rasterOpen tag => exact KeepsNext.rasterOpen tag s
  | rasterData tag => exact KeepsNext.rasterData tag s
  | writeEnd => exact next (refl s).writeEnds
  | rasterAbort tag => exact KeepsNext.rasterAbort tag s
  | rasterQuery tag => exact KeepsNext.rasterQuery tag s
  | spoolQuery tag => exact next (take _ tag _ s (fun _ => (refl _).ok _ _))
  | readTransferEnd p => exact next ((refl s).readTransferEnds p)
  | rasterBytesTaken p n => exact next ((refl s).bytesTaken p n)
  | statusReport p r k => exact next (heard _ s ((refl s).statusReport p r k))
  | done p id => exact KeepsNext.done s p id
  | fail p id r => exact KeepsNext.fail s p id r
  | printerCorruptFrame p => exact next (heard _ s ((refl s).corruptFrame p))
  | printerSilence p => exact next (heard _ s ((refl s).goOffline p _))
  | feedLimit p => exact next (heard _ s (ite ((refl s).attemptFails p _) (refl s)))
  | printLimit p => exact next (heard _ s (ite ((refl s).attemptFails p _) (refl s)))
  | printerHold tag => exact KeepsNext.printerHold tag s
  | printerRelease tag => exact KeepsNext.printerRelease tag s
  | mediaLoaded tag => exact KeepsNext.mediaLoaded tag s
  | printerQuery tag => exact KeepsNext.printerQuery tag s
  | printQueueQuery tag => exact next (take _ tag _ s (fun _ => checked _ _ _ _ ((refl _).ok _ _)))
  | doorSample b => exact next (heard _ s (Keeps.doorSample s b))
  | supplySample b => exact next (heard _ s ((refl s).supplySample b))
  | presenceSample b => exact next (heard _ s ((refl s).presenceSample b))
  | setMode tag => exact KeepsNext.setMode tag s
  | conditionClear tag => exact KeepsNext.conditionClear tag s
  | maskSet tag => exact KeepsNext.maskSet tag s
  | serviceRestore tag => exact next (take _ tag _ s (fun _ => checked _ _ _ _ ((refl _).restoreService.ok _ _)))
  | conditionQuery tag => exact next (take _ tag _ s (fun _ => (refl _).ok _ _))
  | settingGet tag => exact KeepsNext.settingGet tag s
  | settingPut tag => exact KeepsNext.settingPut tag s
  | pricesPublish tag => exact KeepsNext.pricesPublish tag s
  | storeSave tag => exact next (take _ tag _ s (fun _ => checked _ _ _ _ ((refl _).setOp _)))
  | saveEnd x => exact next ((refl s).saveEnds x)
  | storeCheck tag => exact next (take _ tag _ s (fun _ => checked _ _ _ _ ((refl _).setOp _)))
  | checkEnd x => exact next ((refl s).checkEnds x)
  | storeReload tag => exact next (take _ tag _ s (fun _ => checked _ _ _ _ ((refl _).setOp _)))
  | quiesce tag => exact next (take _ tag _ s (fun _ => checked _ _ _ _ ((refl _).enterStandby.ok _ _)))
  | resume tag => exact KeepsNext.resume tag s
  | kioskReset tag => exact next (take _ tag _ s (fun _ => checked _ _ _ _ ((Keeps.refl _).kioskReset tag)))
  | lengthAbove4096 b => exact next ((refl s).receiveBytes b)

/-- The queue and the time set leave the blocks as they are. -/
theorem State.setQueue_changesOnly (s : State) (q : List Instr) (now : Nat) :
    s.ChangesOnly ((s.setPending q).setNow now) [.pending, .now] := by
  intro b hb
  cases b with
  | pending => exact absurd (by decide) hb
  | now => exact absurd (by decide) hb
  | _ => rfl

/-- On an empty queue only the queue and the time move. -/
theorem State.tick_changesOnly (s : State) : s.ChangesOnly s.tick [.pending, .now] := by
  unfold State.tick
  cases s.due with
  | nil => exact s.setQueue_changesOnly s.pending _
  | cons c rest => exact s.setQueue_changesOnly [c] s.now

/-- Every step keeps a property that the queue and the time do not touch and that every command keeps. -/
theorem step_keeps {P : State → Prop} {s t : State} (frame : ∀ u v, u.ChangesOnly v [.pending, .now] → P u → P v)
    (keep : ∀ u v, Keeps u v → P u → P v) (h : step s = .next t) (hs : P s) : P t := by
  unfold step at h
  cases hp : s.pending with
  | nil =>
    simp only [hp, Host.Outcome.next.injEq] at h
    exact h ▸ frame s _ s.tick_changesOnly hs
  | cons c rest =>
    simp only [hp] at h
    obtain ⟨u, hu, hk⟩ := exec_keepsNext c (s.setPending rest)
    cases h.symm.trans hu
    exact keep _ _ hk (frame s _ (s.setQueue_changesOnly rest s.now) hs)

/-- Settles O4: every command keeps the bounds of the link, and a step on an empty queue does not reach the link. -/
theorem stepKeepsTheLinkBounded : Obligations.StepKeepsTheLinkBounded := by
  unfold Obligations.StepKeepsTheLinkBounded
  intro s t hs h
  refine step_keeps (P := fun u => u.link.Bounded) (fun u v hc k => ?_) (fun u v hk => hk.link) h hs
  rw [hc.link]
  exact k

/-- Settles O1: the queue's front is what `step` matches on. -/
theorem stepRunsTheFrontCommand : Obligations.StepRunsTheFrontCommand := by
  unfold Obligations.StepRunsTheFrontCommand
  intro c rest s hs
  unfold step
  rw [hs]

/-- Settles O8: each invariant holds of the empty tables and queues of reset. -/
theorem resetIsSound : Obligations.ResetIsSound := by
  unfold Obligations.ResetIsSound
  exact ⟨Memory.wf_reset, Link.Bounded.reset, Orders.reset_copiesCounted, State.powerOn_doorKept _ _,
    Spool.reset_blocksCounted⟩

end Sys2Proof.Machine

/-! What is due, said through the vocabulary of the statements. -/

namespace Sys2Proof.Machine

/-- `whenDue` asks by a test what `dueIf` asks by a proposition. -/
theorem whenDue_eq_dueIf {b : Bool} {p : Prop} [Decidable p] (h : b = true ↔ p) (c : Instr) : whenDue b c = dueIf p c := by
  unfold whenDue dueIf
  by_cases hp : p
  · rw [if_pos (h.2 hp), if_pos hp]
  · rw [if_neg (fun hb => hp (h.1 hb)), if_neg hp]

theorem dueGap_eq (s : State) : s.dueGap = gapDue s := whenDue_eq_dueIf (decide_eq_true_iff) _

theorem passed_iff (s : State) (since limit : Nat) : s.passed since limit = true ↔ limit ≤ s.now - since := decide_eq_true_iff

theorem dueSession_eq (s : State) (r : Fin 8) : s.dueSession r = sessionDue s r := by
  refine whenDue_eq_dueIf ?_ _
  rw [decide_eq_true_iff]
  unfold State.idleLimit Timer.count
  cases (s.record r).timer <;> rfl

theorem probing_iff (x : SlotState) : x.probing = true ↔ x ∈ [.empty, .settling, .mounted, .left, .fault] := by
  cases x <;> decide

theorem dueSlot_eq (s : State) (n : Fin 4) : s.dueSlot n = slotDue s n := by
  unfold State.dueSlot slotDue
  have probe : (s.cyclic n && decide ((s.slot n).inFlight = none ∧ (s.slot n).serving = none) && (s.slot n).state.probing &&
      s.passed (s.slot n).lastOutcome (s.slot n).probeInterval) = true ↔
      s.store.working.a1.get ⟨n.val, by omega⟩ = 1 ∧ (s.slot n).inFlight = none ∧ (s.slot n).serving = none ∧
      (s.slot n).state ∈ [.empty, .settling, .mounted, .left, .fault] ∧
        (s.slot n).probeInterval ≤ s.now - (s.slot n).lastOutcome := by
    rw [Bool.and_eq_true, Bool.and_eq_true, Bool.and_eq_true, passed_iff, probing_iff, decide_eq_true_iff]
    unfold State.cyclic
    simp only [decide_eq_true_iff, and_assoc]
  have answer : (decide ((s.slot n).inFlight = some .probe) && s.passed (s.slot n).issuedAt Config.probeAnswer) = true ↔
      (s.slot n).inFlight = some .probe ∧ 100 ≤ s.now - (s.slot n).issuedAt := by
    rw [Bool.and_eq_true, passed_iff, decide_eq_true_iff]; rfl
  have ident : (decide ((s.slot n).state = .mounting) && s.passed (s.slot n).mountedAt Config.identificationLimit) = true ↔
      (s.slot n).state = .mounting ∧ 1000 ≤ s.now - (s.slot n).mountedAt := by
    rw [Bool.and_eq_true, passed_iff, decide_eq_true_iff]; rfl
  have block : ((s.slot n).reading && s.passed (s.slot n).issuedAt Config.blockReadLimit) = true ↔
      (s.slot n).inFlight = some .blockRead ∧ (s.slot n).serving ≠ none ∧ 250 ≤ s.now - (s.slot n).issuedAt := by
    rw [Bool.and_eq_true, passed_iff]
    unfold Slot.reading
    rw [Bool.and_eq_true, decide_eq_true_iff, Option.isSome_iff_ne_none, and_assoc]
    rfl
  dsimp only
  rw [whenDue_eq_dueIf probe, whenDue_eq_dueIf answer, whenDue_eq_dueIf ident, whenDue_eq_dueIf block]

theorem dueUnit_eq (s : State) (u : Fin 2) : s.dueUnit u = unitDue s u := by
  unfold State.dueUnit unitDue
  have silence : ((s.unit u).heard && !(s.unit u).silent && s.passed (s.unit u).lastHeard Config.cashSilence) = true ↔
      (s.unit u).heard = true ∧ (s.unit u).silent = false ∧ 2000 ≤ s.now - (s.unit u).lastHeard := by
    rw [Bool.and_eq_true, Bool.and_eq_true, passed_iff, Bool.not_eq_true', and_assoc]
    rfl
  dsimp only
  rw [whenDue_eq_dueIf silence]
  congr 1
  cases (s.unit u).escrow with
  | none => rfl
  | held => rfl
  | stacking c v h since => exact whenDue_eq_dueIf (passed_iff s since _) _
  | returning c v h since => exact whenDue_eq_dueIf (passed_iff s since _) _

theorem dueTerminal_eq (s : State) : s.dueTerminal = terminalDue s := by
  unfold State.dueTerminal terminalDue
  have limit (since n : Nat) (c : Instr) : whenDue (s.passed since n) c = dueIf (n ≤ s.now - since) c :=
    whenDue_eq_dueIf (passed_iff s since n) c
  dsimp only
  rw [limit]
  cases s.money.terminal.state with
  | absent => rfl
  | lost => rfl
  | idle => rfl
  | busy a since => exact congrArg (_ ++ ·) (limit since _ _)
  | cancelling r a since => exact congrArg (_ ++ ·) (limit since _ _)

theorem duePort_eq (s : State) (p : Fin 3) : s.duePort p = portDue s p := by
  unfold State.duePort portDue
  have limit (q : Prop) [Decidable q] (since n : Nat) : (decide q && s.passed since n) = true ↔ q ∧ n ≤ s.now - since := by
    rw [Bool.and_eq_true, passed_iff, decide_eq_true_iff]
  have silence : (decide ((s.port p).state ≠ .absent ∧ (s.port p).state ≠ .offline) &&
      s.passed (s.port p).heardAt Config.printerSilence) = true ↔
      (s.port p).state ∉ [PortState.absent, .offline] ∧ 3000 ≤ s.now - (s.port p).heardAt := by
    rw [limit]
    simp only [List.mem_cons, List.not_mem_nil, or_false, not_or]
    rfl
  dsimp only
  rw [whenDue_eq_dueIf silence, whenDue_eq_dueIf (limit _ _ _), whenDue_eq_dueIf (limit _ _ _)]
  rfl

/-- Everything due, part by part. -/
theorem due_eq (s : State) : s.due = if s.power.starting = true then gapDue s
    else
      gapDue s ++ s.catalogue.removals.map (fun _ => .catalogueRemovalFreeing) ++ s.orders.reports.map (fun _ => .orphanMarking) ++
        s.catalogue.handOffs.map (fun f => .catalogueAdmission f.slot) ++
        (s.link.table.filter (fun e => e.taken = false)).map (fun e => e.code.instr e.tag) ++
        (allFin 8).flatMap (sessionDue s) ++ (allFin 4).flatMap (slotDue s) ++ (allFin 2).flatMap (unitDue s) ++
        dueIf (s.money.challenge.running = true ∧ 2000 ≤ s.now - s.money.challenge.since) .challengeIssue ++
        terminalDue s ++ (allFin 3).flatMap (portDue s) := by
  have challenge : (s.money.challenge.running && s.passed s.money.challenge.since Config.challengePeriod) = true ↔
      s.money.challenge.running = true ∧ 2000 ≤ s.now - s.money.challenge.since := by
    rw [Bool.and_eq_true, passed_iff]
    rfl
  have requests : s.dueRequests =
      (s.link.table.filter (fun e => e.taken = false)).map (fun e => e.code.instr e.tag) := by
    unfold State.dueRequests
    simp only [Bool.decide_eq_false]
  unfold State.due State.dueSteps
  rw [dueGap_eq, requests, whenDue_eq_dueIf challenge, dueTerminal_eq, funext (dueSession_eq s), funext (dueSlot_eq s),
    funext (dueUnit_eq s), funext (duePort_eq s)]
  simp only [List.append_assoc]

theorem step_of_empty {s : State} (h : s.pending = []) : step s = .next s.tick := by
  unfold step
  rw [h]

/-- Settles O2: `exec_keepsNext` for the commands, the queue's first due thing for the empty queue, `due_eq` for what is due. -/
theorem everyCommandCompletes : Obligations.EveryCommandCompletes := by
  unfold Obligations.EveryCommandCompletes
  refine ⟨fun c s => ?_, fun s hs => ?_, due_eq, fun s n => rfl⟩
  · obtain ⟨t, ht, hk⟩ := exec_keepsNext c s
    exact ⟨t, ht, hk.pending, hk.now, hk.sent⟩
  · rw [step_of_empty hs]
    unfold State.tick
    cases s.due with
    | nil => rfl
    | cons c rest => rfl

end Sys2Proof.Machine

/-! The state after power-on, table by table. -/

namespace Sys2Proof.Machine

/-- Every record of a table that holds one value is that value. -/
theorem get_replicate {α : Type} {n : Nat} (x : α) (i : Fin n) : (Vector.replicate n x).get i = x := by
  simp [Vector.get_eq_getElem]

variable (x : Straps) (image : List Byte)

theorem powerOn_record (r : Fin 8) : (State.powerOn x image).record r = SessionRecord.reset := get_replicate _ r
theorem powerOn_front (st : Station) : (State.powerOn x image).front st = none := get_replicate _ st.index
theorem powerOn_slot (n : Fin 4) : (State.powerOn x image).slot n = Slot.reset := get_replicate _ n
theorem powerOn_position (q : Fin 2048) :
    (State.powerOn x image).catalogue.table.get q = { gen := 0, entry := none } := get_replicate _ q
theorem powerOn_list (r : Fin 8) : (State.powerOn x image).catalogue.lists.get r = [] := get_replicate _ r
theorem powerOn_orderRecord (o : Fin 16) : (State.powerOn x image).orderRecord o = { gen := 0, body := none } :=
  get_replicate _ o
theorem powerOn_account (r : Fin 8) : (State.powerOn x image).account r = Account.zero := get_replicate _ r
theorem powerOn_unit (u : Fin 2) : (State.powerOn x image).unit u = CashUnit.reset := get_replicate _ u
theorem powerOn_reader (p : Fin 3) : (State.powerOn x image).reader p = Reader.stopped := get_replicate _ p
theorem powerOn_port (p : Fin 3) : (State.powerOn x image).port p = Port.reset := get_replicate _ p

theorem powerOn_free : (State.powerOn x image).spool.free = List.range 1024 := by
  simp only [State.powerOn, Spool.reset]

theorem profileOf_eq (x : Straps) : profileOf x = (match x.prof1, x.prof0 with
    | false, false => .solo
    | false, true => .duo
    | true, false => .duoCard
    | true, true => .soloCard) := by
  obtain ⟨p1, p0⟩ := x
  cases p1 <;> cases p0 <;> rfl

/-- Settles O9: the blocks are those of `State.powerOn`, and what was sent, the time and the queue are put back. -/
theorem powerOnGivesTheValuesOfEveryChapter : Obligations.PowerOnGivesTheValuesOfEveryChapter := by
  unfold Obligations.PowerOnGivesTheValuesOfEveryChapter
  intro x s
  have slot := powerOn_slot x s.store.image
  have port := powerOn_port x s.store.image
  refine ⟨_, rfl, rfl, powerOn_record x s.store.image, powerOn_front x s.store.image, rfl,
    fun n => ⟨congrArg Slot.state (slot n), congrArg Slot.faultCause (slot n), congrArg Slot.present (slot n),
      congrArg Slot.run (slot n), congrArg Slot.insertionOwner (slot n), congrArg Slot.bound (slot n),
      congrArg Slot.identity (slot n), congrArg Slot.grade (slot n), congrArg Slot.errors (slot n),
      congrArg Slot.reads (slot n), congrArg Slot.scan (slot n), congrArg Slot.serving (slot n),
      congrArg Slot.inFlight (slot n)⟩,
    powerOn_position x s.store.image, powerOn_list x s.store.image, rfl, rfl, powerOn_orderRecord x s.store.image, rfl,
    powerOn_account x s.store.image, powerOn_unit x s.store.image, rfl, rfl, rfl, rfl, rfl, rfl, rfl, rfl,
    powerOn_free x s.store.image, rfl, rfl, rfl, powerOn_reader x s.store.image, rfl, rfl, rfl,
    fun p => ⟨congrArg Port.state (port p), congrArg Port.fault (port p), congrArg Port.kind (port p),
      congrArg Port.units (port p), congrArg Port.errors (port p), congrArg Port.hold (port p), congrArg Port.run (port p),
      congrArg Port.attempt (port p), congrArg Port.last (port p)⟩,
    rfl, rfl, ?_, fun b hb => ?_⟩
  · exact congrArg (fun p => { Power.powerOn x with profile := p }) (profileOf_eq x)
  · cases b with
    | sent => rfl
    | now => rfl
    | pending => rfl
    | _ => exact absurd (by decide) hb

end Sys2Proof.Machine

/-! The taking of a request by its owner, said of every request code at once. -/

namespace Sys2Proof.Machine

/-- Each request row is a taking. -/
theorem exec_instr (c : RequestCode) (tag : Byte) :
    ∃ act : State → List Byte → State, ∀ s, exec (c.instr tag) s = .next (s.take c tag act) := by
  cases c <;> exact ⟨_, fun _ => rfl⟩

variable {s : State} {c : RequestCode} {tag : Byte}

theorem take_of_starting (h : s.power.starting = true) (act : State → List Byte → State) : s.take c tag act = s := by
  unfold State.take
  rw [if_pos h]

theorem take_of_not_first (h : ∀ e, s.link.firstUntaken c.owner = some e → e.tag ≠ tag ∨ e.code ≠ c)
    (act : State → List Byte → State) : s.take c tag act = s := by
  unfold State.take
  split
  · rfl
  · cases hf : s.link.firstUntaken c.owner with
    | none => rfl
    | some e =>
      dsimp only
      rw [if_neg]
      rintro ⟨ht, hc⟩
      exact (h e hf).elim (· ht) (· hc)

/-- The codes that STANDBY answers (R183). -/
theorem inStandby_iff (c : RequestCode) : c.inStandby = true ↔ c ∈ [.identify, .status, .resume, .conditionQuery] := by
  cases c <;> decide

/-- A request of another code taken in STANDBY is refused, whatever its owner would have done. -/
theorem take_of_standby {p : List Byte} (h : s.power.starting = false) (hs : s.power.standby = true)
    (hc : c.inStandby = false) (ho : c ≠ .sessionOpen) (hd : (s.link.table.map (fun e => e.tag)).Nodup)
    (hf : s.link.firstUntaken c.owner = some { tag := tag, code := c, payload := p, taken := false })
    (act : State → List Byte → State) : s.take c tag act = s.answerNo tag c .standby := by
  unfold State.take
  rw [h, hf]
  simp only [Bool.false_eq_true, if_false, and_self, if_true, hs, hc, ne_eq, ho, not_false_eq_true]
  have hm := List.mem_of_find?_eq_some hf
  exact congrArg s.setLink (Link.reply_markTaken [Status.standby.code] hm rfl hd)

/-- Settles O13: every request row is a `State.take`, and the three lemmas above say when it changes nothing or refuses. -/
theorem ownersTakeTheirRequestsInOrder : Obligations.OwnersTakeTheirRequestsInOrder := by
  unfold Obligations.OwnersTakeTheirRequestsInOrder
  refine ⟨fun s c tag h => ?_, fun s c tag p h hs hc hd hf => ?_⟩
  · obtain ⟨act, hact⟩ := exec_instr c tag
    rw [hact]
    exact congrArg _ (h.elim (fun hs => take_of_starting hs act) (fun hn => take_of_not_first hn act))
  · obtain ⟨act, hact⟩ := exec_instr c tag
    have standby : c.inStandby = false := by
      rw [Bool.eq_false_iff, ne_eq, inStandby_iff]
      exact fun hm => hc (List.mem_append_left (bs := [RequestCode.sessionOpen]) hm)
    have other : c ≠ .sessionOpen := by
      rintro rfl
      exact hc (by decide)
    rw [hact, take_of_standby h hs standby other hd hf]

end Sys2Proof.Machine

/-! The queries: what a request reads behind its taking is what stands in the state before it, and only the link changes. -/

namespace Sys2Proof.Machine

/-! ### Checks in their order -/

@[simp] theorem checked_nil (s : State) (tag : Byte) (act : State) : s.checked tag [] act = act := rfl

@[simp] theorem checked_cons (s : State) (tag : Byte) (b : Bool) (e : Status) (rest : List (Bool × Status)) (act : State) :
    s.checked tag ((b, e) :: rest) act = if b then s.checked tag rest act else s.refuse tag e := by
  unfold State.checked
  cases b <;> rfl

variable {s : State} {c : RequestCode} {tag : Byte} {p : List Byte}

/-- The answer of a query: OK with its fields, BAD_VALUE where it names nothing. -/
def State.queryAnswer (s : State) (tag : Byte) : Option (List Byte) → State
  | some fields => s.ok tag fields
  | none => s.refuse tag .badValue

/-- The state with that answer given. -/
def State.queryAnswered (s : State) (tag : Byte) (c : RequestCode) : Option (List Byte) → State
  | some fields => s.answerOk tag c fields
  | none => s.answerNo tag c .badValue

/-- A request whose owner gives a query's answer. -/
theorem State.Offers.query (h : s.Offers c tag p) (act : State → List Byte → State) (fields : Option (List Byte))
    (ha : act (s.holds tag) p = (s.holds tag).queryAnswer tag fields) :
    s.take c tag act = s.queryAnswered tag c fields := by
  rw [h.take, ha]
  cases fields with
  | none => exact h.refuse _
  | some fs => exact h.ok fs

/-! ### What each query reads -/

theorem queryFields_identify (s : State) (p : List Byte) : queryFields .identify s p = some s.identifyFields := by
  unfold queryFields State.identifyFields Profile.stations Profile.unitCount
  cases s.power.profile <;> rfl

theorem queryFields_slotQuery (s : State) (p : List Byte) :
    queryFields .slotQuery s p = (fin? 4 (byteAt p 0)).map s.slotFields := by
  show (if h : byteAt p 0 < 4 then some (s.slotFields ⟨byteAt p 0, h⟩) else none) = _
  unfold fin?
  split_ifs <;> rfl

theorem queryFields_printerQuery (s : State) (p : List Byte) :
    queryFields .printerQuery s p = (fin? 3 (byteAt p 0)).map s.portFields := by
  show (if h : byteAt p 0 < 3 then some (s.portFields ⟨byteAt p 0, h⟩) else none) = _
  unfold fin?
  split_ifs <;> rfl

/-- A query leaves all but the link, with the answer of `queryFields`. -/
theorem query_answers (hc : c ∈ [.identify, .slotQuery, .tillQuery, .spoolQuery, .printerQuery, .printQueueQuery,
    .conditionQuery, .settingGet]) (h : s.Offers c tag p) :
    exec (c.instr tag) s = .next (s.queryAnswered tag c (queryFields c s p)) := by
  simp only [List.mem_cons, List.not_mem_nil, or_false] at hc
  rcases hc with rfl | rfl | rfl | rfl | rfl | rfl | rfl | rfl
  · rw [queryFields_identify]
    exact congrArg _ (h.query _ (some s.identifyFields) rfl)
  · rw [queryFields_slotQuery]
    refine congrArg _ (h.query _ _ ?_)
    cases fin? 4 (byteAt p 0) <;> rfl
  · exact congrArg _ (h.query _ (some s.tillQueryFields) rfl)
  · exact congrArg _ (h.query _ (some s.spoolFields) rfl)
  · rw [queryFields_printerQuery]
    refine congrArg _ (h.query _ _ ?_)
    cases fin? 3 (byteAt p 0) <;> rfl
  · refine congrArg _ (h.query _ (queryFields .printQueueQuery s p) ?_)
    simp only [checked_cons, checked_nil, queryFields]
    by_cases hn : 1 ≤ byteAt p 1 ∧ byteAt p 1 ≤ 32
    · simp only [hn, and_self, decide_true, if_true]
      rfl
    · simp only [hn, decide_false, Bool.false_eq_true, if_false]
      rfl
  · exact congrArg _ (h.query _ (some s.conditionFields) rfl)
  · refine congrArg _ (h.query _ (queryFields .settingGet s p) ?_)
    show (match s.settingValue (byteAt p 0) (byteAt p 1) (byteAt p 2) with
      | none => (s.holds tag).refuse tag .badValue
      | some v => (s.holds tag).ok tag (le4 v ++ flagByte s.store.modified)) =
      (s.holds tag).queryAnswer tag
        ((s.settingValue (byteAt p 0) (byteAt p 1) (byteAt p 2)).map (fun v => le4 v ++ flagByte s.store.modified))
    cases s.settingValue (byteAt p 0) (byteAt p 1) (byteAt p 2) <;> rfl

/-! ### STATUS -/

/-- The fields of STATUS count the request itself as held, taken or not. -/
theorem statusFields_holds (s : State) (tag : Byte) : (s.holds tag).statusFields = s.statusFields := by
  unfold State.statusFields
  have held : (s.holds tag).link.table.length = s.link.table.length := List.length_map _
  rw [held]
  rfl

theorem status_answers (h : s.Offers .status tag p) :
    s.take .status tag (fun t _ => (t.setLink { t.link with errors := 0, dropped := false }).ok tag t.statusFields) =
      State.answerOk { s with link := { s.link with errors := 0, dropped := false } } tag .status s.statusFields := by
  rw [h.take, statusFields_holds]
  exact h.reply _ { s.link with errors := 0, dropped := false } rfl rfl .ok s.statusFields

/-- Settles O14: by `query_answers`, and for STATUS by the fields its taking finds. -/
theorem queriesAnswerAndStatusClears : Obligations.QueriesAnswerAndStatusClears := by
  unfold Obligations.QueriesAnswerAndStatusClears
  refine ⟨fun c s tag p hc h => (query_answers hc h).trans (congrArg _ ?_), fun s tag p h => congrArg _ (status_answers h)⟩
  cases queryFields c s p <;> rfl

end Sys2Proof.Machine

/-! Handles: what a session handle and an order handle are answered before the owner's own part. -/

namespace Sys2Proof.Machine

/-! ### The handle of a payload -/

theorem fin?_eq_some {n k : Nat} {i : Fin n} (h : k = i.val) : fin? n k = some i := by
  subst h
  unfold fin?
  rw [dif_pos i.isLt]

theorem fin?_eq_none {n k : Nat} (h : n ≤ k) : fin? n k = none := by
  unfold fin?
  rw [dif_neg (Nat.not_lt.2 h)]

theorem sessionAt_of_handle {s : State} {p : List Byte} {k : Nat} {h : SessionHandle} (hr : byteAt p k = h.record.val)
    (hg : p.getD (k + 1) 0 = h.gen) : s.sessionAt p k = if s.current h then .ok h else .error .staleHandle := by
  unfold State.sessionAt
  rw [fin?_eq_some hr]
  simp only [hg]

theorem orderHandleAt_of_handle {p : List Byte} {k : Nat} {h : OrderHandle} (hr : byteAt p k = h.record.val)
    (hg : p.getD (k + 1) 0 = h.gen) : orderHandleAt p k = some h := by
  unfold orderHandleAt
  rw [fin?_eq_some hr, Option.map_some, hg]

theorem orderAt_of_order {s : State} {p : List Byte} {k : Nat} {h : OrderHandle} {o : Order} (hr : byteAt p k = h.record.val)
    (hg : p.getD (k + 1) 0 = h.gen) (ho : s.order? h = some o) : s.orderAt p k = .ok (h, o) := by
  unfold State.orderAt
  rw [fin?_eq_some hr]
  simp only [hg, ho]

theorem orderAt_of_none {s : State} {p : List Byte} {k : Nat} {h : OrderHandle} (hr : byteAt p k = h.record.val)
    (hg : p.getD (k + 1) 0 = h.gen) (ho : s.order? h = none) : s.orderAt p k = .error .staleHandle := by
  unfold State.orderAt
  rw [fin?_eq_some hr]
  simp only [hg, ho]

/-! ### What is current and what was closed over -/

theorem current_iff (s : State) (h : SessionHandle) :
    s.current h = true ↔ (s.record h.record).state ≠ .idle ∧ (s.record h.record).gen = h.gen := by
  unfold State.current
  rw [decide_eq_true_iff]

theorem mem_allFin {n : Nat} (i : Fin n) : i ∈ allFin n := by
  unfold allFin
  simp

theorem closedOver_iff (s : State) (h : OrderHandle) :
    s.closedOver h = true ↔ s.orderRecord h.record = { gen := h.gen, body := none } ∧
      ∃ r, (s.record r).closedOrder = some h ∧ (s.record r).state ∈ [.closing, .draining, .settling] := by
  unfold State.closedOver
  rw [Bool.and_eq_true, decide_eq_true_iff, List.any_eq_true]
  simp only [decide_eq_true_iff, mem_allFin, true_and]

/-- An order in use was not closed over. -/
theorem closedOver_of_order {s : State} {h : OrderHandle} {o : Order} (ho : s.order? h = some o) :
    s.closedOver h = false := by
  rw [Bool.eq_false_iff, ne_eq, closedOver_iff]
  rintro ⟨hr, -⟩
  unfold State.order? at ho
  rw [hr] at ho
  simp at ho

/-! ### The idle timer of a request at hand -/

theorem touch_eq (s : State) (r : Fin 8) : s.touch r = timerRestarted s r := by
  unfold State.touch timerRestarted
  cases (s.record r).timer <;> rfl

theorem holds_touch (s : State) (tag : Byte) (r : Fin 8) : (s.holds tag).touch r = (s.touch r).holds tag := by
  have hr : (s.holds tag).record r = s.record r := rfl
  unfold State.touch
  rw [hr]
  cases (s.record r).timer <;> rfl

theorem holds_touchHandle (s : State) (tag : Byte) (h : SessionHandle) :
    (s.holds tag).touchHandle h = (s.touchHandle h).holds tag := by
  have hc : (s.holds tag).current h = s.current h := rfl
  unfold State.touchHandle
  rw [hc]
  split_ifs
  · exact holds_touch s tag h.record
  · rfl

/-- The restart of a timer leaves the session's state. -/
theorem touch_state (s : State) (r q : Fin 8) : ((s.touch r).record q).state = (s.record q).state := by
  unfold State.touch
  split
  · by_cases hq : r = q
    · subst hq
      simp [State.setRecord, State.record, put, Vector.get_eq_getElem]
    · have hne : r.val ≠ q.val := fun h => hq (Fin.ext h)
      simp [State.setRecord, State.record, put, Vector.get_eq_getElem, hne]
  · rfl

theorem touchHandle_state (s : State) (h : SessionHandle) (q : Fin 8) :
    ((s.touchHandle h).record q).state = (s.record q).state := by
  unfold State.touchHandle
  split_ifs
  · exact touch_state s h.record q
  · rfl

variable {s : State} {c : RequestCode} {tag : Byte} {p : List Byte}

/-- A request still stands ready where nothing but the sessions moved. -/
theorem State.Offers.sessions (h : s.Offers c tag p) {t : State} (ht : s.ChangesOnly t [.sessions]) : t.Offers c tag p := by
  unfold State.Offers
  rw [ht.power, ht.link]
  exact h

/-- A refusal behind the restart of a timer. -/
theorem State.Offers.refuseTouched (h : s.Offers c tag p) (r : Fin 8) (e : Status) :
    ((s.holds tag).touch r).refuse tag e = (s.touch r).answerNo tag c e := by
  rw [holds_touch]
  exact (h.sessions (State.ChangesOnly.touch_op s r)).refuse e

theorem State.Offers.refuseTouchedHandle (h : s.Offers c tag p) (x : SessionHandle) (e : Status) :
    ((s.holds tag).touchHandle x).refuse tag e = (s.touchHandle x).answerNo tag c e := by
  rw [holds_touchHandle]
  exact (h.sessions (State.ChangesOnly.touchHandle_op s x)).refuse e

/-! ### Requests that name a session -/

/-- The check that stands before the handle of some requests (log 21). -/
def lengthGood (c : RequestCode) (p : List Byte) : Bool :=
  match c with
  | .imageRead => decide (1 ≤ num2At p 9 ∧ num2At p 9 ≤ 4000)
  | .catalogueList => decide (1 ≤ byteAt p 4 ∧ byteAt p 4 ≤ 32)
  | .rasterData => decide ((p.drop 7).length ≤ 4088)
  | _ => true

/-- A request without such a check passes it. -/
theorem checked_lengthGood (hc : c ∉ [.imageRead, .catalogueList, .rasterData]) (p : List Byte) (act : State) :
    s.checked tag [(lengthGood c p, .badValue)] act = act := by
  have hg : lengthGood c p = true := by
    cases c with
    | imageRead => exact absurd (by decide) hc
    | catalogueList => exact absurd (by decide) hc
    | rasterData => exact absurd (by decide) hc
    | _ => rfl
  rw [hg, checked_cons, if_pos rfl, checked_nil]

/-- Each of these is a taking, that check, the handle, and a part of its own. -/
theorem exec_sessionRequest (tag : Byte)
    (hc : c ∈ [.sessionClose, .sessionResume, .sessionQuery, .orderOpen, .gateOpen, .gateClose, .imageRead, .catalogueList]) :
    ∃ act : List Byte → State → SessionHandle → State, ∀ s, exec (c.instr tag) s = .next (s.take c tag (fun t p =>
      t.checked tag [(lengthGood c p, .badValue)] (t.withSession c tag p 0 (act p)))) := by
  simp only [List.mem_cons, List.not_mem_nil, or_false] at hc
  rcases hc with rfl | rfl | rfl | rfl | rfl | rfl | rfl | rfl
  iterate 6
    simp (disch := decide) only [checked_lengthGood]
    exact ⟨_, fun _ => rfl⟩
  · exact ⟨_, fun _ => rfl⟩
  · exact ⟨_, fun _ => rfl⟩

variable {act : State → SessionHandle → State}

theorem withSession_badValue (h : s.Offers c tag p) {k : Nat} (hr : 8 ≤ byteAt p k) :
    (s.holds tag).withSession c tag p k act = s.answerNo tag c .badValue := by
  have he : (s.holds tag).sessionAt p k = .error .badValue := by
    unfold State.sessionAt
    rw [fin?_eq_none hr]
  unfold State.withSession
  rw [he]
  exact h.refuse _

theorem withSession_stale (h : s.Offers c tag p) {k : Nat} {x : SessionHandle} (hr : byteAt p k = x.record.val)
    (hg : p.getD (k + 1) 0 = x.gen) (hx : s.current x = false) :
    (s.holds tag).withSession c tag p k act = s.answerNo tag c .staleHandle := by
  have hc : (s.holds tag).current x = false := hx
  unfold State.withSession
  rw [sessionAt_of_handle hr hg, hc]
  exact h.refuse _

theorem withSession_refused (h : s.Offers c tag p) {k : Nat} {x : SessionHandle} (hr : byteAt p k = x.record.val)
    (hg : p.getD (k + 1) 0 = x.gen) (hx : s.current x = true) {e : Status}
    (he : sessionRefusal c (s.record x.record).state = some e) :
    (s.holds tag).withSession c tag p k act = (s.touch x.record).answerNo tag c e := by
  have hc : (s.holds tag).current x = true := hx
  have hs : (((s.holds tag).touch x.record).record x.record).state = (s.record x.record).state := touch_state _ _ _
  unfold State.withSession
  rw [sessionAt_of_handle hr hg, hc]
  simp only [if_true, hs, he]
  exact h.refuseTouched _ _

/-! ### R23 -/

theorem sessionRefusal_suspended (hc : c.inSuspended = false) : sessionRefusal c .suspended = some .suspended := by
  unfold sessionRefusal
  rw [hc]
  rfl

theorem sessionRefusal_later (hc : c.inLater = false) {x : SessionState} (hx : x ∈ [.closing, .draining, .settling]) :
    sessionRefusal c x = some .badState := by
  simp only [List.mem_cons, List.not_mem_nil, or_false] at hx
  unfold sessionRefusal
  rcases hx with rfl | rfl | rfl <;> simp [hc]

end Sys2Proof.Machine

/-! Requests that name an order, and the statement about handles. -/

namespace Sys2Proof.Machine

variable {s : State} {c : RequestCode} {tag : Byte} {p : List Byte}

/-- The two order requests that only read: no order closed over stands before their handle check. -/
def orderQueries : List RequestCode := [.orderQuery, .rasterQuery]

/-- The order requests whose session's state is checked behind the handle. -/
def orderEdits : List RequestCode :=
  [.lineAdd, .lineChange, .lineRemove, .orderQuote, .orderCommit, .rasterOpen, .rasterAbort, .rasterData]

/-- A request on an order that is no edit is a cancel or a query. -/
theorem mem_orderEdits : c ∈ [.lineAdd, .lineChange, .lineRemove, .orderQuote, .orderCommit, .orderCancel, .orderQuery,
    .rasterOpen, .rasterData, .rasterAbort, .rasterQuery] → c ∉ [.orderCancel, .orderQuery, .rasterQuery] →
    c ∈ orderEdits := by
  cases c <;> decide

/-- R23 turns an edit away from a session that is not ACTIVE. -/
theorem refused_of_mem_orderEdits : c ∈ orderEdits → c ∉ orderQueries ∧ c.inSuspended = false ∧ c.inLater = false := by
  cases c <;> decide

/-- A request that names an order, by its code: a query meets the handle check at once. -/
def State.namesOrder (s : State) (c : RequestCode) (tag : Byte) (p : List Byte)
    (act : State → OrderHandle → Order → State) : State :=
  if c ∈ orderQueries then s.withAnyOrder tag p 0 act else s.unlessClosed tag p 0 (s.withAnyOrder tag p 0 act)

theorem namesOrder_query (s : State) (hc : c ∈ orderQueries) (act : State → OrderHandle → Order → State) :
    s.namesOrder c tag p act = s.withAnyOrder tag p 0 act := if_pos hc

theorem namesOrder_other (s : State) (hc : c ∉ orderQueries) (act : State → OrderHandle → Order → State) :
    s.namesOrder c tag p act = s.unlessClosed tag p 0 (s.withAnyOrder tag p 0 act) := if_neg hc

/-- What stands behind the handle where the session's state is checked. -/
def behindSession (c : RequestCode) (tag : Byte) (act : State → OrderHandle → Order → State) :
    State → OrderHandle → Order → State := fun t h o =>
  match sessionRefusal c (t.record o.session.record).state with
  | some e => t.refuse tag e
  | none => act t h o

theorem withOrder_eq (s : State) (hc : c ∉ orderQueries) (act : State → OrderHandle → Order → State) :
    s.withOrder c tag p 0 act = s.namesOrder c tag p (behindSession c tag act) :=
  (namesOrder_other s hc (behindSession c tag act)).symm

/-- Each request on an order whose session's state is checked is a taking, the check of its length, the handle, R23 and a part
of its own. -/
theorem exec_editRequest (tag : Byte)
    (hc : c ∈ orderEdits) :
    ∃ act : List Byte → State → OrderHandle → Order → State, ∀ s, exec (c.instr tag) s = .next (s.take c tag (fun t p =>
      t.checked tag [(lengthGood c p, .badValue)] (t.namesOrder c tag p (behindSession c tag (act p))))) := by
  have eq : ∃ act : List Byte → State → OrderHandle → Order → State, ∀ s, exec (c.instr tag) s =
      .next (s.take c tag (fun t p => t.checked tag [(lengthGood c p, .badValue)] (t.withOrder c tag p 0 (act p)))) := by
    simp only [orderEdits, List.mem_cons, List.not_mem_nil, or_false] at hc
    rcases hc with rfl | rfl | rfl | rfl | rfl | rfl | rfl | rfl
    iterate 7
      simp (disch := decide) only [checked_lengthGood]
      exact ⟨_, fun _ => rfl⟩
    · exact ⟨_, fun _ => rfl⟩
  obtain ⟨act, hact⟩ := eq
  refine ⟨act, fun s => (hact s).trans ?_⟩
  simp only [withOrder_eq _ (refused_of_mem_orderEdits hc).1]

/-- Each request on an order is a taking, the check of its length, the handle, and a part of its own. -/
theorem exec_orderRequest (tag : Byte)
    (hc : c ∈ [.lineAdd, .lineChange, .lineRemove, .orderQuote, .orderCommit, .orderCancel, .orderQuery, .rasterOpen,
      .rasterData, .rasterAbort, .rasterQuery]) :
    ∃ act : List Byte → State → OrderHandle → Order → State, ∀ s, exec (c.instr tag) s = .next (s.take c tag (fun t p =>
      t.checked tag [(lengthGood c p, .badValue)] (t.namesOrder c tag p (act p)))) := by
  by_cases he : c ∈ orderEdits
  · obtain ⟨act, hact⟩ := exec_editRequest tag he
    exact ⟨fun p => behindSession c tag (act p), hact⟩
  · have hr : c ∈ [.orderCancel, .orderQuery, .rasterQuery] := by
      by_contra hn
      exact he (mem_orderEdits hc hn)
    simp only [List.mem_cons, List.not_mem_nil, or_false] at hr
    rcases hr with rfl | rfl | rfl
    · simp (disch := decide) only [checked_lengthGood, namesOrder_other]
      exact ⟨_, fun _ => rfl⟩
    iterate 2
      simp (disch := decide) only [checked_lengthGood, namesOrder_query]
      exact ⟨_, fun _ => rfl⟩

variable {act : State → OrderHandle → Order → State}

theorem withAnyOrder_refused (h : s.Offers c tag p) {e : Status} (he : s.orderAt p 0 = .error e) :
    (s.holds tag).withAnyOrder tag p 0 act = s.answerNo tag c e := by
  have hh : (s.holds tag).orderAt p 0 = .error e := he
  unfold State.withAnyOrder
  rw [hh]
  exact h.refuse e

/-- The order of a handle that names none is not asked for (R13). -/
theorem unlessClosed_eq (s : State) (tag : Byte) (p : List Byte) {x : Option OrderHandle} (hx : orderHandleAt p 0 = x)
    (hc : x.any s.closedOver = false) (act : State) : s.unlessClosed tag p 0 act = act := by
  unfold State.unlessClosed
  rw [hx, hc]
  rfl

theorem namesOrder_badValue (h : s.Offers c tag p) (hr : 16 ≤ byteAt p 0) :
    (s.holds tag).namesOrder c tag p act = s.answerNo tag c .badValue := by
  have hn : orderHandleAt p 0 = none := by
    unfold orderHandleAt
    rw [fin?_eq_none hr]
    rfl
  have he : s.orderAt p 0 = .error .badValue := by
    unfold State.orderAt
    rw [fin?_eq_none hr]
  unfold State.namesOrder
  rw [unlessClosed_eq _ _ _ hn rfl, withAnyOrder_refused h he, ite_self]

theorem namesOrder_stale (h : s.Offers c tag p) {x : OrderHandle} (hr : byteAt p 0 = x.record.val)
    (hg : p.getD 1 0 = x.gen) (hx : s.order? x = none) (hc : s.closedOver x = false ∨ c ∈ orderQueries) :
    (s.holds tag).namesOrder c tag p act = s.answerNo tag c .staleHandle := by
  have stale := withAnyOrder_refused (act := act) h (orderAt_of_none hr hg hx)
  unfold State.namesOrder
  split_ifs with hq
  · exact stale
  · have hn : (some x).any (s.holds tag).closedOver = false := hc.resolve_right hq
    rw [unlessClosed_eq _ _ _ (orderHandleAt_of_handle hr hg) hn, stale]

theorem namesOrder_closedOver (h : s.Offers c tag p) {x : OrderHandle} (hr : byteAt p 0 = x.record.val)
    (hg : p.getD 1 0 = x.gen) (hx : s.closedOver x = true) (hc : c ∉ orderQueries) :
    (s.holds tag).namesOrder c tag p act = s.answerNo tag c .badState := by
  have hn : (some x).any (s.holds tag).closedOver = true := hx
  unfold State.namesOrder State.unlessClosed
  rw [if_neg hc, orderHandleAt_of_handle hr hg, if_pos hn]
  exact h.refuse _

theorem namesOrder_of_order {x : OrderHandle} {o : Order} (hr : byteAt p 0 = x.record.val)
    (hg : p.getD 1 0 = x.gen) (hx : s.order? x = some o) :
    (s.holds tag).namesOrder c tag p act = act ((s.holds tag).touchHandle o.session) x o := by
  have hn : (some x).any (s.holds tag).closedOver = false := closedOver_of_order (s := s.holds tag) hx
  have ha : (s.holds tag).withAnyOrder tag p 0 act = act ((s.holds tag).touchHandle o.session) x o := by
    have hh : (s.holds tag).orderAt p 0 = .ok (x, o) := orderAt_of_order hr hg hx
    unfold State.withAnyOrder
    rw [hh]
  unfold State.namesOrder
  rw [unlessClosed_eq _ _ _ (orderHandleAt_of_handle hr hg) hn, ha, ite_self]

theorem namesOrder_sessionRefused (h : s.Offers c tag p) {x : OrderHandle} {o : Order} (hr : byteAt p 0 = x.record.val)
    (hg : p.getD 1 0 = x.gen) (hx : s.order? x = some o) {e : Status}
    (he : sessionRefusal c (s.record o.session.record).state = some e) :
    (s.holds tag).namesOrder c tag p (behindSession c tag act) = (s.touchHandle o.session).answerNo tag c e := by
  have hs : (((s.holds tag).touchHandle o.session).record o.session.record).state = (s.record o.session.record).state :=
    touchHandle_state _ _ _
  rw [namesOrder_of_order hr hg hx]
  unfold behindSession
  simp only [hs, he]
  exact h.refuseTouchedHandle _ _

/-! ### The statement -/

/-- R23 turns these away from a SUSPENDED session, and all but the query from one in CLOSING, DRAINING or SETTLING. -/
theorem inSuspended_of_mem : c ∈ [.orderOpen, .gateOpen, .gateClose, .imageRead] → c.inSuspended = false := by
  cases c <;> decide

theorem inLater_of_mem : c ∈ [.sessionClose, .sessionResume, .sessionQuery, .orderOpen, .gateOpen, .gateClose, .imageRead,
    .catalogueList] → c ≠ .sessionQuery → c.inLater = false := by
  cases c <;> decide

theorem checked_holds_badValue (h : s.Offers c tag p) {b : Bool} {act : State}
    (hb : b = true → act = s.answerNo tag c .badValue) :
    (s.holds tag).checked tag [(b, .badValue)] act = s.answerNo tag c .badValue := by
  cases b with
  | false => exact h.refuse _
  | true => exact hb rfl

/-- A request that names a session, up to its own part (R13, R23). -/
theorem sessionHandle_checked
    (hc : c ∈ [.sessionClose, .sessionResume, .sessionQuery, .orderOpen, .gateOpen, .gateClose, .imageRead, .catalogueList])
    (ho : s.Offers c tag p) :
    (lengthGood c p = false → exec (c.instr tag) s = .next (s.answerNo tag c .badValue)) ∧
    (8 ≤ byteAt p 0 → exec (c.instr tag) s = .next (s.answerNo tag c .badValue)) ∧
    (∀ h : SessionHandle, lengthGood c p = true → byteAt p 0 = h.record.val → p.getD 1 0 = h.gen →
      (s.current h = false → exec (c.instr tag) s = .next (s.answerNo tag c .staleHandle)) ∧
      (s.current h = true → ∀ e, sessionRefusal c (s.record h.record).state = some e →
        exec (c.instr tag) s = .next ((s.touch h.record).answerNo tag c e))) := by
  obtain ⟨act, hact⟩ := exec_sessionRequest tag hc
  rw [hact, ho.take]
  refine ⟨fun he => ?_, fun hr => ?_, fun h hg hr hp => ⟨fun hx => ?_, fun hx e he => ?_⟩⟩
  · exact congrArg _ (checked_holds_badValue ho (fun hg => absurd (he.symm.trans hg) (by decide)))
  · exact congrArg _ (checked_holds_badValue ho (fun _ => withSession_badValue ho hr))
  · rw [hg, checked_cons, if_pos rfl, checked_nil, withSession_stale ho hr hp hx]
  · rw [hg, checked_cons, if_pos rfl, checked_nil, withSession_refused ho hr hp hx he]

/-- A request that names an order, up to its own part (R13, R23, R72). -/
theorem orderHandle_checked
    (hc : c ∈ [.lineAdd, .lineChange, .lineRemove, .orderQuote, .orderCommit, .orderCancel, .orderQuery, .rasterOpen,
      .rasterData, .rasterAbort, .rasterQuery]) (ho : s.Offers c tag p) :
    (lengthGood c p = false → exec (c.instr tag) s = .next (s.answerNo tag c .badValue)) ∧
    (16 ≤ byteAt p 0 → exec (c.instr tag) s = .next (s.answerNo tag c .badValue)) ∧
    (∀ h : OrderHandle, lengthGood c p = true → byteAt p 0 = h.record.val → p.getD 1 0 = h.gen →
      (s.order? h = none → s.closedOver h = false ∨ c ∈ orderQueries →
        exec (c.instr tag) s = .next (s.answerNo tag c .staleHandle)) ∧
      (s.closedOver h = true → c ∉ orderQueries → exec (c.instr tag) s = .next (s.answerNo tag c .badState))) := by
  obtain ⟨act, hact⟩ := exec_orderRequest tag hc
  rw [hact, ho.take]
  refine ⟨fun he => ?_, fun hr => ?_, fun h hg hr hp => ⟨fun hx hq => ?_, fun hx hq => ?_⟩⟩
  · exact congrArg _ (checked_holds_badValue ho (fun hg => absurd (he.symm.trans hg) (by decide)))
  · exact congrArg _ (checked_holds_badValue ho (fun _ => namesOrder_badValue ho hr))
  · rw [hg, checked_cons, if_pos rfl, checked_nil, namesOrder_stale ho hr hp hx hq]
  · rw [hg, checked_cons, if_pos rfl, checked_nil, namesOrder_closedOver ho hr hp hx hq]

/-- An order in use, its session in a state that refuses the request (R23). -/
theorem orderSession_checked
    (hc : c ∈ orderEdits)
    (ho : s.Offers c tag p) {h : OrderHandle} (hg : lengthGood c p = true) (hr : byteAt p 0 = h.record.val)
    (hp : p.getD 1 0 = h.gen) {o : Order} (hx : s.order? h = some o) {e : Status}
    (he : sessionRefusal c (s.record o.session.record).state = some e) :
    exec (c.instr tag) s = .next ((s.touchHandle o.session).answerNo tag c e) := by
  obtain ⟨act, hact⟩ := exec_editRequest tag hc
  rw [hact, ho.take, hg, checked_cons, if_pos rfl, checked_nil, namesOrder_sessionRefused ho hr hp hx he]

/-- The length check of a request that names a session, as the statement gives it. -/
theorem lengthGood_iff (c : RequestCode) (p : List Byte) : lengthGood c p = true ↔
    ¬ ((c = .imageRead ∧ ¬ (1 ≤ num2At p 9 ∧ num2At p 9 ≤ 4000)) ∨
      (c = .catalogueList ∧ ¬ (1 ≤ byteAt p 4 ∧ byteAt p 4 ≤ 32)) ∨ (c = .rasterData ∧ 4088 < (p.drop 7).length)) := by
  cases c <;> simp [lengthGood]

/-- Settles O15: by the two lemmas on the checks before an owner's own part, and R23's table for the states. -/
theorem handlesAreCheckedFirst : Obligations.HandlesAreCheckedFirst := by
  unfold Obligations.HandlesAreCheckedFirst
  refine ⟨touch_eq, fun s h => ?_, current_iff, closedOver_iff, fun c s tag p hc ho => ?_, fun c s tag p hc ho => ?_⟩
  · unfold State.touchHandle
    rw [touch_eq]
  · have raster : c ≠ .rasterData := by
      rintro rfl
      exact absurd hc (by decide)
    have good := lengthGood_iff c p
    simp only [raster, false_and, or_false] at good
    obtain ⟨hlength, hrecord, hhandle⟩ := sessionHandle_checked hc ho
    refine ⟨fun he => hlength (Bool.eq_false_iff.2 (fun hg => good.1 hg he)), hrecord, fun h he hr hp => ?_⟩
    obtain ⟨hstale, hstate⟩ := hhandle h (good.2 he) hr hp
    refine ⟨hstale, fun hx hs hm => hstate hx _ (hs ▸ sessionRefusal_suspended (inSuspended_of_mem hm)),
      fun hx hs hq => hstate hx _ (sessionRefusal_later (inLater_of_mem hc hq) hs)⟩
  · have read : c ≠ .imageRead ∧ c ≠ .catalogueList := by
      constructor <;> (rintro rfl; exact absurd hc (by decide))
    have good := lengthGood_iff c p
    simp only [read.1, read.2, false_and, false_or] at good
    obtain ⟨hlength, hrecord, hhandle⟩ := orderHandle_checked hc ho
    refine ⟨fun he => hlength (Bool.eq_false_iff.2 (fun hg => good.1 hg he)), hrecord, fun h he hr hp => ?_⟩
    obtain ⟨hstale, hclosed⟩ := hhandle h (good.2 he) hr hp
    refine ⟨hstale, hclosed, fun o hx hm => ?_⟩
    have edit := mem_orderEdits hc hm
    obtain ⟨-, suspended, later⟩ := refused_of_mem_orderEdits edit
    have refused := fun e => orderSession_checked (e := e) edit ho (good.2 he) hr hp hx
    exact ⟨fun hs => refused _ (hs ▸ sessionRefusal_suspended suspended), fun hs => refused _ (sessionRefusal_later later hs)⟩

end Sys2Proof.Machine

/-! The command link: notices, replies, and the byte that leaves as one arrives. -/

namespace Sys2Proof.Machine

/-! ### Notices and replies -/

theorem free_pos_iff (l : Link) : 0 < l.free ↔ l.queue.length + l.table.length < 48 := by
  show 0 < 48 - (l.queue.length + l.table.length) ↔ _
  omega

theorem notify_eq (s : State) (code : Byte) (payload : List Byte) :
    s.notify code payload =
      if s.link.queue.length + s.link.table.length < 48 ∧ s.link.queue.countP (fun f => f.kind = .notice) < 40 then
        { s with link := { s.link with
          queue := s.link.queue ++ [{ kind := .notice, tag := 0, code := code, payload := payload }] } }
      else { s with link := { s.link with dropped := true } } := by
  have room : (0 < s.link.free ∧ s.link.notices < Config.maxNotices) ↔
      s.link.queue.length + s.link.table.length < 48 ∧ s.link.queue.countP (fun f => f.kind = .notice) < 40 :=
    and_congr (free_pos_iff s.link) Iff.rfl
  unfold State.notify Link.notice
  by_cases h : s.link.queue.length + s.link.table.length < 48 ∧ s.link.queue.countP (fun f => f.kind = .notice) < 40
  · rw [if_pos (room.2 h), if_pos h]
    rfl
  · rw [if_neg (fun hr => h (room.1 hr)), if_neg h]
    rfl

/-- Under distinct tags an entry is the one found under its tag. -/
theorem find_tag {es : List Entry} {e : Entry} (hd : (es.map (fun e => e.tag)).Nodup) (he : e ∈ es) :
    es.find? (fun x => x.tag = e.tag) = some e := by
  have hs : (es.find? (fun x => x.tag = e.tag)).isSome := by
    rw [List.find?_isSome]
    exact ⟨e, he, by simp⟩
  obtain ⟨y, hy⟩ := Option.isSome_iff_exists.1 hs
  have ht : y.tag = e.tag := by simpa using List.find?_some hy
  rw [hy, List.inj_on_of_nodup_map hd (List.mem_of_find?_eq_some hy) he ht]

theorem replyWith_of_mem {s : State} {e : Entry} (hd : (s.link.table.map (fun e => e.tag)).Nodup) (he : e ∈ s.link.table)
    (x : Status) (fields : List Byte) :
    s.replyWith e.tag x fields = { s with link := { s.link with
      table := s.link.table.filter (fun y => y.tag ≠ e.tag)
      queue := s.link.queue ++ [{ kind := .reply, tag := e.tag, code := e.code.byte, payload := x.code :: fields }] } } := by
  unfold State.replyWith Link.reply
  rw [find_tag hd he]
  rfl

theorem replyWith_of_none {s : State} {tag : Byte} (h : ∀ e ∈ s.link.table, e.tag ≠ tag) (x : Status) (fields : List Byte) :
    s.replyWith tag x fields = s := by
  have hn : s.link.table.find? (fun e => e.tag = tag) = none := by
    rw [List.find?_eq_none]
    exact fun e he => by simpa using h e he
  unfold State.replyWith Link.reply
  rw [hn]
  rfl

theorem txrdy_iff (s : State) : s.txrdy = true ↔ s.link.queue ≠ [] := by
  unfold State.txrdy
  rw [Bool.not_eq_true', List.isEmpty_eq_false_iff]

/-! ### The part's own byte (R10) -/

theorem output_of_nil {l : Link} (h : l.queue = []) : l.output = 0 ∧ l.outputSent = l := by
  unfold Link.output Link.outputSent
  rw [h]
  exact ⟨rfl, rfl⟩

theorem output_of_cons {l : Link} {own : Byte} {f : Frame} {rest : List Frame} (hq : l.queue = f :: rest)
    (ho : f.bytes[l.sending]? = some own) :
    l.output = own ∧ l.outputSent = if l.sending + 1 = f.bytes.length then { l with queue := rest, sending := 0 }
      else { l with sending := l.sending + 1 } := by
  obtain ⟨hl, -⟩ := List.getElem?_eq_some_iff.1 ho
  unfold Link.output Link.outputSent
  rw [hq]
  refine ⟨?_, ?_⟩
  · simp only [List.getD_eq_getElem?_getD, ho, Option.getD_some]
  · dsimp only
    by_cases he : l.sending + 1 = f.bytes.length
    · rw [if_pos he, if_neg (by omega)]
    · rw [if_neg he, if_pos (by omega)]

theorem frameReceived_of_nil {s : State} (b : Byte) (h : s.link.queue = []) :
    exec (.frameReceived [b]) s = .next { examinedAgain s [b] with sent := s.sent ++ [.host 0] } := by
  obtain ⟨ho, hl⟩ := output_of_nil h
  show Host.Outcome.next (s.clockByte b) = _
  unfold State.clockByte
  rw [ho, hl]
  rfl

theorem frameReceived_of_cons {s : State} (b : Byte) {own : Byte} {f : Frame} {rest : List Frame}
    (hq : s.link.queue = f :: rest) (ho : f.bytes[s.link.sending]? = some own) :
    exec (.frameReceived [b]) s = .next (
      let link := if s.link.sending + 1 = f.bytes.length then { s.link with queue := rest, sending := 0 }
        else { s.link with sending := s.link.sending + 1 };
      { examinedAgain { s with link := link } [b] with sent := s.sent ++ [.host own] }) := by
  obtain ⟨ho, hl⟩ := output_of_cons hq ho
  show Host.Outcome.next (s.clockByte b) = _
  unfold State.clockByte
  rw [ho, hl]
  rfl

theorem frameSent_of_nil {s : State} (h : s.link.queue = []) : exec .frameSent s = .next s := by
  show execFrameSent s = _
  unfold execFrameSent
  rw [h]

theorem frameSent_of_cons {s : State} {f : Frame} {rest : List Frame} (h : s.link.queue = f :: rest) :
    exec .frameSent s = .next { s with
      link := { s.link with queue := rest, sending := 0 }, sent := s.sent ++ (f.bytes.drop s.link.sending).map .host } := by
  show execFrameSent s = _
  unfold execFrameSent
  rw [h]
  rfl

/-- Settles O12, clause by clause. -/
theorem noticesAndRepliesLeaveInOrder : Obligations.NoticesAndRepliesLeaveInOrder := by
  unfold Obligations.NoticesAndRepliesLeaveInOrder
  exact ⟨notify_eq, fun s e x fields hd he => replyWith_of_mem hd he x fields,
    fun s tag x fields h => replyWith_of_none h x fields, txrdy_iff, fun s b h => frameReceived_of_nil b h,
    fun s b own f rest hq ho => frameReceived_of_cons b hq ho, fun s h => frameSent_of_nil h,
    fun s f rest h => frameSent_of_cons h⟩

end Sys2Proof.Machine

/-! The receiver: held bytes examined to the end, and byte by byte to the same end. -/

namespace Sys2Proof.Machine

variable {standby : Bool} {l : Link} {d h : List Byte} {b : Byte}

/-! ### Examination to the end -/

/-- The held bytes examined until nothing more is decided. -/
def Link.examined (standby : Bool) (l : Link) : Link := Link.examine standby (l.held.length + 1) l

/-- The part of the held bytes that starts with a SYNC. -/
def fromSync (h : List Byte) : List Byte := h.dropWhile (fun b => b ≠ Config.sync)

theorem fromSync_length_le (h : List Byte) : (fromSync h).length ≤ h.length := (List.dropWhile_sublist _).length_le

/-- The arrival of a request neither reads nor moves the receiver's own fields. -/
theorem arrive_receiver (l : Link) (held : List Byte) (last : Nat) (standby : Bool) (tag code : Byte)
    (payload : List Byte) :
    Link.arrive { l with held := held, lastByte := last } standby tag code payload =
      { l.arrive standby tag code payload with held := held, lastByte := last } := by
  unfold Link.arrive
  change (if l.free = 0 then _ else if l.table.any (fun e => e.tag = tag) then _
    else if Config.tableSize ≤ l.table.length then _ else _) = _
  split_ifs
  · rfl
  · rfl
  · rfl
  · split
    · rfl
    · split_ifs <;> rfl

@[simp] theorem arrive_held (l : Link) (standby : Bool) (tag code : Byte) (payload : List Byte) :
    (l.arrive standby tag code payload).held = l.held := by
  have h := arrive_receiver l l.held l.lastByte standby tag code payload
  have same := congrArg Link.held h
  exact same

@[simp] theorem arrive_lastByte (l : Link) (standby : Bool) (tag code : Byte) (payload : List Byte) :
    (l.arrive standby tag code payload).lastByte = l.lastByte := by
  have h := arrive_receiver l l.held l.lastByte standby tag code payload
  have same := congrArg Link.lastByte h
  exact same

/-- More fuel than held bytes gives no other end: each frame decided takes at least its SYNC. -/
theorem examine_fuel (f g : Nat) (l : Link) (hf : l.held.length < f) (hg : l.held.length < g) :
    Link.examine standby f l = Link.examine standby g l := by
  induction f generalizing g l with
  | zero => omega
  | succ f ih =>
    obtain ⟨g, rfl⟩ : ∃ k, g = k + 1 := ⟨g - 1, by omega⟩
    have hd := fromSync_length_le l.held
    unfold fromSync at hd
    simp only [Link.examine]
    split_ifs with h6 hm hl hc ht
    · rfl
    · refine ih g _ ?_ ?_ <;> (simp only [List.length_drop]; omega)
    · rfl
    · refine ih g _ ?_ ?_ <;> (simp only [List.length_drop]; omega)
    · refine ih g _ ?_ ?_ <;> (simp only [List.length_drop]; omega)
    · refine ih g _ ?_ ?_ <;> (simp only [arrive_held, List.length_drop]; omega)

/-- One decision: what the first bytes from a SYNC on are found to be (R2, R3, R4). -/
theorem examined_eq (standby : Bool) (l : Link) :
    l.examined standby =
      let d := fromSync l.held
      let n := num2At d 4
      if d.length < 6 then { l with held := d }
      else if Config.maxLength < n then Link.examined standby { l.countError with held := d.drop 1 }
      else if d.length < n + 8 then { l with held := d }
      else if crcBytes ((d.drop 1).take (n + 5)) ≠ (d.drop (n + 6)).take 2 then
        Link.examined standby { l.countError with held := d.drop 1 }
      else if d.getD 1 0 ≠ FrameType.request.code then Link.examined standby { l.countError with held := d.drop (n + 8) }
      else Link.examined standby
        (Link.arrive { l with held := d.drop (n + 8) } standby (d.getD 2 0) (d.getD 3 0) (((d.drop 1).take (n + 5)).drop 5)) := by
  have hd := fromSync_length_le l.held
  unfold Link.examined
  rw [Link.examine]
  unfold fromSync at hd ⊢
  dsimp only
  split_ifs with h6 hm hl hc ht
  · rfl
  · refine examine_fuel _ _ _ ?_ ?_ <;> (simp only [List.length_drop]; omega)
  · rfl
  · refine examine_fuel _ _ _ ?_ ?_ <;> (simp only [List.length_drop]; omega)
  · refine examine_fuel _ _ _ ?_ ?_ <;> (simp only [List.length_drop]; omega)
  · refine examine_fuel _ _ _ ?_ ?_ <;> (simp only [arrive_held, List.length_drop]; omega)

end Sys2Proof.Machine

/-! Bytes examined as they arrive come to the same end as the same bytes examined at once. -/

namespace Sys2Proof.Machine

variable {standby : Bool} {l : Link} {d : List Byte}

/-- One more byte held. -/
def Link.more (l : Link) (b : Byte) : Link := { l with held := l.held ++ [b] }

/-- Bytes in front of the first SYNC have no effect. -/
theorem examined_congr (standby : Bool) (l : Link) {h : List Byte} (hd : fromSync h = fromSync l.held) :
    ({ l with held := h } : Link).examined standby = l.examined standby := by
  rw [examined_eq, examined_eq standby l]
  simp only [hd]
  rfl

theorem fromSync_fromSync_append (h : List Byte) (b : Byte) : fromSync (fromSync h ++ [b]) = fromSync (h ++ [b]) := by
  unfold fromSync
  rw [List.dropWhile_append, List.dropWhile_append, List.dropWhile_idempotent]

theorem fromSync_append {h : List Byte} (hd : 6 ≤ (fromSync h).length) (b : Byte) :
    fromSync (h ++ [b]) = fromSync h ++ [b] := by
  unfold fromSync at hd ⊢
  rw [List.dropWhile_append, if_neg]
  rw [List.isEmpty_iff]
  intro he
  rw [he] at hd
  simp at hd

theorem getD_append_of_lt (b : Byte) {k : Nat} (hk : k < d.length) : (d ++ [b]).getD k 0 = d.getD k 0 :=
  List.getD_append d [b] 0 k hk

theorem num2At_append_of_lt (b : Byte) {k : Nat} (hk : k + 1 < d.length) : num2At (d ++ [b]) k = num2At d k := by
  unfold num2At byteAt
  rw [getD_append_of_lt b hk, getD_append_of_lt b (by omega)]

/-- A frame already decided is decided the same with one more byte behind it, which is then left with the rest. -/
theorem examined_more (standby : Bool) (b : Byte) (l : Link) :
    ((l.examined standby).more b).examined standby = (l.more b).examined standby := by
  induction hn : l.held.length using Nat.strongRecOn generalizing l with
  | ind n ih =>
    subst hn
    have hle := fromSync_length_le l.held
    have again (m : Link) (hm : m.held.length < l.held.length) :
        ((m.examined standby).more b).examined standby = (m.more b).examined standby := ih _ hm m rfl
    have waits : (Link.more { l with held := fromSync l.held } b).examined standby = (l.more b).examined standby :=
      examined_congr standby (l.more b) (fromSync_fromSync_append l.held b)
    by_cases h6 : (fromSync l.held).length < 6
    · rw [examined_eq standby l]
      simp only [h6, if_true]
      exact waits
    have hD : fromSync (l.more b).held = fromSync l.held ++ [b] := fromSync_append (by omega) b
    rw [examined_eq standby l, examined_eq standby (l.more b), hD]
    generalize fromSync l.held = d at *
    have hN : num2At (d ++ [b]) 4 = num2At d 4 := num2At_append_of_lt b (by omega)
    have h6' : ¬ (d ++ [b]).length < 6 := by simp; omega
    have hdrop (k : Nat) (hk : k ≤ d.length) : (d ++ [b]).drop k = d.drop k ++ [b] := List.drop_append_of_le_length hk
    dsimp only
    rw [if_neg h6, if_neg h6', hN]
    by_cases hm : Config.maxLength < num2At d 4
    · rw [if_pos hm, if_pos hm, hdrop 1 (by omega)]
      exact again { l.countError with held := d.drop 1 } (by simp only [List.length_drop]; omega)
    rw [if_neg hm, if_neg hm]
    by_cases hl : d.length < num2At d 4 + 8
    · rw [if_pos hl, waits, examined_eq standby (l.more b), hD]
      dsimp only
      rw [if_neg h6', hN, if_neg hm]
    have hl' : ¬ (d ++ [b]).length < num2At d 4 + 8 := by simp; omega
    have hbody : ((d ++ [b]).drop 1).take (num2At d 4 + 5) = (d.drop 1).take (num2At d 4 + 5) := by
      rw [hdrop 1 (by omega), List.take_append_of_le_length (by simp only [List.length_drop]; omega)]
    have hcrc : ((d ++ [b]).drop (num2At d 4 + 6)).take 2 = (d.drop (num2At d 4 + 6)).take 2 := by
      rw [hdrop _ (by omega), List.take_append_of_le_length (by simp only [List.length_drop]; omega)]
    rw [if_neg hl, if_neg hl', hbody, hcrc, hdrop 1 (by omega), hdrop (num2At d 4 + 8) (by omega),
      getD_append_of_lt b (k := 1) (by omega), getD_append_of_lt b (k := 2) (by omega), getD_append_of_lt b (k := 3) (by omega)]
    by_cases hc : crcBytes ((d.drop 1).take (num2At d 4 + 5)) ≠ (d.drop (num2At d 4 + 6)).take 2
    · rw [if_pos hc, if_pos hc]
      exact again { l.countError with held := d.drop 1 } (by simp only [List.length_drop]; omega)
    rw [if_neg hc, if_neg hc]
    by_cases ht : d.getD 1 0 ≠ FrameType.request.code
    · rw [if_pos ht, if_pos ht]
      exact again { l.countError with held := d.drop (num2At d 4 + 8) } (by simp only [List.length_drop]; omega)
    rw [if_neg ht, if_neg ht, again _ (by simp only [arrive_held, List.length_drop]; omega)]
    rw [arrive_receiver l (d.drop (num2At d 4 + 8)) l.lastByte]
    exact congrArg _ (arrive_receiver l (d.drop (num2At d 4 + 8) ++ [b]) l.lastByte _ _ _ _).symm

end Sys2Proof.Machine

/-! Clocking: each byte of the host's takes one of the part's, and a frame is decided at its last byte. -/

namespace Sys2Proof.Machine

variable {standby : Bool} {l : Link} {s : State}

/-! ### Bytes received one by one -/

theorem examined_nil (standby : Bool) {l : Link} (h : l.held = []) : l.examined standby = l := by
  rw [examined_eq, h]
  simp only [fromSync, List.dropWhile_nil, List.length_nil, Nat.zero_lt_succ, if_true]
  rw [← h]

theorem examined_lastByte (standby : Bool) (l : Link) : (l.examined standby).lastByte = l.lastByte := by
  induction hn : l.held.length using Nat.strongRecOn generalizing l with
  | ind n ih =>
    subst hn
    have hle := fromSync_length_le l.held
    have again (m : Link) (hm : m.held.length < l.held.length) : (m.examined standby).lastByte = m.lastByte := ih _ hm m rfl
    rw [examined_eq]
    dsimp only
    split_ifs
    · rfl
    · exact again { l.countError with held := _ } (by simp only [List.length_drop]; omega)
    · rfl
    · exact again { l.countError with held := _ } (by simp only [List.length_drop]; omega)
    · exact again { l.countError with held := _ } (by simp only [List.length_drop]; omega)
    · rw [again _ (by simp only [arrive_held, List.length_drop]; omega), arrive_lastByte]

theorem receive_eq (l : Link) (standby : Bool) (now : Nat) (b : Byte) :
    l.receive standby now b = Link.examined standby { l with held := l.held ++ [b], lastByte := now } := by
  unfold Link.receive Link.examined
  rw [List.length_append]
  rfl

/-- Bytes taken in one after another come to the end that they come to at once. -/
theorem foldl_receive (standby : Bool) (bs : List Byte) (l : Link) :
    bs.foldl (fun l b => l.receive standby l.lastByte b) (l.examined standby) =
      Link.examined standby { l with held := l.held ++ bs } := by
  induction bs generalizing l with
  | nil => rw [List.append_nil]; rfl
  | cons b rest ih =>
    have one : (l.examined standby).receive standby (l.examined standby).lastByte b = (l.more b).examined standby :=
      (receive_eq _ _ _ _).trans (examined_more standby b l)
    rw [List.foldl_cons, one, ih (l.more b)]
    simp only [Link.more, List.append_assoc, List.singleton_append]

/-- The time of the last byte is that of the byte taken in. -/
theorem receive_lastByte (l : Link) (standby : Bool) (now : Nat) (b : Byte) :
    (l.receive standby now b).lastByte = now := by
  rw [receive_eq, examined_lastByte]

theorem foldl_receive_now (standby : Bool) (now : Nat) (bs : List Byte) (l : Link) (hl : l.lastByte = now) :
    bs.foldl (fun l b => l.receive standby now b) l = bs.foldl (fun l b => l.receive standby l.lastByte b) l := by
  induction bs generalizing l with
  | nil => rfl
  | cons b rest ih =>
    rw [List.foldl_cons, List.foldl_cons, ih _ (receive_lastByte l standby now b), hl]

/-- Bytes examined again from hunting on. -/
theorem foldl_receive_hunting (standby : Bool) (now : Nat) (b : Byte) (bs : List Byte) (l : Link) (hl : l.held = []) :
    (b :: bs).foldl (fun l b => l.receive standby now b) l =
      Link.examined standby { l with held := b :: bs, lastByte := now } := by
  have first : l.receive standby now b = ({ l with lastByte := now } : Link).receive standby now b := by
    rw [receive_eq, receive_eq]
  have moved : (b :: bs).foldl (fun l b => l.receive standby now b) l =
      (b :: bs).foldl (fun l b => l.receive standby now b) { l with lastByte := now } := by
    rw [List.foldl_cons, List.foldl_cons, first]
  rw [moved, foldl_receive_now standby now (b :: bs) { l with lastByte := now } rfl]
  have start := foldl_receive standby (b :: bs) { l with lastByte := now }
  rw [examined_nil standby (l := { l with lastByte := now }) hl] at start
  refine start.trans ?_
  simp only [hl, List.nil_append]

/-! ### The part's bytes -/

/-- One byte of the part's clocked out. -/
def State.clockOne (s : State) : State := (s.setLink s.link.outputSent).send (.host s.link.output)

/-- The receiver's fields as given. -/
def State.receiving (s : State) (held : List Byte) (last : Nat) : State :=
  { s with link := { s.link with held := held, lastByte := last } }

theorem outputSent_inFrame (h : l.InFrame) : l.outputSent.InFrame := by
  unfold Link.outputSent
  split
  · exact h
  · next f rest hq =>
    split_ifs with hl
    · unfold Link.InFrame
      rw [hq]
      exact hl
    · unfold Link.InFrame
      cases rest <;> simp [Frame.bytes]

theorem take_succ_fill (xs : List Byte) (n : Nat) : (xs ++ List.replicate (n + 1) 0).take n = (xs ++ List.replicate n 0).take n := by
  rw [List.take_append, List.take_append, List.take_replicate, List.take_replicate]
  congr 2
  omega

/-- Of `n + 1` bytes clocked out the first is the part's next one. -/
theorem clockedOut_succ (h : s.link.InFrame) (n : Nat) : clockedOut s (n + 1) = clockedOut s.clockOne n := by
  unfold Link.InFrame at h
  unfold State.clockOne State.send State.setSent State.setLink Link.output Link.outputSent clockedOut
  cases hq : s.link.queue with
  | nil =>
    rw [hq] at h
    simp only at h
    simp [queueAfter, h, hq, List.replicate_succ, Config.fillByte]
  | cons f rest =>
    rw [hq] at h
    simp only at h
    have hd : (f.bytes ++ rest.flatMap Frame.bytes).drop s.link.sending =
        f.bytes.getD s.link.sending Config.fillByte :: (f.bytes ++ rest.flatMap Frame.bytes).drop (s.link.sending + 1) := by
      rw [List.drop_eq_getElem_cons (by rw [List.length_append]; omega), List.getElem_append_left h,
        List.getD_eq_getElem _ _ h]
    have bytes : (((f :: rest).flatMap Frame.bytes).drop s.link.sending ++ List.replicate (n + 1) 0).take (n + 1) =
        f.bytes.getD s.link.sending Config.fillByte ::
          ((f.bytes ++ rest.flatMap Frame.bytes).drop (s.link.sending + 1) ++ List.replicate n 0).take n := by
      rw [List.flatMap_cons, hd, List.cons_append, List.take_succ_cons, take_succ_fill]
    dsimp only
    rw [bytes]
    by_cases hl : s.link.sending + 1 < f.bytes.length
    · simp [hl, Nat.add_assoc, Nat.add_comm n 1]
    · have he : f.bytes.length = s.link.sending + 1 := by omega
      have hdrop : (f.bytes ++ rest.flatMap Frame.bytes).drop (s.link.sending + 1) = rest.flatMap Frame.bytes := by
        rw [← he, List.drop_left]
      have hq' : queueAfter (f :: rest) (s.link.sending + (n + 1)) = queueAfter rest n := by
        rw [queueAfter, if_neg (by omega)]
        congr 1
        omega
      rw [hdrop, hq']
      simp [hl]

theorem queueAfter_inFrame {l : Link} (h : l.InFrame) : queueAfter l.queue l.sending = (l.queue, l.sending) := by
  unfold Link.InFrame at h
  cases hq : l.queue with
  | nil =>
    rw [hq] at h
    exact congrArg _ h.symm
  | cons f rest =>
    rw [hq] at h
    exact if_pos h

theorem clockedOut_zero (h : s.link.InFrame) : clockedOut s 0 = s := by
  unfold clockedOut
  rw [Nat.add_zero, queueAfter_inFrame h, List.take_zero, List.map_nil, List.append_nil]

theorem clockedOut_eq_iterate (h : s.link.InFrame) (n : Nat) : clockedOut s n = State.clockOne^[n] s := by
  induction n generalizing s with
  | zero => exact clockedOut_zero h
  | succ n ih => rw [clockedOut_succ h, Function.iterate_succ_apply, ih (outputSent_inFrame h)]

/-- One more byte clocked out behind `n`. -/
theorem clockedOut_clockOne (h : s.link.InFrame) (n : Nat) : clockedOut s (n + 1) = (clockedOut s n).clockOne := by
  rw [clockedOut_eq_iterate h, clockedOut_eq_iterate h, Function.iterate_succ_apply']

theorem outputSent_receiver (l : Link) (held : List Byte) (last : Nat) :
    Link.outputSent { l with held := held, lastByte := last } = { l.outputSent with held := held, lastByte := last } := by
  obtain ⟨_, _, errors, table, queue, sending, dropped⟩ := l
  unfold Link.outputSent
  cases queue with
  | nil => rfl
  | cons f rest =>
    dsimp only
    split_ifs <;> rfl

theorem clockOne_receiving (s : State) (held : List Byte) (last : Nat) :
    (s.receiving held last).clockOne = s.clockOne.receiving held last := by
  unfold State.clockOne State.receiving
  dsimp only
  rw [outputSent_receiver]
  rfl

theorem clockByte_eq (s : State) (b : Byte) :
    s.clockByte b = s.clockOne.setLink (s.clockOne.link.receive s.power.standby s.now b) := rfl

end Sys2Proof.Machine

/-! Whole frames received from hunting on. -/

namespace Sys2Proof.Machine

variable {standby : Bool} {l : Link} {s : State}

/-! ### Bytes that decide nothing yet -/

/-- Held bytes of a frame whose deciding byte is still to come. -/
def Undecided (h : List Byte) : Prop := fromSync h = h ∧ (h.length < 6 ∨ num2At h 4 ≤ 4096 ∧ h.length < num2At h 4 + 8)

theorem examined_of_undecided (standby : Bool) {l : Link} (h : Undecided l.held) : l.examined standby = l := by
  obtain ⟨hs, hw⟩ := h
  rw [examined_eq]
  dsimp only
  rw [hs]
  rcases hw with h6 | ⟨hm, hl⟩
  · rw [if_pos h6]
  · by_cases h6 : l.held.length < 6
    · rw [if_pos h6]
    · rw [if_neg h6, if_neg (show ¬ Config.maxLength < num2At l.held 4 from Nat.not_lt.2 hm), if_pos hl]

/-- A frame's bytes up to the one that decides it wait, while the part sends its own; at that byte the frame is examined. -/
theorem receiveBytes_eq (hl : s.link.held = []) (hf : s.link.InFrame) {bs : List Byte} (hb : bs ≠ [])
    (hu : ∀ k, 0 < k → k < bs.length → Undecided (bs.take k)) :
    s.receiveBytes bs = (clockedOut s bs.length).setLink
      (Link.examined s.power.standby ((clockedOut s bs.length).receiving bs s.now).link) := by
  induction bs using List.reverseRecOn with
  | nil => exact absurd rfl hb
  | append_singleton pre b ih =>
    have last : s.receiveBytes (pre ++ [b]) = (s.receiveBytes pre).clockByte b := by
      unfold State.receiveBytes
      rw [List.foldl_append]
      rfl
    have waiting : ∃ x, s.receiveBytes pre = (clockedOut s pre.length).receiving pre x := by
      by_cases hp : pre = []
      · subst hp
        refine ⟨s.link.lastByte, ?_⟩
        have same : s.receiving [] s.link.lastByte = s := by
          rw [← hl]
          rfl
        rw [List.length_nil, clockedOut_zero hf, same]
        rfl
      · have pos : 0 < pre.length := List.length_pos_iff.2 hp
        have quiet : Undecided pre := by
          have h := hu pre.length pos (by simp)
          rwa [List.take_left] at h
        refine ⟨s.now, (ih hp (fun k h0 hk => ?_)).trans ?_⟩
        · have h := hu k h0 (by simp; omega)
          rwa [List.take_append_of_le_length (by omega)] at h
        · rw [examined_of_undecided _ quiet]
          rfl
    obtain ⟨x, hx⟩ := waiting
    rw [last, hx, clockByte_eq, clockOne_receiving, ← clockedOut_clockOne hf, receive_eq, List.length_append]
    rfl

/-! ### A frame from its SYNC to its CRC -/

/-- The bytes of a frame with the given CRC bytes. -/
def frameWith (type tag code low high : Byte) (payload crc : List Byte) : List Byte :=
  0xA5 :: type :: tag :: code :: low :: high :: (payload ++ crc)

theorem byteAt_take {bs : List Byte} {n k : Nat} (h : n < k) : byteAt (bs.take k) n = byteAt bs n := by
  unfold byteAt
  rw [List.getD_eq_getElem?_getD, List.getD_eq_getElem?_getD, List.getElem?_take_of_lt h]

theorem num2At_take {bs : List Byte} {n k : Nat} (h : n + 1 < k) : num2At (bs.take k) n = num2At bs n := by
  unfold num2At
  rw [byteAt_take h, byteAt_take (by omega)]

/-- The bytes of a frame that starts with a SYNC, up to its sixth or short of the length it names. -/
theorem undecided_take {b : Byte} {bs : List Byte} (hb : b = Config.sync) {k : Nat} (h0 : 0 < k)
    (hk : k < 6 ∨ num2At (b :: bs) 4 ≤ 4096 ∧ k < num2At (b :: bs) 4 + 8) : Undecided ((b :: bs).take k) := by
  obtain ⟨k, rfl⟩ : ∃ n, k = n + 1 := ⟨k - 1, by omega⟩
  have hle := List.length_take_le (k + 1) (b :: bs)
  refine ⟨?_, ?_⟩
  · rw [List.take_succ_cons, hb]
    unfold fromSync
    rw [List.dropWhile_cons_of_neg (by simp)]
  · by_cases h6 : k + 1 < 6
    · exact Or.inl (by omega)
    · obtain ⟨hm, hl⟩ := hk.resolve_left h6
      rw [num2At_take (by omega)]
      exact Or.inr ⟨hm, by omega⟩

variable {type tag code low high : Byte} {payload crc : List Byte}

theorem frameWith_length (hc : crc.length = 2) :
    (frameWith type tag code low high payload crc).length = payload.length + 8 := by
  simp [frameWith, hc]

theorem fromSync_frameWith :
    fromSync (frameWith type tag code low high payload crc) = frameWith type tag code low high payload crc := by
  unfold fromSync frameWith
  rw [List.dropWhile_cons_of_neg (by decide)]

/-- A whole frame is examined at its last byte. -/
theorem receive_frame (hl : s.link.held = []) (hf : s.link.InFrame) (hn : payload.length = low.toNat + 256 * high.toNat)
    (hm : payload.length ≤ 4096) (hc : crc.length = 2) :
    s.receiveBytes (frameWith type tag code low high payload crc) = (clockedOut s (payload.length + 8)).setLink
      (Link.examined s.power.standby ((clockedOut s (payload.length + 8)).receiving
        (frameWith type tag code low high payload crc) s.now).link) := by
  rw [receiveBytes_eq hl hf (by simp [frameWith]) (fun k h0 hk => ?_), frameWith_length hc]
  have named : num2At (frameWith type tag code low high payload crc) 4 = payload.length := hn.symm
  rw [frameWith_length hc] at hk
  exact undecided_take rfl h0 (Or.inr ⟨named.trans_le hm, hk.trans_le (Nat.add_le_add_right named.ge 8)⟩)

/-- What the examination of a whole frame comes to (R2, R3, R4). -/
theorem examined_frame (standby : Bool) {l : Link} (hh : l.held = frameWith type tag code low high payload crc)
    (hn : payload.length = low.toNat + 256 * high.toNat) (hm : payload.length ≤ 4096) (hc : crc.length = 2) :
    l.examined standby =
      if crcBytes ([type, tag, code, low, high] ++ payload) ≠ crc then
        Link.examined standby { l.countError with held := [type, tag, code, low, high] ++ payload ++ crc }
      else if type ≠ 1 then { l.countError with held := [] }
      else { l.arrive standby tag code payload with held := [] } := by
  have named : num2At (frameWith type tag code low high payload crc) 4 = payload.length := hn.symm
  have body : ((frameWith type tag code low high payload crc).drop 1).take (payload.length + 5) =
      [type, tag, code, low, high] ++ payload := by
    simp [frameWith]
  have check : ((frameWith type tag code low high payload crc).drop (payload.length + 6)).take 2 = crc := by
    have split : frameWith type tag code low high payload crc = ([0xA5, type, tag, code, low, high] ++ payload) ++ crc := by
      simp [frameWith]
    rw [split, List.drop_left' (by simp), List.take_of_length_le hc.le]
  have rest : (frameWith type tag code low high payload crc).drop (payload.length + 8) = [] := by
    rw [← frameWith_length hc, List.drop_length]
  rw [examined_eq, hh, fromSync_frameWith]
  dsimp only
  rw [named, body, check, rest, frameWith_length hc, if_neg (by omega),
    if_neg (show ¬ Config.maxLength < payload.length from Nat.not_lt.2 hm), if_neg (Nat.lt_irrefl _)]
  have hunting (m : Link) : Link.examined standby { m with held := [] } = { m with held := [] } := examined_nil standby rfl
  have arrived : Link.examined standby (Link.arrive { l with held := [] } standby tag code payload) =
      { l.arrive standby tag code payload with held := [] } := by
    have held := arrive_receiver l [] l.lastByte standby tag code payload
    rw [examined_nil standby (arrive_held _ _ _ _ _)]
    exact held.trans (by rw [← arrive_lastByte l standby tag code payload])
  change (if crcBytes ([type, tag, code, low, high] ++ payload) ≠ crc then
      Link.examined standby { l.countError with held := [type, tag, code, low, high] ++ payload ++ crc }
    else if type ≠ 1 then Link.examined standby { l.countError with held := [] }
    else Link.examined standby (Link.arrive { l with held := [] } standby tag code payload)) = _
  rw [hunting, arrived]

end Sys2Proof.Machine

/-! What a received frame leaves: discarded, answered at once, or entered in the table. -/

namespace Sys2Proof.Machine

variable {s : State} {type tag code low high : Byte} {payload : List Byte}

/-! ### Frames that are no request -/

theorem frameReceived_otherType (hl : s.link.held = []) (hf : s.link.InFrame) (ht : type ≠ 1)
    (hn : payload.length = low.toNat + 256 * high.toNat) (hm : payload.length ≤ 4096) :
    s.receiveBytes (frameWith type tag code low high payload (crcBytes ([type, tag, code, low, high] ++ payload))) =
      (let u := clockedOut s (payload.length + 8);
      { u with link := { u.link with lastByte := s.now, errors := min 65535 (s.link.errors + 1) } }) := by
  rw [receive_frame hl hf hn hm rfl, examined_frame _ rfl hn hm rfl, if_neg (not_not_intro rfl), if_pos ht]
  have held : (clockedOut s (payload.length + 8)).link.held = [] := hl
  dsimp only
  rw [← held]
  rfl

/-- The bytes behind the SYNC of a frame discarded, examined again. -/
theorem examinedAgain_eq (t : State) (b : Byte) (bs : List Byte) (h : t.link.held = []) :
    examinedAgain t (b :: bs) = t.setLink (Link.examined t.power.standby (t.receiving (b :: bs) t.now).link) := by
  unfold examinedAgain
  rw [foldl_receive_hunting _ _ _ _ _ h]
  rfl

theorem frameReceived_badCrc {crc : List Byte} (hl : s.link.held = []) (hf : s.link.InFrame)
    (hn : payload.length = low.toNat + 256 * high.toNat) (hm : payload.length ≤ 4096) (hc : crc.length = 2)
    (hx : crcBytes ([type, tag, code, low, high] ++ payload) ≠ crc) :
    s.receiveBytes (frameWith type tag code low high payload crc) =
      (let u := clockedOut s (payload.length + 8);
      examinedAgain { u with link := u.link.countError } ([type, tag, code, low, high] ++ payload ++ crc)) := by
  rw [receive_frame hl hf hn hm hc, examined_frame _ rfl hn hm hc, if_pos hx]
  exact (examinedAgain_eq { clockedOut s (payload.length + 8) with
    link := (clockedOut s (payload.length + 8)).link.countError } type _ hl).symm

theorem lengthAbove_discarded (hl : s.link.held = []) (hf : s.link.InFrame) (hn : 4096 < low.toNat + 256 * high.toNat) :
    s.receiveBytes [0xA5, type, tag, code, low, high] =
      (let u := clockedOut s 6;
      examinedAgain { u with link := u.link.countError } [type, tag, code, low, high]) := by
  have named : num2At [0xA5, type, tag, code, low, high] 4 = low.toNat + 256 * high.toNat := rfl
  have sync : fromSync [0xA5, type, tag, code, low, high] = [0xA5, type, tag, code, low, high] := by
    unfold fromSync
    rw [List.dropWhile_cons_of_neg (by decide)]
  have decided (l : Link) (hh : l.held = [0xA5, type, tag, code, low, high]) (standby : Bool) :
      l.examined standby = Link.examined standby { l.countError with held := [type, tag, code, low, high] } := by
    rw [examined_eq, hh, sync]
    dsimp only
    rw [named, if_neg (by simp), if_pos (show Config.maxLength < low.toNat + 256 * high.toNat from hn)]
    rfl
  have waits (k : Nat) (h0 : 0 < k) (hk : k < 6) : Undecided ([0xA5, type, tag, code, low, high].take k) :=
    undecided_take rfl h0 (Or.inl hk)
  rw [receiveBytes_eq (bs := [0xA5, type, tag, code, low, high]) hl hf (by simp) waits, decided _ rfl]
  exact (examinedAgain_eq { clockedOut s 6 with link := (clockedOut s 6).link.countError } type _ hl).symm

/-- Settles O11, by what the examination of a whole frame comes to. -/
theorem receiverDiscardsWhatIsNoRequest : Obligations.ReceiverDiscardsWhatIsNoRequest := by
  unfold Obligations.ReceiverDiscardsWhatIsNoRequest
  refine ⟨fun s type tag code low high payload hl hf ht hn hm => ?_, fun s type tag code low high hl hf hn => ?_,
    fun s type tag code low high payload crc1 crc2 hl hf hn hm hx => ?_, fun s => rfl⟩
  · have whole (crc : List Byte) : [0xA5] ++ ([type, tag, code, low, high] ++ payload) ++ crc =
        frameWith type tag code low high payload crc := by
      simp [frameWith]
    dsimp only
    rw [whole]
    exact congrArg Host.Outcome.next (frameReceived_otherType hl hf ht hn hm)
  · exact congrArg Host.Outcome.next (lengthAbove_discarded hl hf hn)
  · have whole : [0xA5, type, tag, code, low, high] ++ payload ++ [crc1, crc2] =
        frameWith type tag code low high payload [crc1, crc2] := by
      simp [frameWith]
    rw [whole]
    exact congrArg Host.Outcome.next (frameReceived_badCrc hl hf hn hm rfl (fun h => hx h.symm))

/-! ### Requests -/

/-- The arrival of a request, by its checks in their order (R9, R5, R6). -/
theorem arrive_checks (l : Link) (standby : Bool) (tag code : Byte) (payload : List Byte) :
    (if 48 ≤ l.queue.length + l.table.length then
      (l.arrive standby tag code payload).errors = min 65535 (l.errors + 1) ∧
        (l.arrive standby tag code payload).table = l.table ∧ (l.arrive standby tag code payload).queue = l.queue
    else
      (l.arrive standby tag code payload).errors = l.errors ∧
      (let answered : Status → Prop := fun e => (l.arrive standby tag code payload).table = l.table ∧
          (l.arrive standby tag code payload).queue =
            l.queue ++ [{ kind := .reply, tag := tag, code := code, payload := [e.code] }]
        if ∃ e ∈ l.table, e.tag = tag then answered .tagBusy
        else if 8 ≤ l.table.length then answered .busy
        else match requestOf code with
          | none => answered .unknownRequest
          | some c =>
            if payload.length < c.shortest then answered .malformed
            else if standby = true ∧ c ∉ [.identify, .status, .resume, .conditionQuery] then answered .standby
            else (l.arrive standby tag code payload).queue = l.queue ∧
              (l.arrive standby tag code payload).table =
                l.table ++ [{ tag := tag, code := c, payload := payload, taken := false }])) := by
  have full : l.free = 0 ↔ 48 ≤ l.queue.length + l.table.length := by
    have h := free_pos_iff l
    omega
  have held : l.table.any (fun e => e.tag = tag) = true ↔ ∃ e ∈ l.table, e.tag = tag := by
    simp
  unfold Link.arrive
  by_cases hf : 48 ≤ l.queue.length + l.table.length
  · rw [if_pos hf, if_pos (full.2 hf)]
    exact ⟨rfl, rfl, rfl⟩
  rw [if_neg hf, if_neg (fun h => hf (full.1 h))]
  by_cases ht : ∃ e ∈ l.table, e.tag = tag
  · rw [if_pos (held.2 ht)]
    exact ⟨rfl, by rw [if_pos ht]; exact ⟨rfl, rfl⟩⟩
  rw [if_neg (fun h => ht (held.1 h))]
  dsimp only
  rw [if_neg ht]
  by_cases h8 : 8 ≤ l.table.length
  · rw [if_pos h8, if_pos (show Config.tableSize ≤ l.table.length from h8)]
    exact ⟨rfl, rfl, rfl⟩
  rw [if_neg h8, if_neg (show ¬ Config.tableSize ≤ l.table.length from h8)]
  cases requestOf code with
  | none => exact ⟨rfl, rfl, rfl⟩
  | some c =>
    have asleep : (standby && !c.inStandby) = true ↔
        standby = true ∧ c ∉ [.identify, .status, .resume, .conditionQuery] := by
      rw [Bool.and_eq_true, Bool.not_eq_true', Bool.eq_false_iff, ne_eq, inStandby_iff]
    dsimp only
    by_cases hs : payload.length < c.shortest
    · rw [if_pos hs, if_pos hs]
      exact ⟨rfl, rfl, rfl⟩
    rw [if_neg hs, if_neg hs]
    by_cases hb : standby = true ∧ c ∉ [.identify, .status, .resume, .conditionQuery]
    · rw [if_pos hb, if_pos (asleep.2 hb)]
      exact ⟨rfl, rfl, rfl⟩
    · rw [if_neg hb, if_neg (fun h => hb (asleep.1 h))]
      exact ⟨rfl, rfl, rfl⟩

end Sys2Proof.Machine

/-! A request received whole (R2, R5, R6, R9, R10). -/

namespace Sys2Proof.Machine

/-- The arrival of a request neither drops a notice nor sends a byte. -/
theorem arrive_sender (l : Link) (standby : Bool) (tag code : Byte) (payload : List Byte) :
    (l.arrive standby tag code payload).dropped = l.dropped ∧ (l.arrive standby tag code payload).sending = l.sending := by
  unfold Link.arrive
  split_ifs
  · exact ⟨rfl, rfl⟩
  · exact ⟨rfl, rfl⟩
  · exact ⟨rfl, rfl⟩
  · split
    · exact ⟨rfl, rfl⟩
    · split_ifs <;> exact ⟨rfl, rfl⟩

/-- The length bytes of a frame name its payload's length. -/
theorem lengthBytes {n : Nat} (h : n ≤ 4096) :
    n = (BitVec.ofNat 8 n).toNat + 256 * (BitVec.ofNat 8 (n / 256)).toNat := by
  rw [BitVec.toNat_ofNat, BitVec.toNat_ofNat]
  omega

/-- What a request received whole leaves: its arrival in the link, behind the part's own bytes. -/
theorem frameReceived_request {s : State} (tag code : Byte) {payload : List Byte} (hl : s.link.held = [])
    (hf : s.link.InFrame) (hm : payload.length ≤ 4096) :
    s.receiveBytes (Frame.bytes { kind := .request, tag := tag, code := code, payload := payload }) =
      (let u := clockedOut s (payload.length + 8);
      u.setLink { u.link.arrive s.power.standby tag code payload with held := [], lastByte := s.now }) := by
  have hn := lengthBytes hm
  have whole : Frame.bytes { kind := .request, tag := tag, code := code, payload := payload } =
      frameWith 1 tag code (BitVec.ofNat 8 payload.length) (BitVec.ofNat 8 (payload.length / 256)) payload
        (crcBytes ([1, tag, code, BitVec.ofNat 8 payload.length, BitVec.ofNat 8 (payload.length / 256)] ++ payload)) := rfl
  rw [whole, receive_frame hl hf hn hm rfl, examined_frame _ rfl hn hm rfl, if_neg (not_not_intro rfl),
    if_neg (not_not_intro rfl)]
  have arrived (held : List Byte) : (({ (clockedOut s (payload.length + 8)).link with held := held, lastByte := s.now } : Link).arrive
      s.power.standby tag code payload) = _ := arrive_receiver _ held s.now _ _ _ _
  unfold State.receiving
  dsimp only
  rw [arrived]

/-- Settles O10, by the checks of a request's arrival. -/
theorem receivedRequestIsEnteredOrAnswered : Obligations.ReceivedRequestIsEnteredOrAnswered := by
  unfold Obligations.ReceivedRequestIsEnteredOrAnswered
  intro s tag code payload hl hf hm
  obtain ⟨hd, hs⟩ := arrive_sender (clockedOut s (payload.length + 8)).link s.power.standby tag code payload
  refine ⟨_, congrArg Host.Outcome.next (frameReceived_request tag code hl hf hm), rfl, ?_, rfl, rfl, hd, hs,
    arrive_checks (clockedOut s (payload.length + 8)).link s.power.standby tag code payload⟩
  have clocked : s.ChangesOnly (clockedOut s (payload.length + 8)) [.link, .sent] :=
    ((State.ChangesOnly.refl s [.link, .sent]).setLink _ (by decide)).setSent _ (by decide)
  exact clocked.setLink _ (by decide)

end Sys2Proof.Machine

/-! Level reports in SERVICE: no kiosk bit resolves to LOCKOUT there, so a report changes the kiosk set alone, with at most one notice. -/

namespace Sys2Proof.Machine

/-! ### Notices behind a link -/

/-- `m` is `l` with notices queued behind it, but for the marks of dropped ones. -/
def Link.NoticesAfter (l m : Link) : Prop :=
  m.table = l.table ∧ m.errors = l.errors ∧ ∃ later, m.queue = l.queue ++ later ∧ ∀ f ∈ later, f.kind = .notice

namespace Link.NoticesAfter

variable {l m k : Link}

theorem refl (l : Link) : l.NoticesAfter l := ⟨rfl, rfl, [], by simp, by simp⟩

theorem trans (h : l.NoticesAfter m) (h' : m.NoticesAfter k) : l.NoticesAfter k := by
  obtain ⟨ht, he, xs, hq, hx⟩ := h
  obtain ⟨ht', he', ys, hq', hy⟩ := h'
  refine ⟨ht'.trans ht, he'.trans he, xs ++ ys, by rw [hq', hq, List.append_assoc], fun f hf => ?_⟩
  exact (List.mem_append.1 hf).elim (hx f) (hy f)

theorem notice (h : l.NoticesAfter m) (code : Byte) (payload : List Byte) : l.NoticesAfter (m.notice code payload) := by
  refine h.trans ?_
  unfold Link.notice
  split_ifs
  · exact ⟨rfl, rfl, _, rfl, by simp⟩
  · exact ⟨rfl, rfl, [], by simp, by simp⟩

end Link.NoticesAfter

/-- The link over a walk of an operation that only queues notices. -/
theorem each_noticesAfter {α : Type} {s t : State} (h : s.link.NoticesAfter t.link) (xs : List α) (f : State → α → State)
    (hf : ∀ (v : State) (a : α), v.link.NoticesAfter (f v a).link) : s.link.NoticesAfter (t.each xs f).link := by
  induction xs generalizing t with
  | nil => exact h
  | cons x rest ih => exact ih (h.trans (hf t x))

/-! ### A bit set or cleared -/

theorem getLsbD_setBit {n : Nat} (b : BitVec n) (i : Fin n) (j : Nat) :
    (setBit b i).getLsbD j = (decide (j = i.val) || b.getLsbD j) := by
  unfold setBit
  rw [BitVec.getLsbD_or, BitVec.getLsbD_ofNat, Nat.testBit_two_pow, Bool.or_comm]
  by_cases h : j = i.val
  · simp [h]
  · simp [h, Ne.symm h]

theorem getLsbD_clearBit {n : Nat} (b : BitVec n) (i : Fin n) (j : Nat) :
    (clearBit b i).getLsbD j = (decide (j ≠ i.val) && b.getLsbD j) := by
  unfold clearBit
  rw [BitVec.getLsbD_and, BitVec.getLsbD_not, BitVec.getLsbD_ofNat, Nat.testBit_two_pow]
  by_cases hj : j < n
  · by_cases h : j = i.val
    · simp [h]
    · simp [h, Ne.symm h, hj]
  · have out : b.getLsbD j = false := BitVec.getLsbD_of_ge b j (by omega)
    simp [out]

/-! ### One level of the kiosk set reported -/

/-- The kiosk set with level `i` reported, in SERVICE. -/
def CondSet.reported (k : CondSet 16) (i : Fin 16) (present : Bool) : CondSet 16 :=
  if present then
    if k.bits.getLsbD i.val then k else (k.set i).record i ((k.set i).resolved kioskTable .service i)
  else k.unset i

/-- Every recorded action is the one its bit resolves to. -/
def CondSet.Recorded (k : CondSet 16) : Prop := ∀ i, k.recorded.get i = k.resolved kioskTable .service i

namespace CondSet

variable {k : CondSet 16}

theorem reported_bits (k : CondSet 16) (i : Fin 16) (present : Bool) (j : Nat) :
    (k.reported i present).bits.getLsbD j = if j = i.val then present else k.bits.getLsbD j := by
  unfold CondSet.reported
  cases present
  · exact (getLsbD_clearBit k.bits i j).trans (by by_cases h : j = i.val <;> simp [h])
  · rw [if_pos rfl]
    split_ifs with hb hj hj
    · rw [hj, hb]
    · rfl
    · exact (getLsbD_setBit k.bits i j).trans (by simp [hj])
    · exact (getLsbD_setBit k.bits i j).trans (by simp [hj])

@[simp] theorem reported_mask (k : CondSet 16) (i : Fin 16) (present : Bool) : (k.reported i present).mask = k.mask := by
  unfold CondSet.reported
  split_ifs <;> rfl

/-- What a bit resolves to is its own and its mask's. -/
theorem resolved_congr {k m : CondSet 16} {i : Fin 16} (hb : m.bits.getLsbD i.val = k.bits.getLsbD i.val)
    (hm : m.mask = k.mask) : m.resolved kioskTable .service i = k.resolved kioskTable .service i := by
  unfold CondSet.resolved
  rw [hb, hm]

theorem Recorded.reported (h : k.Recorded) (i : Fin 16) (present : Bool) : (k.reported i present).Recorded := by
  intro j
  have others (hj : i ≠ j) : (k.reported i present).resolved kioskTable .service j = k.resolved kioskTable .service j :=
    resolved_congr (by rw [reported_bits, if_neg (fun e => hj (Fin.ext e).symm)]) (reported_mask _ _ _)
  by_cases hj : i = j
  · subst hj
    unfold CondSet.reported
    split_ifs with hp hb
    · exact h i
    · exact get_put_same _ _ _
    · have clear : (k.unset i).bits.getLsbD i.val = false := (getLsbD_clearBit k.bits i i.val).trans (by simp)
      unfold CondSet.resolved
      rw [if_pos clear]
      exact get_put_same _ _ _
  · rw [others hj, ← h j]
    unfold CondSet.reported
    split_ifs
    · rfl
    · exact get_put_ne _ hj _
    · exact get_put_ne _ hj _

theorem Recorded.clear (mask : BitVec 16) : (CondSet.clear mask).Recorded := by
  intro i
  have off : (CondSet.clear mask).bits.getLsbD i.val = false := BitVec.getLsbD_zero
  unfold CondSet.resolved
  rw [if_pos off]
  exact get_replicate _ i

theorem Recorded.unset (h : k.Recorded) {i : Fin 16} (hb : k.bits.getLsbD i.val = false) : k.recorded.get i = .unset := by
  rw [h i]
  exact if_pos hb

/-- Levels reported one after another. -/
def reportedAll (k : CondSet 16) (causes : List (Fin 16 × Bool)) : CondSet 16 :=
  causes.foldl (fun k c => k.reported c.1 c.2) k

theorem Recorded.reportedAll (h : k.Recorded) (causes : List (Fin 16 × Bool)) : (k.reportedAll causes).Recorded := by
  induction causes generalizing k with
  | nil => exact h
  | cons c rest ih => exact ih (h.reported c.1 c.2)

@[simp] theorem reportedAll_mask (k : CondSet 16) (causes : List (Fin 16 × Bool)) : (k.reportedAll causes).mask = k.mask := by
  induction causes generalizing k with
  | nil => rfl
  | cons c rest ih => exact (ih _).trans (reported_mask _ _ _)

end CondSet

/-! ### Reports by the state -/

/-- `t` is `s` with kiosk set `k` and notices queued. -/
def State.Levelled (s t : State) (k : CondSet 16) : Prop :=
  s.link.NoticesAfter t.link ∧ t = (s.setKioskSet k).setLink t.link

namespace State.Levelled

variable {s t : State} {k : CondSet 16}

theorem refl (s : State) : s.Levelled s s.conds.kiosk := ⟨.refl _, rfl⟩

/-- What is read neither of the link nor of the kiosk set is as it was. -/
theorem same {β : Type} (h : s.Levelled t k) (g : State → β) (hg : ∀ l, g ((s.setKioskSet k).setLink l) = g s) :
    g t = g s := by
  obtain ⟨-, ht⟩ := h
  rw [ht]
  exact hg _

theorem resolved_ne_lockout (k : CondSet 16) (i : Fin 16) : k.resolved kioskTable .service i ≠ .lockout := by
  have table : ∀ j : Fin 16, kioskTable j .service ≠ .lockout := by decide
  unfold CondSet.resolved
  split_ifs
  · decide
  · decide
  · exact table i

/-- A bit resolved in SERVICE, whatever the lockout would do. -/
theorem resolveKiosk (hm : s.conds.mode = .service) (lock : State → State) (g : Trigger) (i : Fin 16) :
    s.Levelled (s.resolveKiosk lock g i)
      (s.conds.kiosk.record i (s.conds.kiosk.resolved kioskTable .service i)) := by
  have resolved : s.kioskResolved i = s.conds.kiosk.resolved kioskTable .service i := by
    unfold State.kioskResolved
    rw [hm]
  unfold State.resolveKiosk
  dsimp only
  rw [resolved, if_neg (fun h => resolved_ne_lockout _ _ h.1)]
  split_ifs
  · exact ⟨(Link.NoticesAfter.refl _).notice _ _, rfl⟩
  · exact ⟨.refl _, rfl⟩

/-- A level reported, by what its cause is in the first state. -/
theorem report (h : s.Levelled t k) (hm : s.conds.mode = .service) (lock : State → State) (i : Fin 16) (cause : State → Bool)
    (hc : ∀ l, cause ((s.setKioskSet k).setLink l) = cause s) :
    s.Levelled (t.reportLevelWith lock i (cause t)) (k.reported i (cause s)) := by
  rw [h.same cause hc]
  obtain ⟨hn, ht⟩ := h
  have kiosk : t.conds.kiosk = k := by rw [ht]; rfl
  have mode : t.conds.mode = .service := by rw [ht]; exact hm
  unfold State.reportLevelWith CondSet.reported
  rw [kiosk]
  split_ifs
  · exact ⟨hn, ht⟩
  · obtain ⟨hl, hr⟩ := resolveKiosk (s := t.setKioskSet (k.set i)) mode lock (.raised []) i
    exact ⟨hn.trans hl, hr.trans (by rw [ht]; rfl)⟩
  · exact ⟨hn, by rw [ht]; rfl⟩

end State.Levelled

end Sys2Proof.Machine

/-! The level causes at a kiosk reset (R174), and the link at it (R16). -/

namespace Sys2Proof.Machine

variable {s t : State}

/-! ### The level causes -/

/-- The kiosk bits with a level cause, each with what its cause is, in the order of their reports (log 18). -/
def State.levelCauses (s : State) : List (Fin 16 × Bool) :=
  [(0, s.conds.supply.confirmed), (1, s.conds.door.confirmed)] ++
    ((allFin 2).filter s.power.profile.usesUnit).map (fun u => (if u = 0 then 3 else 4, s.boxFull u)) ++
    [(7, decide (s.money.terminal.state = .lost)), (13, decide (s.spool.free.length < s.spoolReserve)),
      (8, (s.port 0).state.faulty), (9, (s.port 1).state.faulty), (10, (s.port 2).state.faulty), (11, s.mediaLow),
      (15, s.printStall)]

theorem State.Levelled.eachBox {k : CondSet 16} (h : s.Levelled t k) (hm : s.conds.mode = .service) (us : List (Fin 2)) :
    s.Levelled (t.each us State.evalBox) (k.reportedAll (us.map (fun u => (if u = 0 then 3 else 4, s.boxFull u)))) := by
  induction us generalizing t k with
  | nil => exact h
  | cons u rest ih => exact ih (h.report hm id _ (fun v => v.boxFull u) (fun _ => rfl))

/-- In SERVICE the level causes evaluated leave the kiosk set with each of them reported. -/
theorem evalLevels_levelled (hm : s.conds.mode = .service) :
    s.Levelled s.evalLevels (s.conds.kiosk.reportedAll s.levelCauses) := by
  have supply := (State.Levelled.refl s).report hm State.lockout 0 (fun _ => s.conds.supply.confirmed) (fun _ => rfl)
  have door := supply.report hm State.lockout 1 (fun _ => s.conds.door.confirmed) (fun _ => rfl)
  have units := door.same (fun v => v.power.profile.usesUnit) (fun _ => rfl)
  have boxes := door.eachBox hm ((allFin 2).filter s.power.profile.usesUnit)
  have terminal := boxes.report hm id 7 (fun v => decide (v.money.terminal.state = .lost)) (fun _ => rfl)
  have spool := terminal.report hm id 13 (fun v => decide (v.spool.free.length < v.spoolReserve)) (fun _ => rfl)
  have port0 := spool.report hm id 8 (fun v => (v.port 0).state.faulty) (fun _ => rfl)
  have port1 := port0.report hm id 9 (fun v => (v.port 1).state.faulty) (fun _ => rfl)
  have port2 := port1.report hm id 10 (fun v => (v.port 2).state.faulty) (fun _ => rfl)
  have media := port2.report hm id 11 State.mediaLow (fun _ => rfl)
  have stall := media.report hm State.lockout 15 State.printStall (fun _ => rfl)
  unfold State.levelCauses CondSet.reportedAll
  rw [List.foldl_append, List.foldl_append]
  unfold State.evalLevels State.reportLevel
  dsimp only at units stall ⊢
  rw [units]
  exact stall

namespace CondSet

variable {k : CondSet 16} {causes : List (Fin 16 × Bool)} {i : Fin 16}

theorem reportedAll_bits_of_notMem (h : i ∉ causes.map Prod.fst) :
    (k.reportedAll causes).bits.getLsbD i.val = k.bits.getLsbD i.val := by
  induction causes generalizing k with
  | nil => rfl
  | cons c rest ih =>
    obtain ⟨hc, hr⟩ := not_or.1 (List.mem_cons.not.1 h)
    exact (ih hr).trans ((reported_bits k c.1 c.2 i.val).trans (if_neg (fun e => hc (Fin.ext e))))

theorem reportedAll_bits_of_mem {b : Bool} (hd : (causes.map Prod.fst).Nodup) (h : (i, b) ∈ causes) :
    (k.reportedAll causes).bits.getLsbD i.val = b := by
  induction causes generalizing k with
  | nil => exact absurd h List.not_mem_nil
  | cons c rest ih =>
    obtain ⟨hc, hr⟩ := List.nodup_cons.1 hd
    rcases List.mem_cons.1 h with rfl | hm
    · exact (reportedAll_bits_of_notMem hc).trans ((reported_bits k i b i.val).trans (if_pos rfl))
    · exact ih hr hm

end CondSet

/-- The bits with a level cause reported. -/
theorem levelCauses_sublist (s : State) :
    (s.levelCauses.map Prod.fst).Sublist [0, 1, 3, 4, 7, 13, 8, 9, 10, 11, 15] := by
  have boxes : (((allFin 2).filter s.power.profile.usesUnit).map (fun u => if u = 0 then (3 : Fin 16) else 4)).Sublist [3, 4] :=
    List.filter_sublist.map (fun u : Fin 2 => if u = 0 then (3 : Fin 16) else 4)
  unfold State.levelCauses
  rw [List.map_append, List.map_append, List.map_map]
  exact ((List.Sublist.refl [0, 1]).append boxes).append (List.Sublist.refl [7, 13, 8, 9, 10, 11, 15])

theorem levelCauses_nodup (s : State) : (s.levelCauses.map Prod.fst).Nodup :=
  (levelCauses_sublist s).nodup (by decide)

/-- The kiosk bit of a unit's cash box. -/
theorem boxBit (u : Fin 2) : (if u = 0 then (3 : Fin 16) else 4).val = 3 + u.val := by
  revert u
  decide

/-- The level of the cash box of a unit: none where the profile has no such unit. -/
theorem boxLevel (s : State) {k : CondSet 16} (hk : k.bits = 0) (u : Fin 2) :
    (k.reportedAll s.levelCauses).bits.getLsbD (3 + u.val) = (s.power.profile.usesUnit u && s.boxFull u) := by
  rw [← boxBit]
  cases hu : s.power.profile.usesUnit u
  · have unnamed : (if u = 0 then (3 : Fin 16) else 4) ∉ s.levelCauses.map Prod.fst := by
      have inputs : ∀ v : Fin 2, (if v = 0 then (3 : Fin 16) else 4) ∉ [(0 : Fin 16), 1] := by decide
      have others : ∀ v : Fin 2, (if v = 0 then (3 : Fin 16) else 4) ∉ [(7 : Fin 16), 13, 8, 9, 10, 11, 15] := by decide
      have inj : ∀ v w : Fin 2, (if v = 0 then (3 : Fin 16) else 4) = (if w = 0 then 3 else 4) → v = w := by decide
      unfold State.levelCauses
      rw [List.map_append, List.map_append, List.map_map]
      intro h
      rcases List.mem_append.1 h with h | h
      · rcases List.mem_append.1 h with h | h
        · exact inputs u h
        · obtain ⟨w, hw, he⟩ := List.mem_map.1 h
          obtain rfl := inj w u he
          exact absurd (List.mem_filter.1 hw).2 (by rw [hu]; decide)
      · exact others u h
    rw [Bool.false_and, CondSet.reportedAll_bits_of_notMem unnamed, hk]
    exact BitVec.getLsbD_zero
  · have named : ((if u = 0 then (3 : Fin 16) else 4), s.boxFull u) ∈ s.levelCauses := by
      unfold State.levelCauses
      refine List.mem_append_left _ (List.mem_append_right _ (List.mem_map.2 ⟨u, ?_, rfl⟩))
      exact List.mem_filter.2 ⟨mem_allFin u, hu⟩
    rw [Bool.true_and]
    exact CondSet.reportedAll_bits_of_mem (levelCauses_nodup s) named

/-- The level of a bit whose cause stands among the reported ones. -/
theorem causeLevel (s : State) (k : CondSet 16) {i : Fin 16} {b : Bool} (h : (i, b) ∈ s.levelCauses) :
    (k.reportedAll s.levelCauses).bits.getLsbD i.val = b :=
  CondSet.reportedAll_bits_of_mem (levelCauses_nodup s) h

/-- The bits that no level cause names, and PRINT_STALL over an empty queue, stay clear. -/
theorem clearLevel (s : State) {k : CondSet 16} (hk : k.bits = 0) (hq : s.prints.queue = []) {i : Fin 16}
    (hi : i ∈ [2, 5, 6, 12, 14, 15]) : (k.reportedAll s.levelCauses).bits.getLsbD i.val = false := by
  by_cases h15 : i = 15
  · have stall : s.printStall = false := by
      unfold State.printStall
      rw [hq]
      rfl
    subst h15
    exact causeLevel s k (stall ▸ List.mem_append_right _ (by simp))
  · have unnamed : i ∉ s.levelCauses.map Prod.fst := by
      have apart : ∀ j ∈ [(2 : Fin 16), 5, 6, 12, 14, 15], j ≠ 15 → j ∉ [(0 : Fin 16), 1, 3, 4, 7, 13, 8, 9, 10, 11, 15] := by
        decide
      exact fun h => apart i hi h15 ((levelCauses_sublist s).subset h)
    rw [CondSet.reportedAll_bits_of_notMem unnamed, hk]
    exact BitVec.getLsbD_zero

end Sys2Proof.Machine

/-! The link at a kiosk reset (R16), and walks over the items of a table. -/

namespace Sys2Proof.Machine

variable {s t : State}

/-! ### Requests refused one after another -/

/-- A refusal in the queue. -/
def refusalOf (x : Status) (e : Entry) : Frame := { kind := .reply, tag := e.tag, code := e.code.byte, payload := [x.code] }

/-- Held entries refused in turn leave the table, their replies at the tail of the queue in that order. -/
theorem each_refuse (x : Status) (es : List Entry) (hd : (s.link.table.map (fun e => e.tag)).Nodup)
    (hn : (es.map (fun e => e.tag)).Nodup) (hm : ∀ e ∈ es, e ∈ s.link.table) :
    s.each es (fun t e => t.refuse e.tag x) = s.setLink { s.link with
      table := s.link.table.filter (fun y => y.tag ∉ es.map (fun e => e.tag)), queue := s.link.queue ++ es.map (refusalOf x) } := by
  induction es generalizing s with
  | nil =>
    have all : s.link.table.filter (fun y => y.tag ∉ ([] : List Entry).map (fun e => e.tag)) = s.link.table := by simp
    rw [all, List.map_nil, List.append_nil]
    rfl
  | cons e rest ih =>
    rw [List.map_cons] at hn
    obtain ⟨he, hr⟩ := List.nodup_cons.1 hn
    have first := replyWith_of_mem hd (hm e List.mem_cons_self) x []
    have kept (y : Entry) (hy : y ∈ rest) : y ∈ s.link.table.filter (fun y => y.tag ≠ e.tag) := by
      refine List.mem_filter.2 ⟨hm y (List.mem_cons_of_mem _ hy), decide_eq_true (fun h => he ?_)⟩
      exact h ▸ List.mem_map_of_mem (f := fun e : Entry => e.tag) hy
    have next := ih (s := s.refuse e.tag x) (by
      unfold State.refuse
      rw [first]
      exact hd.sublist (List.filter_sublist.map _)) hr (by
      unfold State.refuse
      rw [first]
      exact kept)
    refine next.trans ?_
    unfold State.refuse
    rw [first]
    dsimp only [State.setLink]
    rw [List.filter_filter, List.append_assoc]
    have both : (fun y : Entry => decide (y.tag ∉ rest.map (fun e => e.tag)) && decide (y.tag ≠ e.tag)) =
        fun y => decide (y.tag ∉ (e :: rest).map (fun e => e.tag)) := by
      funext y
      simp [Bool.and_comm]
    rw [both]
    rfl

/-- The link at a kiosk reset: every other request answered ABORTED, the reset itself OK, then START. -/
theorem resetLink_eq {tag : Byte} {e : Entry} (hd : (s.link.table.map (fun e => e.tag)).Nodup) (he : e ∈ s.link.table)
    (ht : e.tag = tag) : s.resetLink tag = (s.setLink { s.link with
      table := []
      queue := s.link.queue ++ (s.link.table.filter (fun e => e.tag ≠ tag)).map (refusalOf .aborted) ++
        [{ kind := .reply, tag := tag, code := e.code.byte, payload := [Status.ok.code] }] }).startNotice := by
  subst ht
  have others := each_refuse .aborted (s.link.table.filter (fun y => y.tag ≠ e.tag)) hd (hd.sublist (List.filter_sublist.map _))
    (fun y hy => (List.mem_filter.1 hy).1)
  have left (y : Entry) (hy : y ∈ s.link.table) :
      y.tag ∉ (s.link.table.filter (fun y => y.tag ≠ e.tag)).map (fun e => e.tag) ↔ y.tag = e.tag := by
    constructor
    · intro h
      by_contra hne
      exact h (List.mem_map_of_mem (f := fun e : Entry => e.tag) (List.mem_filter.2 ⟨hy, decide_eq_true hne⟩))
    · intro h hmem
      obtain ⟨z, hz, hzt⟩ := List.mem_map.1 hmem
      exact of_decide_eq_true (List.mem_filter.1 hz).2 (hzt.trans h)
  unfold State.resetLink
  dsimp only
  rw [others]
  unfold State.ok
  rw [replyWith_of_mem (e := e)]
  · have none : (s.link.table.filter (fun y => y.tag ∉ (s.link.table.filter (fun y => y.tag ≠ e.tag)).map (fun e => e.tag))).filter
        (fun y => y.tag ≠ e.tag) = [] := by
      refine List.filter_eq_nil_iff.2 (fun y hy => ?_)
      obtain ⟨hmem, hy⟩ := List.mem_filter.1 hy
      simpa using (left y hmem).1 (of_decide_eq_true hy)
    dsimp only [State.setLink]
    rw [none]
  · exact hd.sublist (List.filter_sublist.map _)
  · exact List.mem_filter.2 ⟨he, decide_eq_true ((left e he).2 rfl)⟩

end Sys2Proof.Machine

/-! Walks over the items of a table, and what a kiosk reset makes of the slots, the money and the printers. -/

namespace Sys2Proof.Machine

/-! ### A walk over items -/

/-- `f` takes items one by one: `new` is what it makes of its item, `out` what is sent for it, and no other item changes. -/
structure State.Walks {n : Nat} {β : Type} (inv : State → Prop) (read : State → Fin n → β) (new : Fin n → β → β)
    (out : Fin n → β → List Sent) (f : State → Fin n → State) : Prop where
  keeps : ∀ s i, inv s → inv (f s i)
  item : ∀ s i, inv s → read (f s i) i = new i (read s i)
  others : ∀ s i j, inv s → i ≠ j → read (f s i) j = read s j
  sent : ∀ s i, inv s → (f s i).sent = s.sent ++ out i (read s i)

namespace State.Walks

variable {n : Nat} {β : Type} {inv : State → Prop} {read : State → Fin n → β} {new : Fin n → β → β}
  {out : Fin n → β → List Sent} {f : State → Fin n → State} {s : State}

theorem each_item (w : State.Walks inv read new out f) (hs : inv s) {xs : List (Fin n)} (hd : xs.Nodup) (j : Fin n) :
    read (s.each xs f) j = if j ∈ xs then new j (read s j) else read s j := by
  induction xs generalizing s with
  | nil => rfl
  | cons i rest ih =>
    obtain ⟨hi, hr⟩ := List.nodup_cons.1 hd
    have next : read (s.each (i :: rest) f) j = _ := ih (w.keeps s i hs) hr
    rw [next]
    by_cases hj : i = j
    · subst hj
      rw [if_neg hi, if_pos List.mem_cons_self, w.item s i hs]
    · have same : j ∈ i :: rest ↔ j ∈ rest := by simp [Ne.symm hj]
      rw [w.others s i j hs hj]
      simp only [same]

theorem each_sent (w : State.Walks inv read new out f) (hs : inv s) {xs : List (Fin n)} (hd : xs.Nodup) :
    (s.each xs f).sent = s.sent ++ xs.flatMap (fun i => out i (read s i)) := by
  induction xs generalizing s with
  | nil => exact (List.append_nil _).symm
  | cons i rest ih =>
    obtain ⟨hi, hr⟩ := List.nodup_cons.1 hd
    have next : (s.each (i :: rest) f).sent = _ := ih (w.keeps s i hs) hr
    have later : rest.flatMap (fun j => out j (read (f s i) j)) = rest.flatMap (fun j => out j (read s j)) := by
      refine List.flatMap_congr (fun j hj => ?_)
      rw [w.others s i j hs (fun e => hi (e ▸ hj))]
    rw [next, w.sent s i hs, later, List.flatMap_cons, List.append_assoc]

end State.Walks

/-- What a walk's steps all keep, the walk keeps. -/
theorem each_same {α γ : Type} (g : State → γ) (f : State → α → State) (hf : ∀ s a, g (f s a) = g s) (s : State)
    (xs : List α) : g (s.each xs f) = g s := by
  induction xs generalizing s with
  | nil => rfl
  | cons a rest ih => exact (ih (f s a)).trans (hf s a)

/-! ### The slots (R56) -/

/-- A slot after a kiosk reset with its identification issued where it is MOUNTING. -/
def Slot.identified (z : Slot) (now : Nat) : Slot :=
  if z.state = .mounting ∧ z.inFlight = none then
    { z with inFlight := some .identification, exchange := z.exchange + 1, issuedAt := now }
  else z

/-- What that sends on the slot's bus. -/
def Slot.identification (n : Fin 4) (z : Slot) : List Sent :=
  if z.state = .mounting ∧ z.inFlight = none then [.card n (z.exchange + 1) .identification] else []

theorem Slot.afterReset_serving (x : Slot) (max : Grade) (now : Nat) : (x.afterReset max now).serving = none := by
  unfold Slot.afterReset
  dsimp only
  split
  · rfl
  · rfl
  · rfl
  · split_ifs <;> rfl
  · rfl

theorem Slot.afterReset_state (x : Slot) (max : Grade) (now : Nat) :
    (x.afterReset max now).state ∈ [.empty, .settling, .mounting, .mounted] := by
  unfold Slot.afterReset
  dsimp only
  split
  · next h => simp [h]
  · next h => simp [h]
  · next h => simp [h]
  · split_ifs <;> simp
  · simp

/-- The arbiter behind a kiosk reset: only an identification can go out. -/
theorem serveNext_afterReset {s : State} {n : Fin 4} (hs : (s.slot n).serving = none)
    (hx : (s.slot n).state ∈ [.empty, .settling, .mounting, .mounted]) :
    s.serveNext n = if (s.slot n).state = .mounting ∧ (s.slot n).inFlight = none then s.issue n .identification else s := by
  have busy : ((s.slot n).inFlight.isSome = true ∨ (s.slot n).serving.isSome = true) ↔ (s.slot n).inFlight ≠ none := by
    rw [hs, Option.isSome_iff_ne_none]
    simp
  unfold State.serveNext
  dsimp only
  by_cases hf : (s.slot n).inFlight = none
  · rw [if_neg (fun h => busy.1 h hf)]
    cases h : (s.slot n).state <;> simp_all
  · rw [if_pos (busy.2 hf), if_neg (fun h => hf h.2)]

/-- One slot at a kiosk reset. -/
theorem resetSlots_walks (v : State) : State.Walks (fun s => v.ChangesOnly s [.slots, .sent]) State.slot
    (fun n x => (x.afterReset (v.maxGrade n) v.now).identified v.now)
    (fun n x => (x.afterReset (v.maxGrade n) v.now).identification n)
    (fun t n => (t.setSlot n ((t.slot n).afterReset (t.maxGrade n) t.now)).serveNext n) := by
  have one (s : State) (n : Fin 4) (h : v.ChangesOnly s [.slots, .sent]) :
      (s.setSlot n ((s.slot n).afterReset (s.maxGrade n) s.now)).serveNext n =
        (let z := (s.slot n).afterReset (v.maxGrade n) v.now;
        if z.state = .mounting ∧ z.inFlight = none then (s.setSlot n z).issue n .identification else s.setSlot n z) := by
    have grade : s.maxGrade n = v.maxGrade n := by
      unfold State.maxGrade
      rw [h.store]
    rw [grade, h.now, serveNext_afterReset (by rw [State.slot_setSlot]; exact Slot.afterReset_serving _ _ _)
      (by rw [State.slot_setSlot]; exact Slot.afterReset_state _ _ _), State.slot_setSlot]
  refine ⟨fun s n h => ?_, fun s n h => ?_, fun s n m h hm => ?_, fun s n h => ?_⟩
  · exact (h.setSlot n _ (by decide)).serveNext n (by decide)
  · rw [one s n h]
    unfold Slot.identified
    dsimp only
    split_ifs
    · unfold State.issue
      rw [State.slot_setSlot, State.setSlot_now, h.now]
      exact State.slot_setSlot _ _ _
    · exact State.slot_setSlot _ _ _
  · rw [one s n h]
    dsimp only
    split_ifs
    · exact (State.slot_setSlot_ne _ hm _).trans (State.slot_setSlot_ne _ hm _)
    · exact State.slot_setSlot_ne _ hm _
  · rw [one s n h]
    unfold Slot.identification
    dsimp only
    split_ifs
    · unfold State.issue
      rw [State.slot_setSlot]
      rfl
    · exact (List.append_nil _).symm

theorem resetSlots_slot (s : State) (n : Fin 4) :
    s.resetSlots.slot n = ((s.slot n).afterReset (s.maxGrade n) s.now).identified s.now :=
  ((resetSlots_walks s).each_item (.refl s _) (List.nodup_finRange 4) n).trans (if_pos (mem_allFin n))

theorem resetSlots_sent (s : State) : s.resetSlots.sent =
    s.sent ++ (allFin 4).flatMap (fun n => ((s.slot n).afterReset (s.maxGrade n) s.now).identification n) :=
  (resetSlots_walks s).each_sent (.refl s _) (List.nodup_finRange 4)

theorem resetSlots_op (s : State) : s.ChangesOnly s.resetSlots [.slots, .sent] :=
  (State.ChangesOnly.refl s _).each _ _ (fun v n => ((State.ChangesOnly.refl v _).setSlot n _ (by decide)).serveNext n (by decide))

end Sys2Proof.Machine

/-! The money and the printers at a kiosk reset (R128, R159). -/

namespace Sys2Proof.Machine

/-! ### Cash units -/

/-- A used unit at a kiosk reset: its own record, two messages to it, and perhaps a GATE notice. -/
theorem resetUnit_eq (s : State) (u : Fin 2) : ∃ l, s.link.NoticesAfter l ∧
    s.resetUnit u = (((s.setUnit u (s.unit u).afterReset).send (.inhibit u)).send (.giveBack u)).setLink l := by
  unfold State.resetUnit
  dsimp only
  split_ifs
  · exact ⟨_, (Link.NoticesAfter.refl _).notice _ _, rfl⟩
  · exact ⟨_, .refl _, rfl⟩

theorem resetUnit_walks : State.Walks (fun _ => True) State.unit (fun _ c => c.afterReset)
    (fun u _ => [.inhibit u, .giveBack u]) State.resetUnit := by
  refine ⟨fun _ _ _ => trivial, fun s u _ => ?_, fun s u w _ hw => ?_, fun s u _ => ?_⟩
  all_goals obtain ⟨l, -, h⟩ := resetUnit_eq s u; rw [h]
  · exact State.unit_setUnit _ _ _
  · exact State.unit_setUnit_ne _ hw _
  · exact List.append_assoc _ _ _

theorem resetUnit_notices (s : State) (u : Fin 2) : s.link.NoticesAfter (s.resetUnit u).link := by
  obtain ⟨l, hl, h⟩ := resetUnit_eq s u
  rw [h]
  exact hl

/-- The money but for the units. -/
theorem resetUnit_money (units : Vector CashUnit 2) (s : State) (u : Fin 2) :
    { (s.resetUnit u).money with units := units } = { s.money with units := units } := by
  obtain ⟨l, -, h⟩ := resetUnit_eq s u
  rw [h]
  rfl

theorem resetUnit_op (s : State) (u : Fin 2) : s.ChangesOnly (s.resetUnit u) [.money, .sent, .link] := by
  obtain ⟨l, -, h⟩ := resetUnit_eq s u
  rw [h]
  exact ((((State.ChangesOnly.refl s _).setUnit u _ (by decide)).send _ (by decide)).send _ (by decide)).setLink l (by decide)

/-! ### The terminal -/

/-- The terminal port at a kiosk reset. -/
def Terminal.afterReset (x : Terminal) (now : Nat) : Terminal :=
  let ended : Auth → Option LastEnded := fun a => some { ref := a.ref, session := none, order := none }
  match x.state with
  | .busy a _ => { x with state := .cancelling a.ref none now, waiting := [], lastEnded := ended a }
  | .cancelling ref (some a) since => { x with state := .cancelling ref none since, waiting := [], lastEnded := ended a }
  | _ => { x with waiting := [], lastEnded := x.lastEnded.map (fun e => { e with session := none, order := none }) }

/-- What that sends to the terminal. -/
def Terminal.cancelled (x : Terminal) : List Sent :=
  match x.state with
  | .busy a _ => [.cancelAuth a.ref]
  | _ => []

theorem resetTerminal_eq (s : State) : s.resetTerminal =
    (s.setTerminal (s.money.terminal.afterReset s.now)).setSent (s.sent ++ s.money.terminal.cancelled) := by
  have quiet (x : Terminal) : s.setTerminal x = (s.setTerminal x).setSent (s.sent ++ []) := by
    rw [List.append_nil]
    rfl
  unfold State.resetTerminal Terminal.afterReset Terminal.cancelled
  generalize s.money.terminal = x
  obtain ⟨state, lastHeard, waiting, refCounter, lastEnded⟩ := x
  cases state with
  | busy a since => rfl
  | cancelling ref a since => cases a <;> exact quiet _
  | absent => exact quiet _
  | idle => exact quiet _
  | lost => exact quiet _

/-! ### The Money Unit -/

/-- The money at a kiosk reset, before the units and the terminal. -/
def Money.cleared (m : Money) : Money :=
  { m with
    accounts := Vector.replicate 8 Account.zero, till := Till.zero, slips := [], slipCounter := 1, refunds := []
    challenge := { m.challenge with running := false, pending := false, errors := 0 } }

/-- The walk over the used units. -/
def State.unitsReset (s : State) : State := s.each ((allFin 2).filter s.power.profile.usesUnit) State.resetUnit

theorem unitsReset_unit (s : State) (u : Fin 2) : s.unitsReset.unit u =
    if s.power.profile.usesUnit u = true then (s.unit u).afterReset else s.unit u := by
  have walked := resetUnit_walks.each_item (s := s) trivial ((List.nodup_finRange 2).filter s.power.profile.usesUnit) u
  have used : u ∈ (allFin 2).filter s.power.profile.usesUnit ↔ s.power.profile.usesUnit u = true := by
    rw [List.mem_filter]
    exact and_iff_right (mem_allFin u)
  simp only [used] at walked
  exact walked

theorem unitsReset_sent (s : State) : s.unitsReset.sent =
    s.sent ++ ((allFin 2).filter s.power.profile.usesUnit).flatMap (fun u => [.inhibit u, .giveBack u]) :=
  resetUnit_walks.each_sent trivial ((List.nodup_finRange 2).filter _)

theorem unitsReset_money (s : State) : s.unitsReset.money = { s.money with units := s.unitsReset.money.units } :=
  each_same (fun t => { t.money with units := s.unitsReset.money.units }) State.resetUnit
    (resetUnit_money s.unitsReset.money.units) s _

theorem unitsReset_op (s : State) : s.ChangesOnly s.unitsReset [.money, .sent, .link] :=
  (State.ChangesOnly.refl s _).each _ _ resetUnit_op

theorem unitsReset_notices (s : State) : s.link.NoticesAfter s.unitsReset.link :=
  each_noticesAfter (.refl _) _ _ resetUnit_notices

theorem resetMoney_eq (s : State) : s.resetMoney = (s.setMoney s.money.cleared).unitsReset.resetTerminal := rfl

theorem resetMoney_op (s : State) : s.ChangesOnly s.resetMoney [.money, .sent, .link] := by
  rw [resetMoney_eq, resetTerminal_eq]
  have units := ((State.ChangesOnly.refl s [.money, .sent, .link]).setMoney s.money.cleared (by decide)).trans (unitsReset_op _)
  exact (units.setTerminal _ (by decide)).setSent _ (by decide)

theorem resetMoney_notices (s : State) : s.link.NoticesAfter s.resetMoney.link := by
  rw [resetMoney_eq, resetTerminal_eq]
  exact unitsReset_notices _

theorem resetMoney_unit (s : State) (u : Fin 2) : s.resetMoney.unit u =
    if s.power.profile.usesUnit u = true then (s.unit u).afterReset else s.unit u := by
  rw [resetMoney_eq, resetTerminal_eq]
  exact unitsReset_unit _ u

/-- The money but for the units. -/
theorem resetMoney_money (s : State) : s.resetMoney.money =
    { s.money.cleared with units := s.resetMoney.money.units, terminal := s.money.terminal.afterReset s.now } := by
  have ended (v : State) : v.resetTerminal.money = { v.money with terminal := v.money.terminal.afterReset v.now } := by
    rw [resetTerminal_eq]
    rfl
  have units := unitsReset_money (s.setMoney s.money.cleared)
  have terminal : (s.setMoney s.money.cleared).unitsReset.money.terminal = s.money.terminal := by
    rw [units]
    rfl
  have now : (s.setMoney s.money.cleared).unitsReset.now = s.now := (unitsReset_op (s.setMoney s.money.cleared)).now
  rw [resetMoney_eq, ended, terminal, now]
  exact congrArg (fun m : Money => { m with terminal := s.money.terminal.afterReset s.now }) units

theorem resetMoney_sent (s : State) : s.resetMoney.sent =
    s.sent ++ ((allFin 2).filter s.power.profile.usesUnit).flatMap (fun u => [.inhibit u, .giveBack u]) ++
      s.money.terminal.cancelled := by
  have terminal := congrArg Money.terminal (unitsReset_money (s.setMoney s.money.cleared))
  rw [resetMoney_eq, resetTerminal_eq, terminal]
  exact congrArg (· ++ s.money.terminal.cancelled) (unitsReset_sent (s.setMoney s.money.cleared))

/-! ### The printer ports -/

/-- A printer port at a kiosk reset. -/
def Port.afterReset (x : Port) : Port :=
  if x.attempt = none then x else { x with attempt := none, state := .cooling, fault := none }

/-- What that sends to the port. -/
def Port.cancelled (q : Fin 3) (x : Port) : List Sent :=
  match x.attempt with
  | some a => [.cancelCopy q a.copyId]
  | none => []

theorem resetPort_none {s : State} {q : Fin 3} (h : (s.port q).attempt = none) : s.resetPort q = s := by
  unfold State.resetPort
  rw [h]

theorem resetPort_some {s : State} {q : Fin 3} {a : Attempt} (h : (s.port q).attempt = some a) :
    ∃ c p, s.resetPort q = ((((s.send (.cancelCopy q a.copyId)).setPort q { s.port q with attempt := none }).setPort q
      (s.port q).afterReset).notify c p) := by
  unfold State.resetPort Port.afterReset
  rw [h, if_neg (by simp)]
  dsimp only
  unfold State.movePort State.printerNotice
  simp only [State.port_setPort]
  exact ⟨_, _, rfl⟩

theorem resetPort_walks : State.Walks (fun _ => True) State.port (fun _ x => x.afterReset) Port.cancelled State.resetPort := by
  refine ⟨fun _ _ _ => trivial, fun s q _ => ?_, fun s q w _ hw => ?_, fun s q _ => ?_⟩
  all_goals cases ha : (s.port q).attempt
  case refine_1.none =>
    rw [resetPort_none ha]
    exact (if_pos ha).symm
  case refine_1.some a =>
    obtain ⟨c, p, h⟩ := resetPort_some ha
    rw [h]
    exact State.port_setPort _ _ _
  case refine_2.none => rw [resetPort_none ha]
  case refine_2.some a =>
    obtain ⟨c, p, h⟩ := resetPort_some ha
    rw [h]
    exact (State.port_setPort_ne _ hw _).trans (State.port_setPort_ne _ hw _)
  case refine_3.none =>
    rw [resetPort_none ha]
    unfold Port.cancelled
    rw [ha]
    exact (List.append_nil _).symm
  case refine_3.some a =>
    obtain ⟨c, p, h⟩ := resetPort_some ha
    rw [h]
    unfold Port.cancelled
    rw [ha]
    rfl

theorem resetPort_notices (s : State) (q : Fin 3) : s.link.NoticesAfter (s.resetPort q).link := by
  cases ha : (s.port q).attempt with
  | none =>
    rw [resetPort_none ha]
    exact .refl _
  | some a =>
    obtain ⟨c, p, h⟩ := resetPort_some ha
    rw [h]
    exact (Link.NoticesAfter.refl _).notice c p

/-- The Print Dispatcher but for its ports. -/
theorem resetPort_prints (ports : Vector Port 3) (s : State) (q : Fin 3) :
    { (s.resetPort q).prints with ports := ports } = { s.prints with ports := ports } := by
  cases ha : (s.port q).attempt with
  | none => rw [resetPort_none ha]
  | some a =>
    obtain ⟨c, p, h⟩ := resetPort_some ha
    rw [h]
    rfl

theorem resetPort_op (s : State) (q : Fin 3) : s.ChangesOnly (s.resetPort q) [.prints, .sent, .link] := by
  cases ha : (s.port q).attempt with
  | none =>
    rw [resetPort_none ha]
    exact .refl _ _
  | some a =>
    obtain ⟨c, p, h⟩ := resetPort_some ha
    rw [h]
    have sent := (State.ChangesOnly.refl s [.prints, .sent, .link]).send (.cancelCopy q a.copyId) (by decide)
    exact ((sent.setPort q _ (by decide)).setPort q _ (by decide)).notify c p (by decide)

theorem resetPrints_op (s : State) : s.ChangesOnly s.resetPrints [.prints, .sent, .link] :=
  ((State.ChangesOnly.refl s _).setPrints _ (by decide)).each _ _ resetPort_op

theorem resetPrints_notices (s : State) : s.link.NoticesAfter s.resetPrints.link :=
  each_noticesAfter (t := s.setPrints { s.prints with queue := [] }) (.refl _) _ _ resetPort_notices

theorem resetPrints_port (s : State) (q : Fin 3) : s.resetPrints.port q = (s.port q).afterReset :=
  (resetPort_walks.each_item (s := s.setPrints { s.prints with queue := [] }) trivial (List.nodup_finRange 3) q).trans
    (if_pos (mem_allFin q))

theorem resetPrints_prints (s : State) : s.resetPrints.prints = { s.prints with queue := [], ports := s.resetPrints.prints.ports } :=
  each_same (fun t => { t.prints with ports := s.resetPrints.prints.ports }) State.resetPort
    (resetPort_prints s.resetPrints.prints.ports) (s.setPrints { s.prints with queue := [] }) _

theorem resetPrints_sent (s : State) : s.resetPrints.sent = s.sent ++ (allFin 3).flatMap (fun q => (s.port q).cancelled q) :=
  resetPort_walks.each_sent (s := s.setPrints { s.prints with queue := [] }) trivial (List.nodup_finRange 3)

end Sys2Proof.Machine

/-! The blocks behind a kiosk reset, before the levels are evaluated again. -/

namespace Sys2Proof.Machine

/-! ### The stages of the reset (log 9) -/

/-- The power controller, the link and the records that send nothing. -/
def State.recordsReset (s : State) (tag : Byte) : State :=
  (s.resetPower.resetLink tag).resetSessions.resetCatalogue.resetOrders.resetSpool
/-- The slots behind them. -/
def State.slotsReset (s : State) (tag : Byte) : State := (s.recordsReset tag).resetSlots
/-- The money behind the slots. -/
def State.moneyReset (s : State) (tag : Byte) : State := (s.slotsReset tag).resetMoney
/-- The printers behind the money. -/
def State.printsReset (s : State) (tag : Byte) : State := (s.moneyReset tag).resetPrints
/-- Every block, its levels still to be evaluated. -/
def State.blocksReset (s : State) (tag : Byte) : State := (s.printsReset tag).resetConds

theorem kioskReset_eq (s : State) (tag : Byte) : s.kioskReset tag = (s.blocksReset tag).evalLevels := rfl

theorem moneyReset_eq (s : State) (tag : Byte) : s.moneyReset tag = (s.slotsReset tag).resetMoney := rfl
theorem printsReset_eq (s : State) (tag : Byte) : s.printsReset tag = (s.moneyReset tag).resetPrints := rfl

theorem resetLink_op (s : State) (tag : Byte) : s.ChangesOnly (s.resetLink tag) [.link] := by
  have others (t : State) (e : Entry) : t.ChangesOnly (t.refuse e.tag .aborted) [.link] := State.ChangesOnly.refuse_op t _ _
  exact (((State.ChangesOnly.refl s [.link]).each _ _ others).ok tag [] (by decide)).notify _ _ (by decide)


theorem slot_congr {s t : State} (h : t.slots = s.slots) (n : Fin 4) : t.slot n = s.slot n := by
  unfold State.slot
  rw [h]
theorem unit_congr {s t : State} (h : t.money = s.money) (u : Fin 2) : t.unit u = s.unit u := by
  unfold State.unit
  rw [h]
theorem port_congr {s t : State} (h : t.prints = s.prints) (q : Fin 3) : t.port q = s.port q := by
  unfold State.port
  rw [h]
theorem maxGrade_congr {s t : State} (h : t.store = s.store) (n : Fin 4) : t.maxGrade n = s.maxGrade n := by
  unfold State.maxGrade
  rw [h]

section
variable (s : State) (tag : Byte)

theorem linkReset_op : s.ChangesOnly (s.resetPower.resetLink tag) [.power, .link] :=
  ((State.ChangesOnly.refl s [.power, .link]).setPower _ (by decide)).after (resetLink_op s.resetPower tag) (by decide)

theorem recordsReset_op : s.ChangesOnly (s.recordsReset tag) [.power, .link, .sessions, .catalogue, .orders, .spool] := by
  have link : s.ChangesOnly (s.resetPower.resetLink tag) [.power, .link, .sessions, .catalogue, .orders, .spool] :=
    (linkReset_op s tag).mono (by decide)
  exact (((link.setSessions _ (by decide)).setCatalogue _ (by decide)).setOrders _ (by decide)).setSpool _ (by decide)

theorem slotsReset_op : (s.recordsReset tag).ChangesOnly (s.slotsReset tag) [.slots, .sent] := resetSlots_op _
theorem moneyReset_op : (s.slotsReset tag).ChangesOnly (s.moneyReset tag) [.money, .sent, .link] := resetMoney_op _
theorem printsReset_op : (s.moneyReset tag).ChangesOnly (s.printsReset tag) [.prints, .sent, .link] := resetPrints_op _
theorem condsReset_op : (s.printsReset tag).ChangesOnly (s.blocksReset tag) [.conds] :=
  (State.ChangesOnly.refl (s.printsReset tag) [.conds]).setConds _ (by decide)

/-- The stages from the printers, the money and the slots on. -/
theorem afterMoney_op : (s.moneyReset tag).ChangesOnly (s.blocksReset tag) [.prints, .sent, .link, .conds] :=
  ((printsReset_op s tag).mono (by decide)).after (condsReset_op s tag) (by decide)
theorem afterSlots_op : (s.slotsReset tag).ChangesOnly (s.blocksReset tag) [.money, .prints, .sent, .link, .conds] :=
  ((moneyReset_op s tag).mono (by decide)).after (afterMoney_op s tag) (by decide)
theorem afterRecords_op :
    (s.recordsReset tag).ChangesOnly (s.blocksReset tag) [.slots, .money, .prints, .sent, .link, .conds] :=
  ((slotsReset_op s tag).mono (by decide)).after (afterSlots_op s tag) (by decide)

/-- The stages up to the slots, the money and the printers. -/
theorem toSlots_op :
    s.ChangesOnly (s.slotsReset tag) [.power, .link, .sessions, .catalogue, .orders, .spool, .slots, .sent] :=
  ((recordsReset_op s tag).mono (by decide)).after (slotsReset_op s tag) (by decide)
theorem toMoney_op :
    s.ChangesOnly (s.moneyReset tag) [.power, .link, .sessions, .catalogue, .orders, .spool, .slots, .sent, .money] :=
  ((toSlots_op s tag).mono (by decide)).after (moneyReset_op s tag) (by decide)
theorem toPrints_op :
    s.ChangesOnly (s.printsReset tag) [.power, .link, .sessions, .catalogue, .orders, .spool, .slots, .sent, .money, .prints] :=
  ((toMoney_op s tag).mono (by decide)).after (printsReset_op s tag) (by decide)

/-! ### The blocks -/

theorem recordsReset_power : (s.recordsReset tag).power = { s.power with standby := false, latches := 0, afterReset := true } :=
  (resetLink_op s.resetPower tag).power

theorem blocksReset_power : (s.blocksReset tag).power = { s.power with standby := false, latches := 0, afterReset := true } :=
  (afterRecords_op s tag).power.trans (recordsReset_power s tag)

theorem blocksReset_sessions : (s.blocksReset tag).sessions = Sessions.reset := (afterRecords_op s tag).sessions

theorem blocksReset_catalogue : (s.blocksReset tag).catalogue =
    { table := s.catalogue.table.map (fun q => { gen := q.gen, entry := none }), lists := Vector.replicate 8 [], handOffs := [],
      removals := [] } := by
  rw [(afterRecords_op s tag).catalogue, ← (linkReset_op s tag).catalogue]
  rfl

theorem blocksReset_orders : (s.blocksReset tag).orders =
    { records := s.orders.records.map (fun x => { gen := x.gen, body := none }), reports := [] } := by
  rw [(afterRecords_op s tag).orders, ← (linkReset_op s tag).orders]
  rfl

theorem blocksReset_spool : (s.blocksReset tag).spool = { Spool.reset with mem := s.spool.mem } := by
  rw [(afterRecords_op s tag).spool, ← (linkReset_op s tag).spool]
  rfl

theorem blocksReset_store : (s.blocksReset tag).store = s.store :=
  (afterRecords_op s tag).store.trans (recordsReset_op s tag).store

theorem blocksReset_conds : (s.blocksReset tag).conds = { s.conds with
    inService := true, kiosk := CondSet.clear s.conds.kiosk.mask
    sessions := Vector.replicate 8 (CondSet.clear (BitVec.ofNat 8 (s.store.working.a5.get 1))) } := by
  rw [← (toPrints_op s tag).conds, ← (toPrints_op s tag).store]
  rfl

theorem blocksReset_slot (n : Fin 4) : (s.blocksReset tag).slot n =
    ((s.slot n).afterReset (s.maxGrade n) s.now).identified s.now := by
  have records := recordsReset_op s tag
  rw [slot_congr (afterSlots_op s tag).slots, ← slot_congr records.slots, ← maxGrade_congr records.store, ← records.now]
  exact resetSlots_slot (s.recordsReset tag) n

/-! ### The money and the printers -/

theorem blocksReset_money : (s.blocksReset tag).money = { s.money.cleared with
    units := (s.blocksReset tag).money.units, terminal := s.money.terminal.afterReset s.now } := by
  rw [(afterMoney_op s tag).money, ← (toSlots_op s tag).money, ← (toSlots_op s tag).now, moneyReset_eq]
  exact resetMoney_money (s.slotsReset tag)

theorem slotsReset_profile : (s.slotsReset tag).power.profile = s.power.profile := by
  rw [(slotsReset_op s tag).power, recordsReset_power]

theorem blocksReset_unit (u : Fin 2) : (s.blocksReset tag).unit u =
    if s.power.profile.usesUnit u = true then (s.unit u).afterReset else s.unit u := by
  rw [unit_congr (afterMoney_op s tag).money, ← unit_congr (toSlots_op s tag).money, ← slotsReset_profile s tag, moneyReset_eq]
  exact resetMoney_unit (s.slotsReset tag) u

theorem blocksReset_port (q : Fin 3) : (s.blocksReset tag).port q = (s.port q).afterReset := by
  rw [port_congr (condsReset_op s tag).prints, ← port_congr (toMoney_op s tag).prints, printsReset_eq]
  exact resetPrints_port (s.moneyReset tag) q

theorem blocksReset_prints : (s.blocksReset tag).prints = { s.prints with
    queue := [], ports := (s.blocksReset tag).prints.ports } := by
  rw [(condsReset_op s tag).prints, ← (toMoney_op s tag).prints, printsReset_eq]
  exact resetPrints_prints (s.moneyReset tag)

/-! ### What is sent, and the link -/

theorem slotsReset_sent : (s.slotsReset tag).sent = s.sent ++
    (allFin 4).flatMap (fun n => ((s.slot n).afterReset (s.maxGrade n) s.now).identification n) := by
  have records := recordsReset_op s tag
  have sent := resetSlots_sent (s.recordsReset tag)
  simp only [slot_congr records.slots, maxGrade_congr records.store, records.now, records.sent] at sent
  exact sent

theorem moneyReset_sent : (s.moneyReset tag).sent = (s.slotsReset tag).sent ++
    ((allFin 2).filter s.power.profile.usesUnit).flatMap (fun u => [.inhibit u, .giveBack u]) ++ s.money.terminal.cancelled := by
  rw [← slotsReset_profile s tag, ← (toSlots_op s tag).money]
  exact resetMoney_sent (s.slotsReset tag)

theorem blocksReset_sent : (s.blocksReset tag).sent =
    (s.moneyReset tag).sent ++ (allFin 3).flatMap (fun q => (s.port q).cancelled q) := by
  simp only [(condsReset_op s tag).sent, ← port_congr (toMoney_op s tag).prints]
  exact resetPrints_sent (s.moneyReset tag)

theorem blocksReset_notices : (s.resetPower.resetLink tag).link.NoticesAfter (s.blocksReset tag).link := by
  have slots : (s.slotsReset tag).link = (s.resetPower.resetLink tag).link := (slotsReset_op s tag).link
  rw [← slots, (condsReset_op s tag).link]
  exact (resetMoney_notices (s.slotsReset tag)).trans (resetPrints_notices (s.moneyReset tag))

end

end Sys2Proof.Machine

/-! KIOSK_RESET (R185), block by block as the state after it shows them. -/

namespace Sys2Proof.Machine

/-! ### One item of each block -/

/-- A slot after a kiosk reset, by the state it was in (R56). -/
theorem Slot.afterReset_eq (x : Slot) (max : Grade) (now : Nat) : x.afterReset max now =
    (let y := { x with
      insertionOwner := none, bound := none, reads := [], scan := none, serving := none
      inFlight := if x.inFlight = some .probe then some .probe else none };
    if x.state = .empty ∨ x.state = .settling then y
    else if x.state = .mounting ∨ (x.state = .fault ∧ x.faultCause = some .unreadable) then
      { y with state := .mounting, faultCause := if x.state = .mounting then x.faultCause else none, mountedAt := now }
    else { y with
      state := .mounted, faultCause := none, errors := 0
      grade := x.identity.map (fun c => minGrade c.capability max) }) := by
  have probe : probeOnly x.inFlight = if x.inFlight = some .probe then some .probe else none := by
    unfold probeOnly
    cases x.inFlight with
    | none => rfl
    | some c => cases c <;> rfl
  obtain ⟨state, faultCause⟩ := x
  unfold Slot.afterReset
  rw [probe]
  cases state with
  | fault =>
    by_cases hf : faultCause = some .unreadable
    · subst hf
      rfl
    · have here : ¬ (SlotState.fault = .empty ∨ SlotState.fault = .settling) := by decide
      have again : ¬ (SlotState.fault = .mounting ∨ SlotState.fault = .fault ∧ faultCause = some .unreadable) := by simp [hf]
      dsimp only
      rw [if_neg hf, if_neg here, if_neg again]
  | _ => rfl

theorem Slot.afterReset_kept (x : Slot) (max : Grade) (now : Nat) :
    (x.afterReset max now).bound = none ∧ (x.afterReset max now).reads = [] ∧ (x.afterReset max now).present = x.present ∧
      (x.afterReset max now).identity = x.identity := by
  unfold Slot.afterReset
  dsimp only
  split
  · exact ⟨rfl, rfl, rfl, rfl⟩
  · exact ⟨rfl, rfl, rfl, rfl⟩
  · exact ⟨rfl, rfl, rfl, rfl⟩
  · split_ifs <;> exact ⟨rfl, rfl, rfl, rfl⟩
  · exact ⟨rfl, rfl, rfl, rfl⟩

/-- The identification issued changes nothing but the command in flight. -/
theorem Slot.identified_kept (z : Slot) (now : Nat) :
    (z.identified now).bound = z.bound ∧ (z.identified now).reads = z.reads ∧ (z.identified now).present = z.present ∧
      (z.identified now).identity = z.identity ∧ (z.identified now).state = z.state := by
  unfold Slot.identified
  split_ifs <;> exact ⟨rfl, rfl, rfl, rfl, rfl⟩

theorem Slot.identification_card {n : Fin 4} {z : Slot} {x : Sent} (h : x ∈ z.identification n) :
    ∃ n k, x = .card n k .identification := by
  unfold Slot.identification at h
  split_ifs at h
  · exact ⟨n, _, List.mem_singleton.1 h⟩
  · exact absurd h List.not_mem_nil

/-- A used cash unit after a kiosk reset (R128). -/
theorem CashUnit.afterReset_eq (c : CashUnit) : c.afterReset = { c with
    jammed := false, gateOpen := false, coinSet := 0, billSet := 0, coins := 0, bills := 0, escrow := .none
    late := match c.escrow with
      | .stacking code value _ _ => some { code := code, value := value, session := none }
      | _ => c.late.map (fun x => { x with session := none }) } := by
  unfold CashUnit.afterReset
  cases c.escrow <;> rfl

theorem Terminal.afterReset_waiting (x : Terminal) (now : Nat) : (x.afterReset now).waiting = [] := by
  unfold Terminal.afterReset
  dsimp only
  split <;> rfl

/-- The terminal is lost behind a kiosk reset where it was before. -/
theorem Terminal.afterReset_lost (x : Terminal) (now : Nat) : (x.afterReset now).state = .lost ↔ x.state = .lost := by
  obtain ⟨state⟩ := x
  unfold Terminal.afterReset
  cases state with
  | cancelling ref a since => cases a <;> simp
  | _ => simp

/-! ### The link (R16) -/

/-- Refusals are no notices. -/
theorem countP_refusals (x : Status) (es : List Entry) : (es.map (refusalOf x)).countP (fun f => f.kind = .notice) = 0 := by
  rw [List.countP_eq_zero]
  intro f hf
  obtain ⟨e, -, rfl⟩ := List.mem_map.1 hf
  exact of_decide_eq_false rfl

/-- A notice at the tail of the queue, where it has room. -/
theorem Link.notice_queue (l : Link) (code : Byte) (payload : List Byte) :
    ∃ later, (l.notice code payload).queue = l.queue ++ later ∧ (∀ f ∈ later, f.kind = .notice) ∧
      (l.queue.countP (fun f => f.kind = .notice) < 40 → l.queue.length + l.table.length < 48 →
        later = [{ kind := .notice, tag := 0, code := code, payload := payload }]) := by
  unfold Link.notice
  split_ifs with room
  · exact ⟨_, rfl, by simp, fun _ _ => rfl⟩
  · exact ⟨[], (List.append_nil _).symm, by simp, fun hn hp => absurd ⟨(free_pos_iff l).2 hp, hn⟩ room⟩

/-- The link at the reset, before what the later blocks have to say: the replies, then START where it has room. -/
theorem resetLink_queue {s : State} {tag : Byte} {p : List Byte} (h : s.Offers .kioskReset tag p) :
    ∃ start, (((s.holds tag).resetPower.resetLink tag).link.queue = s.link.queue ++
        (s.link.table.filter (fun e => e.tag ≠ tag)).map (refusalOf .aborted) ++
        [{ kind := .reply, tag := tag, code := RequestCode.kioskReset.byte, payload := [Status.ok.code] }] ++ start) ∧
      ((s.holds tag).resetPower.resetLink tag).link.table = [] ∧
      ((s.holds tag).resetPower.resetLink tag).link.errors = s.link.errors ∧ (∀ f ∈ start, f.kind = .notice) ∧
      (s.link.queue.countP (fun f => f.kind = .notice) < 40 → s.link.queue.length + s.link.table.length < 48 →
        start = [{ kind := .notice, tag := 0, code := 0xC0, payload := [1, if s.store.loaded then 0 else 1] }]) := by
  obtain ⟨-, -, hd, -⟩ := id h
  have taken : ({ tag := tag, code := .kioskReset, payload := p, taken := true } : Entry) ∈ (s.link.markTaken tag).table := by
    have marked := List.mem_of_find?_eq_some (Link.find_markTaken h.mem rfl hd)
    exact marked
  have nodup : ((s.holds tag).resetPower.link.table.map (fun e => e.tag)).Nodup := by
    show ((s.link.markTaken tag).table.map (fun e => e.tag)).Nodup
    rw [Link.markTaken_tags]
    exact hd
  have others : (s.holds tag).resetPower.link.table.filter (fun e => e.tag ≠ tag) = s.link.table.filter (fun e => e.tag ≠ tag) :=
    Link.filter_markTaken s.link tag
  have fewer : (s.link.table.filter (fun e => e.tag ≠ tag)).length < s.link.table.length :=
    List.length_filter_lt_length_iff_exists.2 ⟨_, h.mem, by simp⟩
  rw [resetLink_eq nodup taken rfl, others]
  unfold State.startNotice
  rw [State.notify_link, Link.notice_table, Link.notice_errors]
  obtain ⟨start, hq, hk, hs⟩ := Link.notice_queue (State.link (State.setLink _ _)) 0xC0 _
  refine ⟨start, hq, rfl, rfl, hk, fun hn hp => (hs ?_ ?_).trans ?_⟩
  · show List.countP _ (s.link.queue ++ _ ++ _) < 40
    rw [List.countP_append, List.countP_append, countP_refusals]
    exact hn
  · show (s.link.queue ++ _ ++ _).length + 0 < 48
    rw [List.length_append, List.length_append, List.length_map, List.length_singleton]
    omega
  · show [({ kind := .notice, tag := 0, code := 0xC0, payload := [1, BitVec.ofNat 8 (if s.store.loaded then 0 else 1)] } : Frame)] = _
    split_ifs <;> rfl

end Sys2Proof.Machine

/-! The conditions behind KIOSK_RESET, and the obligation itself. -/

namespace Sys2Proof.Machine

/-! ### The levels behind the reset (R174) -/

theorem PortState.faulty_eq (x : PortState) : x.faulty = decide (x ∈ [.fault, .offline]) := by
  cases x <;> rfl

theorem mediaLow_eq (s : State) : s.mediaLow = decide (∃ q, (s.port q).state ≠ .absent ∧ (s.port q).units < s.mediaLowMark) := by
  unfold State.mediaLow
  rw [Bool.eq_iff_iff, decide_eq_true_iff, List.any_eq_true]
  simp only [Bool.and_eq_true, decide_eq_true_iff]
  exact ⟨fun ⟨q, _, hq⟩ => ⟨q, hq⟩, fun ⟨q, hq⟩ => ⟨q, mem_allFin q, hq⟩⟩

/-- A box is as full behind the reset as before. -/
theorem blocksReset_boxFull (s : State) (tag : Byte) (u : Fin 2) : (s.blocksReset tag).boxFull u =
    decide (s.boxCapacity ≤ (s.unit u).boxCount ∨ (s.unit u).fullFlag = true) := by
  have box : ((s.blocksReset tag).unit u).boxCount = (s.unit u).boxCount ∧
      ((s.blocksReset tag).unit u).fullFlag = (s.unit u).fullFlag := by
    rw [blocksReset_unit]
    split_ifs <;> exact ⟨rfl, rfl⟩
  unfold State.boxFull State.boxCapacity
  rw [box.1, box.2, blocksReset_store, Bool.decide_or, Bool.decide_eq_true]

/-- The kiosk set behind the reset. -/
def State.kioskAfterReset (s : State) (tag : Byte) : CondSet 16 :=
  (CondSet.clear s.conds.kiosk.mask).reportedAll (s.blocksReset tag).levelCauses

section
variable (s : State) (tag : Byte)

theorem kioskReset_levelled (hm : s.conds.mode = .service) :
    (s.blocksReset tag).Levelled (s.kioskReset tag) (s.kioskAfterReset tag) := by
  have conds := blocksReset_conds s tag
  have mode : (s.blocksReset tag).conds.mode = .service := by
    rw [conds]
    exact hm
  have levels := evalLevels_levelled mode
  rw [conds] at levels
  exact levels

theorem kioskAfterReset_recorded : (s.kioskAfterReset tag).Recorded := (CondSet.Recorded.clear _).reportedAll _

theorem kioskAfterReset_clear {i : Fin 16} (hi : i ∈ [2, 5, 6, 12, 14, 15]) :
    (s.kioskAfterReset tag).bits.getLsbD i.val = false := by
  refine clearLevel (s.blocksReset tag) rfl ?_ hi
  rw [blocksReset_prints]

theorem kioskAfterReset_supply : (s.kioskAfterReset tag).bits.getLsbD 0 = s.conds.supply.confirmed := by
  refine causeLevel (s.blocksReset tag) _ (i := 0) (List.mem_append_left _ (List.mem_append_left _ ?_))
  rw [blocksReset_conds]
  exact List.mem_cons_self

theorem kioskAfterReset_door : (s.kioskAfterReset tag).bits.getLsbD 1 = s.conds.door.confirmed := by
  refine causeLevel (s.blocksReset tag) _ (i := 1) (List.mem_append_left _ (List.mem_append_left _ ?_))
  rw [blocksReset_conds]
  exact List.mem_cons_of_mem _ List.mem_cons_self

theorem kioskAfterReset_box (u : Fin 2) : (s.kioskAfterReset tag).bits.getLsbD (3 + u.val) =
    (s.power.profile.usesUnit u && decide (s.boxCapacity ≤ (s.unit u).boxCount ∨ (s.unit u).fullFlag = true)) := by
  rw [← blocksReset_boxFull s tag]
  refine (boxLevel (s.blocksReset tag) rfl u).trans ?_
  rw [blocksReset_power]

theorem kioskAfterReset_terminal :
    (s.kioskAfterReset tag).bits.getLsbD 7 = decide (s.money.terminal.state = .lost) := by
  refine causeLevel (s.blocksReset tag) _ (i := 7) (List.mem_append_right _ ?_)
  rw [← decide_eq_decide.2 (Terminal.afterReset_lost s.money.terminal s.now), blocksReset_money]
  exact List.mem_cons_self

theorem kioskAfterReset_port (q : Fin 3) : (s.kioskAfterReset tag).bits.getLsbD (8 + q.val) =
    decide (((s.blocksReset tag).port q).state ∈ [.fault, .offline]) := by
  rw [← PortState.faulty_eq]
  have named (i : Fin 16) (hi : i.val = 8 + q.val)
      (h : (i, ((s.blocksReset tag).port q).state.faulty) ∈ (s.blocksReset tag).levelCauses) :
      (s.kioskAfterReset tag).bits.getLsbD (8 + q.val) = ((s.blocksReset tag).port q).state.faulty :=
    hi ▸ causeLevel (s.blocksReset tag) _ h
  match q with
  | 0 => exact named 8 rfl (List.mem_append_right _ (by simp))
  | 1 => exact named 9 rfl (List.mem_append_right _ (by simp))
  | 2 => exact named 10 rfl (List.mem_append_right _ (by simp))

theorem kioskAfterReset_media : (s.kioskAfterReset tag).bits.getLsbD 11 =
    decide (∃ q, ((s.blocksReset tag).port q).state ≠ .absent ∧ ((s.blocksReset tag).port q).units < s.mediaLowMark) := by
  have mark : (s.blocksReset tag).mediaLowMark = s.mediaLowMark := by
    unfold State.mediaLowMark
    rw [blocksReset_store]
  rw [← mark, ← mediaLow_eq]
  exact causeLevel (s.blocksReset tag) _ (i := 11) (List.mem_append_right _ (by simp))

theorem kioskAfterReset_spool : (s.kioskAfterReset tag).bits.getLsbD 13 = decide (1024 < s.spoolReserve) := by
  have free : (s.blocksReset tag).spool.free = List.range 1024 := by
    simp [blocksReset_spool, Spool.reset]
  have length : (s.blocksReset tag).spool.free.length = 1024 := by
    rw [free, List.length_range]
  have reserve : (s.blocksReset tag).spoolReserve = s.spoolReserve := by
    unfold State.spoolReserve
    rw [blocksReset_store]
  rw [← reserve, ← length]
  exact causeLevel (s.blocksReset tag) _ (i := 13) (List.mem_append_right _ (by simp))

end

/-! ### The obligation -/

/-- The queue and the table behind the reset. -/
theorem kioskReset_link {s : State} {tag : Byte} {p : List Byte} (h : s.Offers .kioskReset tag p) {l : Link}
    (hl : ((s.holds tag).resetPower.resetLink tag).link.NoticesAfter l) :
    l.table = [] ∧ l.errors = s.link.errors ∧
      (∃ later, l.queue = s.link.queue ++
        (s.link.table.filter (fun e => e.tag ≠ tag)).map
          (fun e => { kind := .reply, tag := e.tag, code := e.code.byte, payload := [Status.aborted.code] }) ++
        [{ kind := .reply, tag := tag, code := RequestCode.kioskReset.byte, payload := [Status.ok.code] }] ++ later ∧
        (∀ f ∈ later, f.kind = .notice) ∧
        (s.link.queue.countP (fun f => f.kind = .notice) < 40 → s.link.queue.length + s.link.table.length < 48 → later.head? =
          some { kind := .notice, tag := 0, code := 0xC0, payload := [1, if s.store.loaded then 0 else 1] })) := by
  obtain ⟨start, hq, ht, he, hk, hs⟩ := resetLink_queue h
  obtain ⟨kt, ke, later, kq, kk⟩ := hl
  refine ⟨kt.trans ht, ke.trans he, start ++ later, ?_, fun f hf => ?_, fun hn hp => ?_⟩
  · rw [kq, hq, List.append_assoc]
    rfl
  · exact (List.mem_append.1 hf).elim (hk f) (kk f)
  · rw [hs hn hp]
    rfl

end Sys2Proof.Machine

/-! KIOSK_RESET: the obligation, from the blocks. -/

namespace Sys2Proof.Machine

theorem exec_kioskReset {s : State} {tag : Byte} {p : List Byte} (h : s.Offers .kioskReset tag p) :
    exec (.kioskReset tag) s = .next (if s.conds.mode = .service then
      if s.store.op = .idle then (s.holds tag).kioskReset tag else s.answerNo tag .kioskReset .busy
    else s.answerNo tag .kioskReset .notService) := by
  have taken : exec (.kioskReset tag) s = .next ((s.holds tag).checked tag
      [(decide ((s.holds tag).conds.mode = .service), .notService), (!(s.holds tag).storeBusy, .busy)]
      ((s.holds tag).kioskReset tag)) := congrArg Host.Outcome.next (h.take _)
  have idle : (!(s.holds tag).storeBusy) = decide (s.store.op = .idle) := by
    show (!decide (s.store.op ≠ .idle)) = _
    rw [decide_not, Bool.not_not]
  rw [taken, checked_cons, checked_cons, checked_nil, idle, h.refuse, h.refuse]
  simp only [decide_eq_true_iff]
  rfl

theorem get_map {α β : Type} {n : Nat} (f : α → β) (v : Vector α n) (i : Fin n) : (v.map f).get i = f (v.get i) := by
  rw [Vector.get_eq_getElem, Vector.getElem_map, Vector.get_eq_getElem]

/-! ### What levels evaluated leave -/

namespace State.Levelled

variable {s t : State} {k : CondSet 16}

theorem sessions (h : s.Levelled t k) : t.sessions = s.sessions := h.same State.sessions (fun _ => rfl)
theorem slots (h : s.Levelled t k) : t.slots = s.slots := h.same State.slots (fun _ => rfl)
theorem catalogue (h : s.Levelled t k) : t.catalogue = s.catalogue := h.same State.catalogue (fun _ => rfl)
theorem orders (h : s.Levelled t k) : t.orders = s.orders := h.same State.orders (fun _ => rfl)
theorem money (h : s.Levelled t k) : t.money = s.money := h.same State.money (fun _ => rfl)
theorem spool (h : s.Levelled t k) : t.spool = s.spool := h.same State.spool (fun _ => rfl)
theorem prints (h : s.Levelled t k) : t.prints = s.prints := h.same State.prints (fun _ => rfl)
theorem store (h : s.Levelled t k) : t.store = s.store := h.same State.store (fun _ => rfl)
theorem power (h : s.Levelled t k) : t.power = s.power := h.same State.power (fun _ => rfl)
theorem sent (h : s.Levelled t k) : t.sent = s.sent := h.same State.sent (fun _ => rfl)
theorem conds (h : s.Levelled t k) : t.conds = { s.conds with kiosk := k } := congrArg State.conds h.2
theorem kiosk (h : s.Levelled t k) : t.conds.kiosk = k := by
  rw [h.conds]

end State.Levelled

section
variable {s : State} {tag : Byte} {t : State} (h : (s.blocksReset tag).Levelled t (s.kioskAfterReset tag))
include h

/-! ### Positions, orders and money -/

theorem afterReset_position (q : Fin 2048) : t.catalogue.table.get q = { gen := (s.catalogue.table.get q).gen, entry := none } := by
  rw [h.catalogue, blocksReset_catalogue]
  exact get_map _ _ q

theorem afterReset_list (r : Fin 8) : t.catalogue.lists.get r = [] := by
  rw [h.catalogue, blocksReset_catalogue]
  exact get_replicate _ r

theorem afterReset_handOffs : t.catalogue.handOffs = [] ∧ t.catalogue.removals = [] := by
  rw [h.catalogue, blocksReset_catalogue]
  exact ⟨rfl, rfl⟩

theorem afterReset_order (k : Fin 16) : t.orderRecord k = { gen := (s.orderRecord k).gen, body := none } := by
  unfold State.orderRecord
  rw [h.orders, blocksReset_orders]
  exact get_map _ _ k

theorem afterReset_reports : t.orders.reports = [] := by
  rw [h.orders, blocksReset_orders]

theorem afterReset_money : t.money =
    { s.money.cleared with units := (s.blocksReset tag).money.units, terminal := s.money.terminal.afterReset s.now } :=
  h.money.trans (blocksReset_money s tag)

theorem afterReset_account (r : Fin 8) : t.account r = Account.zero := by
  unfold State.account
  rw [afterReset_money h]
  exact get_replicate _ r

/-- The money but for accounts, units and terminal. -/
theorem afterReset_cleared : t.money.till = Till.zero ∧ t.money.slips = [] ∧ t.money.slipCounter = 1 ∧ t.money.refunds = [] ∧
    t.money.challenge = { s.money.challenge with running := false, pending := false, errors := 0 } ∧
    t.money.terminal = s.money.terminal.afterReset s.now := by
  rw [afterReset_money h]
  exact ⟨rfl, rfl, rfl, rfl, rfl, rfl⟩

theorem afterReset_unit (u : Fin 2) : t.unit u =
    if s.power.profile.usesUnit u = true then (s.unit u).afterReset else s.unit u :=
  (unit_congr h.money u).trans (blocksReset_unit s tag u)

/-! ### Printers and conditions -/

theorem afterReset_prints : t.prints = { s.prints with queue := [], ports := (s.blocksReset tag).prints.ports } :=
  h.prints.trans (blocksReset_prints s tag)

theorem afterReset_printQueue : t.prints.queue = [] ∧ t.prints.copyId = s.prints.copyId := by
  rw [afterReset_prints h]
  exact ⟨rfl, rfl⟩

theorem afterReset_port (q : Fin 3) : t.port q = (s.port q).afterReset :=
  (port_congr h.prints q).trans (blocksReset_port s tag q)

theorem afterReset_conds : t.conds = { s.conds with
    inService := true, kiosk := s.kioskAfterReset tag
    sessions := Vector.replicate 8 (CondSet.clear (BitVec.ofNat 8 (s.store.working.a5.get 1))) } := by
  rw [h.conds, blocksReset_conds]

/-- What the reset keeps of the conditions, and the inputs' levels. -/
theorem afterReset_service : t.conds.mode = s.conds.mode ∧ t.conds.inService = true ∧
    t.conds.kiosk.mask = s.conds.kiosk.mask ∧ t.conds.door = s.conds.door ∧ t.conds.supply = s.conds.supply := by
  rw [afterReset_conds h]
  exact ⟨rfl, rfl, CondSet.reportedAll_mask _ _, rfl, rfl⟩

/-- The bits without a level cause are clear, and so are their actions. -/
theorem afterReset_clear (i : Fin 16) (hi : i ∈ [2, 5, 6, 12, 14, 15]) :
    t.conds.kiosk.recorded.get i = .unset ∧ t.conds.kiosk.bits.getLsbD i.val = false := by
  have clear := kioskAfterReset_clear s tag hi
  rw [h.kiosk]
  exact ⟨(kioskAfterReset_recorded s tag).unset clear, clear⟩

theorem afterReset_inputs : t.conds.kiosk.bits.getLsbD 0 = s.conds.supply.confirmed ∧
    t.conds.kiosk.bits.getLsbD 1 = s.conds.door.confirmed := by
  rw [h.kiosk]
  exact ⟨kioskAfterReset_supply s tag, kioskAfterReset_door s tag⟩

theorem afterReset_sessionSet (r : Fin 8) : t.sessionSet r = CondSet.clear (BitVec.ofNat 8 (s.store.working.a5.get 1)) := by
  unfold State.sessionSet
  rw [afterReset_conds h]
  exact get_replicate _ r

theorem afterReset_recorded (hm : s.conds.mode = .service) (i : Fin 16) : t.conds.kiosk.recorded.get i = t.kioskResolved i := by
  obtain ⟨mode, -⟩ := afterReset_service h
  unfold State.kioskResolved
  rw [h.kiosk, mode, hm]
  exact kioskAfterReset_recorded s tag i

theorem afterReset_levels :
    let level : Nat → Bool := fun i => t.conds.kiosk.bits.getLsbD i
    (∀ u : Fin 2, level (3 + u.val) = (s.power.profile.usesUnit u &&
      decide (s.boxCapacity ≤ (s.unit u).boxCount ∨ (s.unit u).fullFlag = true))) ∧
    level 7 = decide (s.money.terminal.state = .lost) ∧
    (∀ q : Fin 3, level (8 + q.val) = decide ((t.port q).state ∈ [.fault, .offline])) ∧
    level 11 = decide (∃ q, (t.port q).state ≠ .absent ∧ (t.port q).units < s.mediaLowMark) ∧
    level 13 = decide (1024 < s.spoolReserve) := by
  dsimp only
  simp only [h.kiosk, port_congr h.prints]
  exact ⟨kioskAfterReset_box s tag, kioskAfterReset_terminal s tag, kioskAfterReset_port s tag, kioskAfterReset_media s tag,
    kioskAfterReset_spool s tag⟩

/-! ### Slots, and what is sent -/

theorem afterReset_slot (n : Fin 4) : t.slot n = ((s.slot n).afterReset (s.maxGrade n) s.now).identified s.now :=
  (slot_congr h.slots n).trans (blocksReset_slot s tag n)

theorem afterReset_slotKept (n : Fin 4) : (t.slot n).bound = none ∧ (t.slot n).reads = [] ∧
    (t.slot n).present = (s.slot n).present ∧ (t.slot n).identity = (s.slot n).identity ∧
    (t.slot n).state ∈ [.empty, .settling, .mounting, .mounted] := by
  obtain ⟨bound, reads, present, identity⟩ := (s.slot n).afterReset_kept (s.maxGrade n) s.now
  obtain ⟨bound', reads', present', identity', state'⟩ := ((s.slot n).afterReset (s.maxGrade n) s.now).identified_kept s.now
  rw [afterReset_slot h]
  refine ⟨bound'.trans bound, reads'.trans reads, present'.trans present, identity'.trans identity, ?_⟩
  rw [state']
  exact Slot.afterReset_state _ _ _

theorem afterReset_sent : ∃ cards : List Sent, (∀ x ∈ cards, ∃ n k, x = .card n k .identification) ∧
    t.sent = s.sent ++ cards ++ ((allFin 2).filter s.power.profile.usesUnit).flatMap (fun u => [.inhibit u, .giveBack u]) ++
      s.money.terminal.cancelled ++ (allFin 3).flatMap (fun q => (s.port q).cancelled q) := by
  refine ⟨(allFin 4).flatMap (fun n => ((s.slot n).afterReset (s.maxGrade n) s.now).identification n), fun x hx => ?_, ?_⟩
  · obtain ⟨n, -, hn⟩ := List.mem_flatMap.1 hx
    exact Slot.identification_card hn
  · rw [h.sent, blocksReset_sent, moneyReset_sent, slotsReset_sent]

end

/-- Settles O60, block by block. -/
theorem kioskResetClearsTheBlocks : Obligations.KioskResetClearsTheBlocks := by
  unfold Obligations.KioskResetClearsTheBlocks
  intro s tag p h
  rw [exec_kioskReset h]
  refine ⟨fun hm => by rw [if_neg (by rw [hm]; decide)], fun hm hi => by rw [if_pos hm, if_neg hi], fun hm hi => ?_⟩
  rw [if_pos hm, if_pos hi]
  have levelled := kioskReset_levelled (s.holds tag) tag hm
  have notices := (blocksReset_notices (s.holds tag) tag).trans levelled.1
  obtain ⟨table, errors, queue⟩ := kioskReset_link h notices
  generalize (s.holds tag).kioskReset tag = t at levelled table errors queue
  have sessions := levelled.sessions.trans (blocksReset_sessions (s.holds tag) tag)
  have positions := afterReset_position levelled
  have lists := afterReset_list levelled
  have orders := afterReset_order levelled
  have reports := afterReset_reports levelled
  have accounts := afterReset_account levelled
  have units := afterReset_unit levelled
  have spool := levelled.spool.trans (blocksReset_spool (s.holds tag) tag)
  have ports := afterReset_port levelled
  have sets := afterReset_sessionSet levelled
  have recorded := afterReset_recorded levelled hm
  have store := levelled.store.trans (blocksReset_store (s.holds tag) tag)
  have power := levelled.power.trans (blocksReset_power (s.holds tag) tag)
  have slots := afterReset_slot levelled
  have slotsKept := afterReset_slotKept levelled
  have sent := afterReset_sent levelled
  have levels := afterReset_levels levelled
  have clear := afterReset_clear levelled
  obtain ⟨handOffs, removals⟩ := afterReset_handOffs levelled
  obtain ⟨till, slips, slipCounter, refunds, challenge, terminal⟩ := afterReset_cleared levelled
  obtain ⟨queued, copyId⟩ := afterReset_printQueue levelled
  obtain ⟨mode, inService, mask, door, supply⟩ := afterReset_service levelled
  obtain ⟨supplyLevel, doorLevel⟩ := afterReset_inputs levelled
  refine ⟨t, rfl, table, errors, queue, sessions, positions, lists, orders, accounts, till, slips, slipCounter, refunds,
    by rw [challenge], by rw [challenge], ?_, fun u hu => ?_, spool, queued, copyId, ports, mode.trans hm, inService, mask, door,
    supply, fun r => by rw [sets]; rfl, sets, recorded, fun i hi => (clear i hi).1, supplyLevel, doorLevel,
    fun i hi => (clear i hi).2, store, power, slotsKept, fun n => ?_, handOffs, removals, reports, challenge, fun u => ?_, terminal,
    sent, levels⟩
  · rw [terminal]
    exact Terminal.afterReset_waiting _ _
  · have used : (s.holds tag).power.profile.usesUnit u = true := hu
    rw [units, if_pos used]
    exact ⟨rfl, rfl, rfl, rfl, rfl, rfl⟩
  · rw [slots, Slot.afterReset_eq]
    rfl
  · rw [units, CashUnit.afterReset_eq]
    rfl

end Sys2Proof.Machine

/-! Money in flight, the way out of CLOSING and settlement, each operation as its rules write it (R24, R27 to R32). -/

namespace Sys2Proof.Machine

/-! ### Money in flight (R27) -/

theorem isFor_iff (e : Escrow) (h : SessionHandle) : e.isFor h = true ↔
    (match e with
    | .none => False
    | .held _ _ f => f = h
    | .stacking _ _ f _ => f = h
    | .returning _ _ f _ => f = some h) := by
  cases e <;> simp [Escrow.isFor]

theorem outstanding_eq_some (x : TerminalState) (a : Auth) : x.outstanding = some a ↔
    (∃ t, x = .busy a t) ∨ (∃ ref t, x = .cancelling ref (some a) t) := by
  cases x <;> simp [TerminalState.outstanding, eq_comm]

/-- An authorisation outstanding for a session: waiting, or at the port. -/
theorem authOutstanding_iff (x : Terminal) (h : SessionHandle) :
    (x.state.outstanding.any (fun a => a.session = h) || x.waiting.any (fun a => a.session = h)) = true ↔
      ∃ a : Auth, a.session = h ∧ (a ∈ x.waiting ∨ (∃ t, x.state = .busy a t) ∨ ∃ ref t, x.state = .cancelling ref (some a) t) := by
  simp only [Bool.or_eq_true, Option.any_eq_true, List.any_eq_true, decide_eq_true_iff, outstanding_eq_some]
  constructor
  · rintro (⟨a, ho, ha⟩ | ⟨a, hw, ha⟩)
    · exact ⟨a, ha, .inr ho⟩
    · exact ⟨a, ha, .inl hw⟩
  · rintro ⟨a, ha, hw | ho⟩
    · exact .inr ⟨a, hw, ha⟩
    · exact .inl ⟨a, ho, ha⟩

theorem moneyInFlight_iff (s : State) (h : SessionHandle) : s.moneyInFlight h = true ↔
    (∃ u, (s.unit u).escrow.isFor h = true) ∨
    (∃ a : Auth, a.session = h ∧ (a ∈ s.money.terminal.waiting ∨ (∃ t, s.money.terminal.state = .busy a t) ∨
      ∃ ref t, s.money.terminal.state = .cancelling ref (some a) t)) := by
  rw [← authOutstanding_iff, Fin.exists_fin_two]
  unfold State.moneyInFlight
  simp only [Bool.or_eq_true, or_assoc]

/-! ### Leaving CLOSING (R27) -/

theorem handleOf_of_current {s : State} {h : SessionHandle} (hc : s.current h = true) : s.handleOf h.record = h := by
  unfold State.handleOf
  rw [((current_iff s h).1 hc).2]

theorem closingExitOf_some (s : State) (h : SessionHandle) : s.closingExitOf (some h) =
    if s.current h = true ∧ (s.record h.record).state = .closing ∧ s.moneyInFlight h = false then s.leaveClosing h.record
    else s := by
  unfold State.closingExitOf State.closingExit
  dsimp only
  by_cases hc : s.current h = true
  · simp only [hc, true_and, if_true, handleOf_of_current hc]
  · simp only [hc, false_and, if_false, Bool.false_eq_true]

theorem put_put {α : Type} {n : Nat} (v : Vector α n) (i : Fin n) (x y : α) : put (put v i x) i y = put v i y :=
  Vector.set_set ..

/-- A record written twice is as the second writing leaves it. -/
theorem setRecord_setRecord (s : State) (r : Fin 8) (x y : SessionRecord) :
    (s.setRecord r x).setRecord r y = s.setRecord r y := by
  unfold State.setRecord
  simp only [State.setSessions_sessions, put_put]
  rfl

/-- The SESSION notice for a record as it stands. -/
theorem sessionNotice_eq {s : State} {r : Fin 8} {x : SessionRecord} (hx : s.record r = x) (cause : SessionCause)
    (totals : List Byte) : s.sessionNotice r cause totals =
      s.notify 0xC1 (le1 r.val ++ [x.gen] ++ le1 x.state.code ++ le1 cause.code ++ totals) := by
  subst hx
  rfl

theorem leaveClosing_eq (s : State) (r : Fin 8) : s.leaveClosing r = (
    let x := s.record r;
    let t : State := { s with sessions := { s.sessions with
      records := put s.sessions.records r { x with station := none }
      fronts := (match x.station with
        | some st => put s.sessions.fronts st.index none
        | none => s.sessions.fronts) } };
    if x.committed = [] then t.settle r
    else (t.setRecord r { x with station := none, state := .draining }).notify 0xC1 (le1 r.val ++ [x.gen] ++ [4, 2])) := by
  have notice (t : State) : (t.setRecord r { t.record r with state := .draining }).sessionNotice r .closed [] =
      (t.setRecord r { t.record r with state := .draining }).notify 0xC1 (le1 r.val ++ [(t.record r).gen] ++ [4, 2]) :=
    sessionNotice_eq (State.record_setRecord ..) _ _
  unfold State.leaveClosing
  dsimp only
  rw [notice, State.record_setRecord]
  cases (s.record r).station <;> rfl

/-! ### Settlement (R29 to R32) -/

theorem issueSlip_eq (s : State) (h : Option SessionHandle) (amount : Nat) (cause : SlipCause) : s.issueSlip h amount cause = (
    let n := s.money.slipCounter;
    let till := s.money.till;
    State.notify { s with money := { s.money with
      slips := s.money.slips ++ [{ number := n, session := h, amount := amount, cause := cause }]
      slipCounter := if n = 65535 then 1 else n + 1
      till := { till with slipsIssued := till.slipsIssued + BitVec.ofNat 32 amount } } }
      0xC9 (le2 n.toNat ++ sessionBytes h ++ le4 amount ++ le1 cause.code)) := rfl

/-- The record of a session gone to IDLE, with the slip issued for it (R31). -/
def SessionRecord.idled (x : SessionRecord) (slip : Option (Nat × BitVec 16)) : SessionRecord :=
  { x with
    state := .idle, station := none, uncommitted := none, committed := [], timer := .stopped 0
    totals := { x.totals with slipAmount := (slip.map (·.1)).getD 0, slipNumber := slip.map (·.2) }, closedOrder := none }

/-- What a record gone to IDLE leaves in the other tables: no credit, the default mask (R31). -/
def State.idled (s : State) (r : Fin 8) (slip : Option (Nat × BitVec 16)) : State :=
  { s with
    sessions := { s.sessions with records := put s.sessions.records r ((s.record r).idled slip) }
    money := { s.money with accounts := put s.money.accounts r { s.account r with credit := 0 } }
    conds := { s.conds with
      sessions := put s.conds.sessions r { bits := 0, mask := s.defaultSessionMask, recorded := Vector.replicate 8 .unset } } }

theorem goIdle_eq_idled (s : State) (r : Fin 8) (slip : Option (Nat × BitVec 16)) : s.goIdle r slip =
    (s.idled r slip).notify 0xC1 (le1 r.val ++ [(s.record r).gen] ++ [0, 5] ++
      le4 ((s.account r).cashPaid + (s.account r).cardPaid) ++ le4 (s.record r).totals.earned ++
      le4 (s.record r).totals.refunded ++ le4 ((slip.map (·.1)).getD 0) ++ slipNumberBytes (slip.map (·.2))) := by
  have record : (s.idled r slip).record r = (s.record r).idled slip := get_put_same _ _ _
  have made : s.goIdle r slip = (s.idled r slip).sessionNotice r .settled (le4 ((s.account r).cashPaid + (s.account r).cardPaid) ++
      le4 (s.record r).totals.earned ++ le4 (s.record r).totals.refunded ++ le4 ((slip.map (·.1)).getD 0) ++
      slipNumberBytes (slip.map (·.2))) := rfl
  rw [made, sessionNotice_eq record]
  rfl

theorem goIdle_eq (s : State) (r : Fin 8) (slip : Option (Nat × BitVec 16)) : s.goIdle r slip = (
    let x := s.record r;
    let a := s.account r;
    let amount := match slip with
      | some y => y.1
      | none => 0;
    let number := slip.map (fun y => y.2);
    let t : State := { s with
      sessions := { s.sessions with records := put s.sessions.records r { x with
        state := .idle, station := none, uncommitted := none, committed := [], timer := .stopped 0
        totals := { x.totals with slipAmount := amount, slipNumber := number }, closedOrder := none } }
      money := { s.money with accounts := put s.money.accounts r { a with credit := 0 } }
      conds := { s.conds with
        sessions := put s.conds.sessions r { bits := 0, mask := s.defaultSessionMask, recorded := Vector.replicate 8 .unset } } };
    t.notify 0xC1 (le1 r.val ++ [x.gen] ++ [0, 5] ++ le4 (a.cashPaid + a.cardPaid) ++ le4 x.totals.earned ++
      le4 x.totals.refunded ++ le4 amount ++ (match number with
        | some n => le2 n.toNat
        | none => [0, 0]))) := by
  rw [goIdle_eq_idled]
  cases slip <;> rfl

theorem settle_eq (s : State) (r : Fin 8) : s.settle r = (
    let x := s.record r;
    let credit := (s.account r).credit;
    let h : SessionHandle := { record := r, gen := x.gen };
    if credit = 0 then s.goIdle r none
    else if s.sessions.settling = [] ∧ s.money.slips.length < 16 then
      (s.issueSlip (some h) credit .settlement).goIdle r (some (credit, s.money.slipCounter))
    else State.notify { s with sessions := { s.sessions with
        records := put s.sessions.records r { x with state := .settling }, settling := s.sessions.settling ++ [r] } }
      0xC1 (h.bytes ++ [5] ++ (if s.sessions.settling = [] then [3] else [4]))) := by
  have room : s.slipRoom = true ↔ s.money.slips.length < 16 := decide_eq_true_iff
  have record : State.record { s with sessions := { s.sessions with
      records := put s.sessions.records r { s.record r with state := .settling }, settling := s.sessions.settling ++ [r] } } r =
      { s.record r with state := .settling } := get_put_same _ _ _
  unfold State.settle State.slipAndIdle
  dsimp only
  simp only [room]
  split_ifs
  · rfl
  · rfl
  · exact sessionNotice_eq record _ _
  · exact sessionNotice_eq record _ _

theorem orderLeft_eq (s : State) (h : SessionHandle) (o : OrderHandle) (earned refunded : Nat) : s.orderLeft h o earned refunded = (
    let x := s.record h.record
    let rest := x.committed.filter (fun c => c ≠ o);
    let t := s.setRecord h.record { x with
      committed := rest
      totals := { x.totals with earned := x.totals.earned + earned, refunded := x.totals.refunded + refunded } };
    if s.current h = false then s
    else if x.state = .draining ∧ rest = [] then t.settle h.record
    else t) := by
  unfold State.orderLeft
  cases s.current h <;> rfl

/-- Settles O20: each operation by its equation. -/
theorem sessionsLeaveClosingAndSettle : Obligations.SessionsLeaveClosingAndSettle := by
  unfold Obligations.SessionsLeaveClosingAndSettle
  refine ⟨fun s h => (moneyInFlight_iff s h).trans (or_congr_left (exists_congr fun u => isFor_iff _ h)), fun _ => rfl,
    closingExitOf_some, leaveClosing_eq, settle_eq, issueSlip_eq, goIdle_eq, orderLeft_eq⟩

end Sys2Proof.Machine

/-! SESSION_QUERY, CATALOGUE_LIST, ORDER_QUERY, RASTER_QUERY and SESSION_RESUME: what stands behind the handle check. -/

namespace Sys2Proof.Machine

variable {s : State} {c : RequestCode} {tag : Byte} {p : List Byte}

/-! ### Requests let through to their own part -/

/-- A request on a current session whose state takes it (R23) meets the session's timer restarted. -/
theorem withSession_taken {act : State → SessionHandle → State} {k : Nat} {x : SessionHandle}
    (hr : byteAt p k = x.record.val) (hg : p.getD (k + 1) 0 = x.gen) (hx : s.current x = true)
    (he : sessionRefusal c (s.record x.record).state = none) :
    (s.holds tag).withSession c tag p k act = act ((s.touch x.record).holds tag) x := by
  have hc : (s.holds tag).current x = true := hx
  have hs : (((s.touch x.record).holds tag).record x.record).state = (s.record x.record).state := touch_state s x.record x.record
  unfold State.withSession
  rw [sessionAt_of_handle hr hg, hc]
  simp only [if_true, holds_touch, hs, he]

/-- R13 and R23 let a query of a session through in every state of it but IDLE, which no current session has. -/
theorem sessionQuery_taken {x : SessionHandle} (hx : s.current x = true) :
    sessionRefusal .sessionQuery (s.record x.record).state = none := by
  obtain ⟨hi, -⟩ := (current_iff s x).1 hx
  cases h : (s.record x.record).state <;> first | exact absurd h hi | rfl

/-- A query of an order meets the session's timer restarted. -/
theorem withAnyOrder_of_order {act : State → OrderHandle → Order → State} {x : OrderHandle} {o : Order}
    (hr : byteAt p 0 = x.record.val) (hg : p.getD 1 0 = x.gen) (hx : s.order? x = some o) :
    (s.holds tag).withAnyOrder tag p 0 act = act ((s.touchHandle o.session).holds tag) x o := by
  rw [← namesOrder_query (c := .orderQuery) _ (by decide), namesOrder_of_order hr hg hx, holds_touchHandle]

/-- Replies behind the restart of a timer. -/
theorem State.Offers.touched (h : s.Offers c tag p) (r : Fin 8) : (s.touch r).Offers c tag p :=
  h.sessions (State.ChangesOnly.touch_op s r)

theorem State.Offers.touchedHandle (h : s.Offers c tag p) (x : SessionHandle) : (s.touchHandle x).Offers c tag p :=
  h.sessions (State.ChangesOnly.touchHandle_op s x)

/-! ### What the queries read -/

theorem listFields_congr {s t : State} (h : t.catalogue = s.catalogue) : t.listFields = s.listFields := by
  funext x first count
  unfold State.listFields State.listed
  rw [h]

theorem orderFields_congr {s t : State} (h : t.store = s.store) : t.orderFields = s.orderFields := by
  funext x o
  unfold State.orderFields State.quoteFresh
  rw [h]

theorem sessionQuery_answers (h : s.Offers .sessionQuery tag p) {x : SessionHandle} (hr : byteAt p 0 = x.record.val)
    (hg : p.getD 1 0 = x.gen) (hx : s.current x = true) : exec (.sessionQuery tag) s =
      .next ((s.touch x.record).answerOk tag .sessionQuery ((s.touch x.record).sessionFields x)) := by
  have taking : exec (.sessionQuery tag) s = .next (s.take .sessionQuery tag (fun t p =>
    t.withSession .sessionQuery tag p 0 (fun t h => t.ok tag (t.sessionFields h)))) := rfl
  rw [taking, h.take, withSession_taken hr hg hx (sessionQuery_taken hx)]
  exact congrArg _ ((h.touched x.record).ok _)

theorem catalogueList_answers (h : s.Offers .catalogueList tag p) {x : SessionHandle} (hr : byteAt p 0 = x.record.val)
    (hg : p.getD 1 0 = x.gen) (hx : s.current x = true) (hs : (s.record x.record).state ∈ [.active, .suspended]) :
    exec (.catalogueList tag) s = .next (
      if 1 ≤ byteAt p 4 ∧ byteAt p 4 ≤ 32 then
        (s.touch x.record).answerOk tag .catalogueList (s.listFields x (num2At p 2) (byteAt p 4))
      else s.answerNo tag .catalogueList .badValue) := by
  have taking : exec (.catalogueList tag) s = .next (s.take .catalogueList tag (fun t p =>
    t.checked tag [(decide (1 ≤ byteAt p 4 ∧ byteAt p 4 ≤ 32), .badValue)]
      (t.withSession .catalogueList tag p 0 (fun t h => t.ok tag (t.listFields h (num2At p 2) (byteAt p 4)))))) := rfl
  have taken : sessionRefusal .catalogueList (s.record x.record).state = none := by
    simp only [List.mem_cons, List.not_mem_nil, or_false] at hs
    rcases hs with hs | hs <;> rw [hs] <;> rfl
  have read : ((s.touch x.record).holds tag).listFields = s.listFields :=
    listFields_congr (State.ChangesOnly.touch_op s x.record).catalogue
  rw [taking, h.take, withSession_taken hr hg hx taken, read, checked_cons, checked_nil]
  simp only [decide_eq_true_iff]
  rw [← (h.touched x.record).ok, ← h.refuse]

theorem orderQuery_answers (h : s.Offers .orderQuery tag p) {x : OrderHandle} {o : Order} (hr : byteAt p 0 = x.record.val)
    (hg : p.getD 1 0 = x.gen) (hx : s.order? x = some o) : exec (.orderQuery tag) s =
      .next ((s.touchHandle o.session).answerOk tag .orderQuery (s.orderFields x o)) := by
  have taking : exec (.orderQuery tag) s = .next (s.take .orderQuery tag (fun t p =>
    t.withAnyOrder tag p 0 (fun t h o => t.ok tag (t.orderFields h o)))) := rfl
  have read : ((s.touchHandle o.session).holds tag).orderFields = s.orderFields :=
    orderFields_congr (State.ChangesOnly.touchHandle_op s o.session).store
  rw [taking, h.take, withAnyOrder_of_order hr hg hx, read]
  exact congrArg _ ((h.touchedHandle o.session).ok _)

/-- RASTER_QUERY behind the order's handle, by the line it names. -/
theorem rasterQuery_behindHandle (h : s.Offers .rasterQuery tag p) {x : OrderHandle} {o : Order}
    (hr : byteAt p 0 = x.record.val) (hg : p.getD 1 0 = x.gen) (hx : s.order? x = some o) :
    exec (.rasterQuery tag) s = .next (match o.rasterLine p 2 with
      | .error e => (s.touchHandle o.session).answerNo tag .rasterQuery e
      | .ok (k, _) => match s.raster? x k with
        | none => (s.touchHandle o.session).answerNo tag .rasterQuery .noRaster
        | some y => (s.touchHandle o.session).answerOk tag .rasterQuery y.fields) := by
  have taking : exec (.rasterQuery tag) s = .next (s.take .rasterQuery tag (fun t p =>
    t.withAnyOrder tag p 0 (fun t h o => match o.rasterLine p 2 with
      | .error e => t.refuse tag e
      | .ok (k, _) => match t.raster? h k with
        | none => t.refuse tag .noRaster
        | some x => t.ok tag x.fields))) := rfl
  have read (k : Fin 16) : ((s.touchHandle o.session).holds tag).raster? x k = s.raster? x k := by
    unfold State.raster?
    exact congrArg (fun w : Spool => w.rasters.find? _) (State.ChangesOnly.touchHandle_op s o.session).spool
  rw [taking, h.take, withAnyOrder_of_order hr hg hx]
  refine congrArg _ ?_
  cases o.rasterLine p 2 with
  | error e => exact (h.touchedHandle o.session).refuse e
  | ok y =>
    dsimp only
    rw [read]
    cases s.raster? x y.1 with
    | none => exact (h.touchedHandle o.session).refuse _
    | some z => exact (h.touchedHandle o.session).ok _

theorem rasterLine_of_none {o : Order} {k : Fin 16} (hk : byteAt p 2 = k.val) (hl : o.lines.get k = none) :
    o.rasterLine p 2 = .error .noLine := by
  unfold Order.rasterLine
  simp only [fin?_eq_some hk, hl]

theorem rasterLine_of_line {o : Order} {k : Fin 16} (hk : byteAt p 2 = k.val) {l : Line} (hl : o.lines.get k = some l) :
    o.rasterLine p 2 = .ok (k, l) := by
  unfold Order.rasterLine
  simp only [fin?_eq_some hk, hl]

theorem rasterLine_of_noIndex {o : Order} (hk : 16 ≤ byteAt p 2) : o.rasterLine p 2 = .error .badValue := by
  unfold Order.rasterLine
  rw [fin?_eq_none hk]

/-- Settles O16: the four queries behind their handle checks. -/
theorem queriesOfASessionAndOfAnOrder : Obligations.QueriesOfASessionAndOfAnOrder := by
  unfold Obligations.QueriesOfASessionAndOfAnOrder
  refine ⟨fun s tag p x h hr hg hx => sessionQuery_answers h hr hg hx,
    fun s tag p x h hr hg hx hs => catalogueList_answers h hr hg hx hs,
    fun s tag p x o h hr hg hx => orderQuery_answers h hr hg hx, fun s tag p x o h hr hg hx => ?_⟩
  rw [rasterQuery_behindHandle h hr hg hx]
  refine ⟨fun hk => ?_, fun k hk => ?_⟩
  · rw [rasterLine_of_noIndex hk]
  · cases hl : o.lines.get k with
    | none => rw [rasterLine_of_none hk hl, if_pos rfl]
    | some l =>
      rw [rasterLine_of_line hk hl]
      exact congrArg _ (if_neg (Option.some_ne_none l)).symm

/-! ### SESSION_RESUME (R34) -/

theorem suspendPending_iff (s : State) (r : Fin 8) : s.suspendPending r = true ↔ ∃ i, s.sessionResolved r i = .suspend := by
  unfold State.suspendPending
  simp only [List.any_eq_true, decide_eq_true_iff, mem_allFin, true_and]

theorem touch_now (s : State) (r : Fin 8) : (s.touch r).now = s.now := (State.ChangesOnly.touch_op s r).now

theorem sessionResume_answers (h : s.Offers .sessionResume tag p) {x : SessionHandle} (hr : byteAt p 0 = x.record.val)
    (hg : p.getD 1 0 = x.gen) (hx : s.current x = true) (hs : (s.record x.record).state ∈ [.active, .suspended]) :
    exec (.sessionResume tag) s = .next (
      let t := s.touch x.record
      if (s.record x.record).state = .active then t.answerNo tag .sessionResume .badState
      else if (∃ i, s.sessionResolved x.record i = .suspend) ∨ s.conds.inService = false then
        t.answerNo tag .sessionResume .conditionPending
      else (t.setRecord x.record { t.record x.record with state := .active, timer := .running s.now }).answerOk tag
        .sessionResume []) := by
  have taking : exec (.sessionResume tag) s = .next (s.take .sessionResume tag (fun t p =>
    t.withSession .sessionResume tag p 0 (fun t h =>
      t.checked tag [(decide ((t.record h.record).state = .suspended), .badState),
        (!t.suspendPending h.record && t.conds.inService, .conditionPending)]
        ((t.setRecord h.record { t.record h.record with state := .active, timer := .running t.now }).ok tag [])))) := rfl
  have taken : sessionRefusal .sessionResume (s.record x.record).state = none := by
    simp only [List.mem_cons, List.not_mem_nil, or_false] at hs
    rcases hs with hs | hs <;> rw [hs] <;> rfl
  have ho := h.touched x.record
  have state : (((s.touch x.record).holds tag).record x.record).state = (s.record x.record).state := touch_state s x.record x.record
  have conds : ((s.touch x.record).holds tag).conds = s.conds := (State.ChangesOnly.touch_op s x.record).conds
  have pending : ((s.touch x.record).holds tag).suspendPending x.record = s.suspendPending x.record := by
    unfold State.suspendPending State.sessionResolved State.sessionSet
    rw [conds]
  rw [taking, h.take, withSession_taken hr hg hx taken]
  simp only [checked_cons, checked_nil, state, pending, conds, decide_eq_true_iff, Bool.and_eq_true, Bool.not_eq_true',
    ← suspendPending_iff]
  simp only [List.mem_cons, List.not_mem_nil, or_false] at hs
  rcases hs with hs | hs
  · simp only [hs, reduceCtorEq, if_false, if_true]
    exact congrArg _ (ho.refuse _)
  · simp only [hs, reduceCtorEq, if_false, if_true]
    by_cases hp : s.suspendPending x.record = true ∨ s.conds.inService = false
    · rw [if_pos hp, if_neg (by simpa [imp_iff_not_or] using hp)]
      exact congrArg _ (ho.refuse _)
    · rw [if_neg hp, if_pos (by simpa using hp)]
      have resumed := ho.sessions (State.ChangesOnly.setRecord_op _ x.record
        { (s.touch x.record).record x.record with state := .active, timer := .running s.now })
      refine congrArg _ (Eq.trans ?_ (resumed.ok []))
      show State.ok (State.setRecord _ _ { ((s.touch x.record).record x.record) with
        state := .active, timer := .running ((s.touch x.record).holds tag).now }) _ _ = _
      rw [show ((s.touch x.record).holds tag).now = s.now from touch_now s x.record]
      rfl

end Sys2Proof.Machine

/-! Conditions resolved, raised and reported (R161, R165 to R168), and the idle timer's expiry (R35). -/

namespace Sys2Proof.Machine

/-! ### Walks -/

/-- What every step of a walk keeps, the walk keeps. -/
theorem each_keeps {α : Type} {P : State → Prop} {f : State → α → State} (keeps : ∀ s a, P s → P (f s a)) {s : State} (hs : P s)
    (xs : List α) : P (s.each xs f) := by
  induction xs generalizing s with
  | nil => exact hs
  | cons a rest ih => exact ih (keeps s a hs)

/-- What the step of one item brings about and every step keeps, a walk over that item brings about. -/
theorem each_establishes {α : Type} {P : State → Prop} {f : State → α → State} (keeps : ∀ s a, P s → P (f s a)) {a : α}
    (brings : ∀ s, P (f s a)) {xs : List α} (ha : a ∈ xs) (s : State) : P (s.each xs f) := by
  induction xs generalizing s with
  | nil => exact absurd ha List.not_mem_nil
  | cons b rest ih =>
    rcases List.mem_cons.1 ha with rfl | hr
    · exact each_keeps keeps (brings s) rest
    · exact ih hr (f s b)

theorem each_congr {α : Type} {f g : State → α → State} (h : ∀ s a, f s a = g s a) (s : State) (xs : List α) :
    s.each xs f = xs.foldl g s := by
  have same : f = g := funext fun s => funext fun a => h s a
  rw [same]
  rfl

/-! ### The tables of R165 -/

theorem kioskTable_eq (i : Fin 16) (m : Mode) : kioskTable i m =
    if i ∈ [0, 1, 12, 15] ∧ m = .customer then .lockout
    else if (i = 1 ∨ i = 13) ∧ m = .service then .status
    else .notify := by
  cases m <;> revert i <;> decide

theorem sessionTable_eq (i : Fin 8) (m : Mode) :
    sessionTable i m = if i = 6 ∨ (i = 5 ∧ m = .customer) then .suspend else .notify := by
  cases m <;> revert i <;> decide

theorem acting_iff (a : Action) : a.acting = true ↔ a ∈ [.notify, .suspend, .lockout] := by
  cases a <;> decide

/-- A bit begins to act. -/
theorem beginsToAct_iff (new old : Action) : (new.acting && !old.acting) = true ↔
    new ∈ [.notify, .suspend, .lockout] ∧ ¬ old ∈ [.notify, .suspend, .lockout] := by
  rw [Bool.and_eq_true, Bool.not_eq_true', ← acting_iff, ← acting_iff, Bool.not_eq_true]

/-! ### Resolution (R166) -/

variable (s : State)

theorem resolveKiosk_eq (lock : State → State) (i : Fin 16) (g : Trigger) :
    (let old := s.conds.kiosk.recorded.get i;
    let new := s.kioskResolved i;
    let acts : Action → Prop := fun a => a ∈ [.notify, .suspend, .lockout];
    let t : State := { s with conds := { s.conds with kiosk := { s.conds.kiosk with recorded := put s.conds.kiosk.recorded i new } } };
    let u := if acts new ∧ ¬ acts old then
      t.notify 0xCC ([0] ++ sessionBytes none ++ le1 i.val ++ le1 new.code ++ le1 g.code ++ g.detail) else t;
    State.resolveKiosk lock g s i = if new = .lockout ∧ old ≠ .lockout then lock u else u) := by
  unfold State.resolveKiosk
  simp only [beginsToAct_iff]
  rfl

theorem resolveSession_eq (susp : State → Fin 8 → State) (r i : Fin 8) (g : Trigger) :
    (let old := (s.sessionSet r).recorded.get i;
    let new := s.sessionResolved r i;
    let acts : Action → Prop := fun a => a ∈ [.notify, .suspend, .lockout];
    let t := s.setSessionSet r { s.sessionSet r with recorded := put (s.sessionSet r).recorded i new };
    let u := if acts new ∧ ¬ acts old then
      t.notify 0xCC ([1] ++ (s.handleOf r).bytes ++ le1 i.val ++ le1 new.code ++ le1 g.code ++ g.detail) else t;
    State.resolveSession susp g r s i = if new = .suspend ∧ old ≠ .suspend then susp u r else u) := by
  unfold State.resolveSession
  simp only [beginsToAct_iff]
  rfl

/-- Where a bit does not resolve to LOCKOUT, it does not matter what a lockout would do. -/
theorem resolveKiosk_of_ne_lockout {i : Fin 16} (h : s.kioskResolved i ≠ .lockout) (lock lock' : State → State) (g : Trigger) :
    State.resolveKiosk lock g s i = State.resolveKiosk lock' g s i := by
  unfold State.resolveKiosk
  simp only [h, false_and, if_false]

/-- Only K0, K1, K12 and K15 resolve to LOCKOUT. -/
theorem kioskResolved_ne_lockout {i : Fin 16} (hi : i ∉ [0, 1, 12, 15]) : s.kioskResolved i ≠ .lockout := by
  unfold State.kioskResolved CondSet.resolved
  rw [kioskTable_eq]
  simp only [hi, false_and, if_false]
  split_ifs <;> simp

/-! ### Raises and level reports (R161) -/

theorem raiseKiosk_eq (i : Fin 16) (detail : List Byte) : s.raiseKiosk i detail =
    (if s.conds.kiosk.bits.getLsbD i.val = true then s
    else State.resolveKiosk State.lockout (.raised detail)
      { s with conds := { s.conds with kiosk := { s.conds.kiosk with bits := setBit s.conds.kiosk.bits i } } } i) := rfl

theorem reportLevel_present (i : Fin 16) : s.reportLevel i true =
    (if s.conds.kiosk.bits.getLsbD i.val = true then s
    else State.resolveKiosk State.lockout (.raised [])
      { s with conds := { s.conds with kiosk := { s.conds.kiosk with bits := setBit s.conds.kiosk.bits i } } } i) := rfl

theorem reportLevel_absent (i : Fin 16) : s.reportLevel i false =
    { s with conds := { s.conds with kiosk := { s.conds.kiosk with
      bits := clearBit s.conds.kiosk.bits i, recorded := put s.conds.kiosk.recorded i .unset } } } := rfl

theorem raiseSession_eq (h : SessionHandle) (i : Fin 8) (detail : List Byte) : s.raiseSession h i detail = (
    let set := s.sessionSet h.record;
    if s.current h = false ∨ set.bits.getLsbD i.val = true then s
    else State.resolveSession State.suspend (.raised detail) h.record
      (s.setSessionSet h.record { set with bits := setBit set.bits i }) i) := by
  unfold State.raiseSession State.raiseSessionWith
  cases s.current h <;> simp only [Bool.false_eq_true, Bool.true_eq_false, if_false, if_true, true_or, false_or]
  rfl

theorem raiseKioskQuiet_eq {i : Fin 16} (hi : i ∈ [2, 5, 6, 14]) (detail : List Byte) :
    s.raiseKioskQuiet i detail = s.raiseKiosk i detail := by
  have quiet : i ∉ [0, 1, 12, 15] := by revert i; decide
  unfold State.raiseKioskQuiet State.raiseKiosk State.raiseKioskWith
  rw [resolveKiosk_of_ne_lockout _ (kioskResolved_ne_lockout _ quiet) id State.lockout]

theorem reportLevelQuiet_eq {i : Fin 16} (hi : i ∈ [3, 4, 7, 8, 9, 10, 11, 13]) (present : Bool) :
    s.reportLevelQuiet i present = s.reportLevel i present := by
  have quiet : i ∉ [0, 1, 12, 15] := by revert i; decide
  unfold State.reportLevelQuiet State.reportLevel State.reportLevelWith
  rw [resolveKiosk_of_ne_lockout _ (kioskResolved_ne_lockout _ quiet) id State.lockout]

/-! ### The lines (R173, R184) -/

theorem wake_iff : s.wake = true ↔ s.power.latches ≠ 0 := decide_eq_true_iff

theorem attn_iff : s.attn = true ↔ (∃ i, s.kioskResolved i ∈ [.notify, .suspend, .lockout]) ∨
    (∃ r i, s.sessionResolved r i ∈ [.notify, .suspend, .lockout]) ∨ s.power.latches ≠ 0 := by
  unfold State.attn
  simp only [Bool.or_eq_true, List.any_eq_true, mem_allFin, true_and, acting_iff, wake_iff, or_assoc]

/-! ### Suspension (R33, R168) -/

/-- A session's record at its suspension. -/
def SessionRecord.suspended (x : SessionRecord) (now : Nat) : SessionRecord :=
  { x with state := .suspended, timer := .stopped (x.timer.count now) }

theorem suspendFor_eq (r : Fin 8) (cause : SessionCause) (gate : GateCause) : s.suspendFor r cause gate = (
    let x := s.record r;
    let t := s.setRecord r { x with state := .suspended, timer := .stopped (x.timer.count s.now) };
    if x.state = .active then
      (t.notify 0xC1 (le1 r.val ++ [x.gen] ++ [2] ++ le1 cause.code)).closeStationGate x.station (some gate)
    else s) := by
  unfold State.suspendFor
  dsimp only
  rw [sessionNotice_eq (State.record_setRecord ..)]
  rfl

theorem record_congr {s t : State} (h : t.sessions = s.sessions) (q : Fin 8) : t.record q = s.record q := by
  unfold State.record
  rw [h]

theorem sessionSet_congr {s t : State} (h : t.conds = s.conds) (q : Fin 8) : t.sessionSet q = s.sessionSet q := by
  unfold State.sessionSet
  rw [h]

/-- The item of a table after one item was replaced, by the item read. -/
theorem get_put_read {α : Type} {n : Nat} (v : Vector α n) (i j : Fin n) (x : α) :
    (put v i x).get j = if j = i then x else v.get j := by
  simp only [get_put, eq_comm (a := i)]

theorem record_setRecord_eq (r q : Fin 8) (x : SessionRecord) :
    (s.setRecord r x).record q = if q = r then x else s.record q := get_put_read _ _ _ _

theorem sessionSet_setSessionSet_eq (r q : Fin 8) (x : CondSet 8) :
    (s.setSessionSet r x).sessionSet q = if q = r then x else s.sessionSet q := get_put_read _ _ _ _

theorem suspendFor_record (r q : Fin 8) (cause : SessionCause) (gate : GateCause) : (s.suspendFor r cause gate).record q =
    if q = r ∧ (s.record r).state = .active then (s.record r).suspended s.now else s.record q := by
  rw [suspendFor_eq]
  dsimp only
  by_cases ha : (s.record r).state = .active
  · rw [if_pos ha, record_congr (State.ChangesOnly.closeStationGate_op _ _ _).sessions]
    simp only [ha, and_true]
    exact record_setRecord_eq s r q _
  · rw [if_neg ha, if_neg (fun h => ha h.2)]

/-- A bit of a session's set resolved: its action is recorded, at most a notice goes out, and then at most the SUSPEND action is
taken. -/
theorem resolveSession_cases (susp : State → Fin 8 → State) (g : Trigger) (r i : Fin 8) : ∃ u, s.ChangesOnly u [.conds, .link] ∧
    u.conds = (s.setSessionSet r { s.sessionSet r with
      recorded := put (s.sessionSet r).recorded i (s.sessionResolved r i) }).conds ∧
    State.resolveSession susp g r s i =
      if s.sessionResolved r i = .suspend ∧ (s.sessionSet r).recorded.get i ≠ .suspend then susp u r else u := by
  have recorded := State.ChangesOnly.setSessionSet (.refl s [.conds, .link]) r
    { s.sessionSet r with recorded := put (s.sessionSet r).recorded i (s.sessionResolved r i) } (by decide)
  refine ⟨_, ?_, ?_, resolveSession_eq s susp r i g⟩
  · split_ifs
    · exact recorded.notify _ _ (by decide)
    · exact recorded
  · split_ifs <;> rfl

/-- The record of its session alone can change then, and only to SUSPENDED. -/
theorem resolveSession_record (g : Trigger) (r i q : Fin 8) : (State.resolveSession State.suspend g r s i).record q =
    if q = r ∧ (s.record r).state = .active ∧ s.sessionResolved r i = .suspend ∧ (s.sessionSet r).recorded.get i ≠ .suspend
    then (s.record r).suspended s.now else s.record q := by
  obtain ⟨u, hu, -, eq⟩ := resolveSession_cases s State.suspend g r i
  rw [eq]
  split_ifs with suspends hq hq
  · exact (suspendFor_record u r q _ _).trans (by rw [record_congr hu.sessions, hu.now, if_pos ⟨hq.1, hq.2.1⟩])
  · refine (suspendFor_record u r q _ _).trans ?_
    rw [record_congr hu.sessions, record_congr hu.sessions, if_neg (fun h => hq ⟨h.1, h.2, suspends⟩)]
  · exact absurd hq.2.2 suspends
  · exact record_congr hu.sessions q

theorem resolveSession_sessionSet (g : Trigger) (r i q : Fin 8) : (State.resolveSession State.suspend g r s i).sessionSet q =
    if q = r then { s.sessionSet r with recorded := put (s.sessionSet r).recorded i (s.sessionResolved r i) }
    else s.sessionSet q := by
  obtain ⟨u, -, hc, eq⟩ := resolveSession_cases s State.suspend g r i
  rw [← sessionSet_setSessionSet_eq, ← sessionSet_congr hc, eq]
  split_ifs
  · exact sessionSet_congr (State.ChangesOnly.suspend_op u r).conds q
  · rfl

/-! ### A session's condition raised (R161) -/

theorem setBit_of_getLsbD {n : Nat} {b : BitVec n} {i : Fin n} (h : b.getLsbD i.val = true) : setBit b i = b := by
  refine BitVec.eq_of_getLsbD_eq (fun j _ => ?_)
  rw [getLsbD_setBit]
  by_cases hj : j = i.val
  · rw [hj, h, Bool.or_true]
  · rw [decide_eq_false hj, Bool.false_or]

variable {s} {h : SessionHandle}

/-- A raise on a current session sets the bit, and of the other sets none. -/
theorem raiseSession_bits (hc : s.current h = true) (i : Fin 8) (detail : List Byte) :
    ((s.raiseSession h i detail).sessionSet h.record).bits = setBit (s.sessionSet h.record).bits i := by
  rw [raiseSession_eq]
  dsimp only
  split_ifs with hs
  · rw [setBit_of_getLsbD (hs.resolve_left (by rw [hc]; decide))]
  · rw [resolveSession_sessionSet, if_pos rfl, State.sessionSet_setSessionSet]

theorem raiseSession_sessionSet_ne {q : Fin 8} (hq : q ≠ h.record) (i : Fin 8) (detail : List Byte) :
    (s.raiseSession h i detail).sessionSet q = s.sessionSet q := by
  rw [raiseSession_eq]
  dsimp only
  split_ifs
  · rfl
  · rw [resolveSession_sessionSet, if_neg hq, sessionSet_setSessionSet_eq, if_neg hq]

/-- The action a clear bit would resolve to, were it set. -/
def CondSet.wouldResolve (c : CondSet 8) (m : Mode) (i : Fin 8) : Action :=
  if c.mask.getLsbD i.val = false then .hold else sessionTable i m

/-- A raise suspends an ACTIVE session where a clear bit comes to SUSPEND from another action. -/
theorem raiseSession_record (hc : s.current h = true) (i q : Fin 8) (detail : List Byte) :
    (s.raiseSession h i detail).record q =
      if q = h.record ∧ (s.record h.record).state = .active ∧ (s.sessionSet h.record).bits.getLsbD i.val = false ∧
        (s.sessionSet h.record).wouldResolve s.conds.mode i = .suspend ∧
        (s.sessionSet h.record).recorded.get i ≠ .suspend
      then (s.record h.record).suspended s.now else s.record q := by
  rw [raiseSession_eq]
  dsimp only
  rw [hc]
  cases hb : (s.sessionSet h.record).bits.getLsbD i.val with
  | true => simp
  | false =>
    have resolved : (s.setSessionSet h.record { s.sessionSet h.record with
        bits := setBit (s.sessionSet h.record).bits i }).sessionResolved h.record i =
        (s.sessionSet h.record).wouldResolve s.conds.mode i := by
      unfold State.sessionResolved CondSet.resolved CondSet.wouldResolve
      rw [State.sessionSet_setSessionSet, getLsbD_setBit, decide_eq_true rfl, Bool.true_or, if_neg Bool.true_eq_false.mp]
      rfl
    rw [if_neg (by decide), resolveSession_record, resolved, State.sessionSet_setSessionSet]
    simp only [true_and]
    rfl

/-! ### The idle timer's expiry (R35) -/

theorem idleExpires_eq (s : State) (r : Fin 8) : s.idleExpires r =
    if (s.record r).state = .active then (timerRestarted s r).raiseSession { record := r, gen := (s.record r).gen } 5 []
    else s := by
  rw [← touch_eq]
  rfl

theorem touch_record_of_running {r : Fin 8} {since : Nat} (ht : (s.record r).timer = .running since) (q : Fin 8) :
    (s.touch r).record q = if q = r then { s.record r with timer := .running s.now } else s.record q := by
  unfold State.touch
  rw [ht]
  exact record_setRecord_eq s r q _

/-- The expiry of an ACTIVE session's running timer, by what IDLE_TIMEOUT resolves to. -/
theorem idleExpires_active {r : Fin 8} (ha : (s.record r).state = .active) {since : Nat}
    (ht : (s.record r).timer = .running since) (q : Fin 8) :
    (s.idleExpires r).record q = (if q = r ∧ (s.sessionSet r).bits.getLsbD 5 = false ∧
        (s.sessionSet r).wouldResolve s.conds.mode 5 = .suspend ∧ (s.sessionSet r).recorded.get 5 ≠ .suspend
      then { s.record r with state := .suspended, timer := .stopped 0 }
      else if q = r then { s.record r with timer := .running s.now } else s.record q) ∧
    (s.idleExpires r).sessionSet q = (if q = r then (s.idleExpires r).sessionSet r else s.sessionSet q) ∧
    ((s.idleExpires r).sessionSet r).bits = setBit (s.sessionSet r).bits 5 := by
  have touched := touch_record_of_running ht
  have frame := State.ChangesOnly.touch_op s r
  have current : (s.touch r).current { record := r, gen := (s.record r).gen } = true := by
    rw [current_iff]
    dsimp only
    rw [touched, if_pos rfl]
    exact ⟨by rw [ha]; decide, rfl⟩
  have eq : s.idleExpires r = (s.touch r).raiseSession { record := r, gen := (s.record r).gen } 5 [] := by
    rw [idleExpires_eq, if_pos ha, touch_eq]
  have sets := sessionSet_congr frame.conds
  refine ⟨?_, ?_, ?_⟩
  · have raised := raiseSession_record current 5 q []
    dsimp only at raised
    rw [← eq, touched, touched, if_pos rfl, sets, frame.now, frame.conds, if_congr (and_congr_right fun _ => and_iff_right ha) rfl rfl] at raised
    rw [raised]
    simp only [SessionRecord.suspended, Timer.count, Nat.sub_self]
    rfl
  · split_ifs with hq
    · rw [hq]
    · rw [eq, raiseSession_sessionSet_ne hq, sets]
  · rw [eq, ← sets]
    exact raiseSession_bits current 5 []

/-- Settles O18: SESSION_RESUME behind its checks, and the expiry by what IDLE_TIMEOUT resolves to. -/
theorem sessionsResumeAndTheirTimersExpire : Obligations.SessionsResumeAndTheirTimersExpire := by
  unfold Obligations.SessionsResumeAndTheirTimersExpire
  refine ⟨fun s tag p x h hr hg hx hs => sessionResume_answers h hr hg hx hs, fun s r => ⟨fun ha => ?_, fun ha since ht => ?_⟩⟩
  · exact congrArg _ (if_neg ha)
  · have record q := (idleExpires_active ha ht q).1
    have set q := (idleExpires_active ha ht q).2.1
    refine ⟨s.idleExpires r, rfl, ?_, (idleExpires_active ha ht r).2.2, fun hb hm he hu => ?_, fun he => ?_, fun q hq => ?_,
      (State.ChangesOnly.idleExpires_op s r).mono (by decide)⟩
    · rw [record, if_pos rfl]
      split_ifs
      · rfl
      · exact Nat.sub_self s.now
    · have suspends : (s.sessionSet r).wouldResolve s.conds.mode 5 = .suspend := by
        unfold CondSet.wouldResolve
        rw [hm, if_neg (by rw [show ((5 : Fin 8).val) = 5 from rfl, he]; decide)]
        rfl
      rw [record, if_pos ⟨rfl, hb, suspends, by rw [hu]; decide⟩]
    · have holds : (s.sessionSet r).wouldResolve s.conds.mode 5 = .hold := if_pos he
      rw [record, if_neg (by rw [holds]; simp), if_pos rfl]
      exact ha
    · exact ⟨by rw [record, if_neg (fun h => hq h.1), if_neg hq], by rw [set, if_neg hq]⟩

end Sys2Proof.Machine

/-! What closes gates, moves credit and ends authorisations leaves of the cash units and the terminal, and the lockout (R33, R167). -/

namespace Sys2Proof.Machine

/-! ### Gates, escrows and the terminal -/

/-- The terminal, the escrows and the gates: what credit that moves and sessions that settle leave as they were. -/
structure State.TillKept (s t : State) : Prop where
  terminal : t.money.terminal = s.money.terminal
  escrow : ∀ u, (t.unit u).escrow = (s.unit u).escrow
  gate : ∀ u, (t.unit u).gateOpen = (s.unit u).gateOpen

namespace State.TillKept

variable {s t u : State}

theorem refl (s : State) : s.TillKept s := ⟨rfl, fun _ => rfl, fun _ => rfl⟩

theorem trans (h : s.TillKept t) (k : t.TillKept u) : s.TillKept u :=
  ⟨k.terminal.trans h.terminal, fun x => (k.escrow x).trans (h.escrow x), fun x => (k.gate x).trans (h.gate x)⟩

theorem of_units (ht : t.money.terminal = s.money.terminal) (hu : t.money.units = s.money.units) : s.TillKept t := by
  have unit (x : Fin 2) : t.unit x = s.unit x := by
    unfold State.unit
    rw [hu]
  exact ⟨ht, fun x => by rw [unit], fun x => by rw [unit]⟩

theorem of_money (h : t.money = s.money) : s.TillKept t := of_units (by rw [h]) (by rw [h])

theorem refreshGate (s : State) (x : Fin 2) : s.TillKept (s.refreshGate x) := by
  unfold State.refreshGate
  split_ifs
  · have same (y : Fin 2) : ((s.setUnit x { s.unit x with coinSet := s.coinSetOf x, billSet := s.billSetOf x }).unit y).escrow =
        (s.unit y).escrow ∧ ((s.setUnit x { s.unit x with coinSet := s.coinSetOf x, billSet := s.billSetOf x }).unit y).gateOpen =
        (s.unit y).gateOpen := by
      by_cases hy : x = y
      · rw [← hy, State.unit_setUnit]
        exact ⟨rfl, rfl⟩
      · rw [State.unit_setUnit_ne _ hy]
        exact ⟨rfl, rfl⟩
    exact ⟨rfl, fun y => (same y).1, fun y => (same y).2⟩
  · exact refl s

theorem addCredit (s : State) (r : Fin 8) (v : Nat) : s.TillKept (s.addCredit r v) :=
  have written : s.TillKept (s.setAccount r { s.account r with credit := (s.account r).credit + v }) := of_units rfl rfl
  (written.trans (refreshGate _ 0)).trans (refreshGate _ 1)

theorem goIdle (s : State) (r : Fin 8) (slip : Option (Nat × BitVec 16)) : s.TillKept (s.goIdle r slip) := by
  rw [goIdle_eq_idled]
  exact of_units rfl rfl

theorem issueSlip (s : State) (h : Option SessionHandle) (amount : Nat) (cause : SlipCause) :
    s.TillKept (s.issueSlip h amount cause) := of_units rfl rfl

theorem settle (s : State) (r : Fin 8) : s.TillKept (s.settle r) := by
  rw [settle_eq]
  dsimp only
  split_ifs
  · exact goIdle s r none
  · exact (issueSlip s _ _ _).trans (goIdle _ r _)
  · exact of_money rfl
  · exact of_money rfl

theorem leaveClosing (s : State) (r : Fin 8) : s.TillKept (s.leaveClosing r) := by
  rw [leaveClosing_eq]
  dsimp only
  split_ifs
  · refine trans (of_money ?_) (settle _ r)
    rfl
  · exact of_money rfl

theorem closingExitOf (s : State) (h : Option SessionHandle) : s.TillKept (s.closingExitOf h) := by
  cases h with
  | none => exact refl s
  | some h =>
    rw [closingExitOf_some]
    split_ifs
    · exact leaveClosing s h.record
    · exact refl s

end State.TillKept

/-- What keeps the escrows and the terminal keeps the money in flight (R27). -/
theorem moneyInFlight_kept {s t : State} (h : s.TillKept t) (x : SessionHandle) : t.moneyInFlight x = s.moneyInFlight x := by
  unfold State.moneyInFlight
  rw [h.terminal, h.escrow, h.escrow]

/-! ### Gates closed (R106) -/

theorem giveBackHeld_gate (s : State) (u v : Fin 2) : ((s.giveBackHeld u).unit v).gateOpen = (s.unit v).gateOpen := by
  unfold State.giveBackHeld
  split
  · by_cases hv : u = v
    · subst hv
      refine (congrArg CashUnit.gateOpen (State.unit_setUnit s u _)).trans ?_
      rfl
    · exact congrArg CashUnit.gateOpen (State.unit_setUnit_ne s hv _)
  · rfl

theorem giveBackHeld_terminal (s : State) (u : Fin 2) : (s.giveBackHeld u).money.terminal = s.money.terminal := by
  unfold State.giveBackHeld
  split <;> rfl

/-- The gate of a unit closed, but for the notice: INHIBIT, RETURN for a HELD bill, the challenge with the last gate. -/
def State.gateShut (s : State) (u : Fin 2) : State :=
  let t := ((s.setUnit u { s.unit u with gateOpen := false, coinSet := 0, billSet := 0 }).send (.inhibit u)).giveBackHeld u
  if t.anyGateOpen then t else t.stopChallenge

theorem closeGate_cases (s : State) (u : Fin 2) (cause : Option GateCause) : s.closeGate u cause =
    if (s.unit u).gateOpen then
      match cause with
      | some c => (s.gateShut u).notify 0xC7 (le1 u.val ++ le1 c.code)
      | none => s.gateShut u
    else s := rfl

theorem gateShut_gate (s : State) (u v : Fin 2) : ((s.gateShut u).unit v).gateOpen = (decide (v ≠ u) && (s.unit v).gateOpen) := by
  have shut : (((s.setUnit u { s.unit u with gateOpen := false, coinSet := 0, billSet := 0 }).send (.inhibit u)).unit v).gateOpen =
      (decide (v ≠ u) && (s.unit v).gateOpen) := by
    by_cases hv : u = v
    · subst hv
      rw [decide_eq_false (not_not_intro rfl)]
      exact congrArg CashUnit.gateOpen (State.unit_setUnit s u _)
    · rw [decide_eq_true (Ne.symm hv), Bool.true_and]
      exact congrArg CashUnit.gateOpen (State.unit_setUnit_ne s hv _)
  unfold State.gateShut
  dsimp only
  split_ifs
  · exact (giveBackHeld_gate _ u v).trans shut
  · exact (giveBackHeld_gate _ u v).trans shut

theorem gateShut_terminal (s : State) (u : Fin 2) : (s.gateShut u).money.terminal = s.money.terminal := by
  unfold State.gateShut
  dsimp only
  split_ifs
  · exact giveBackHeld_terminal _ u
  · exact giveBackHeld_terminal _ u

theorem closeGate_gate (s : State) (u v : Fin 2) (cause : Option GateCause) :
    ((s.closeGate u cause).unit v).gateOpen = (decide (v ≠ u) && (s.unit v).gateOpen) := by
  rw [closeGate_cases]
  split_ifs with hg
  · cases cause <;> exact gateShut_gate s u v
  · by_cases hv : v = u
    · rw [hv, Bool.eq_false_iff.2 hg, Bool.and_false]
    · rw [decide_eq_true hv, Bool.true_and]

theorem closeGate_terminal (s : State) (u : Fin 2) (cause : Option GateCause) :
    (s.closeGate u cause).money.terminal = s.money.terminal := by
  rw [closeGate_cases]
  split_ifs
  · cases cause <;> exact gateShut_terminal s u
  · rfl

theorem closeStationGate_terminal (s : State) (st : Option Station) (cause : Option GateCause) :
    (s.closeStationGate st cause).money.terminal = s.money.terminal := by
  unfold State.closeStationGate
  split
  · exact closeGate_terminal s _ _
  · rfl

theorem closeGates_gate (s : State) (cause : GateCause) (v : Fin 2) : ((s.closeGates cause).unit v).gateOpen = false := by
  unfold State.closeGates
  rw [closeGate_gate, closeGate_gate]
  revert v
  simp [Fin.forall_fin_two]

/-! ### Sessions that settle -/

theorem idled_record (s : State) (r q : Fin 8) (slip : Option (Nat × BitVec 16)) :
    (s.goIdle r slip).record q = if q = r then (s.record r).idled slip else s.record q := by
  rw [goIdle_eq_idled]
  exact get_put_read _ _ _ _

/-- A settlement moves the record it settles to IDLE or SETTLING and leaves every other. -/
theorem settle_record (s : State) (r q : Fin 8) : (s.settle r).record q = s.record q ∧ q ≠ r ∨ q = r ∧
    ((∃ slip, (s.settle r).record q = (s.record r).idled slip) ∨
      (s.settle r).record q = { s.record r with state := .settling }) := by
  rw [settle_eq]
  dsimp only
  by_cases hq : q = r
  · refine .inr ⟨hq, ?_⟩
    split_ifs
    · exact .inl ⟨_, (idled_record s r q _).trans (if_pos hq)⟩
    · exact .inl ⟨_, (idled_record _ r q _).trans (if_pos hq)⟩
    · exact .inr (hq ▸ get_put_same _ _ _)
    · exact .inr (hq ▸ get_put_same _ _ _)
  · refine .inl ⟨?_, hq⟩
    split_ifs
    · exact (idled_record s r q _).trans (if_neg hq)
    · exact (idled_record _ r q _).trans (if_neg hq)
    · exact get_put_ne _ (Ne.symm hq) _
    · exact get_put_ne _ (Ne.symm hq) _

theorem settle_front (s : State) (r : Fin 8) (st : Station) : (s.settle r).front st = s.front st := by
  have fronts (t : State) (slip : Option (Nat × BitVec 16)) : (t.goIdle r slip).front st = t.front st := by
    rw [goIdle_eq_idled]
    rfl
  rw [settle_eq]
  dsimp only
  split_ifs
  · exact fronts s _
  · exact fronts _ _
  · rfl
  · rfl

/-- A session out of CLOSING: DRAINING, SETTLING or IDLE, without a station (R27, R28). -/
structure SessionRecord.LeftClosing (x y : SessionRecord) : Prop where
  state : y.state ∈ [.draining, .settling, .idle]
  gen : y.gen = x.gen
  station : y.station = none

theorem leaveClosing_record (s : State) (r : Fin 8) : (s.record r).LeftClosing ((s.leaveClosing r).record r) ∧
    ∀ q, q ≠ r → (s.leaveClosing r).record q = s.record q := by
  rw [leaveClosing_eq]
  dsimp only
  generalize ht : ({ s with sessions := { s.sessions with
      records := put s.sessions.records r { s.record r with station := none }
      fronts := _ } } : State) = t
  have record (q : Fin 8) : t.record q = if q = r then { s.record r with station := none } else s.record q := by
    rw [← ht]
    exact get_put_read _ _ _ _
  split_ifs
  · refine ⟨?_, fun q hq => ?_⟩
    · rcases settle_record t r r with ⟨-, h⟩ | ⟨-, ⟨slip, h⟩ | h⟩
      · exact absurd rfl h
      · rw [h, record, if_pos rfl]
        exact ⟨by simp [SessionRecord.idled], rfl, rfl⟩
      · rw [h, record, if_pos rfl]
        exact ⟨by simp, rfl, rfl⟩
    · rcases settle_record t r q with ⟨h, -⟩ | ⟨h, -⟩
      · rw [h, record, if_neg hq]
      · exact absurd h hq
  · have drains (q : Fin 8) : ((t.setRecord r { s.record r with station := none, state := .draining }).notify 0xC1
        (le1 r.val ++ [(s.record r).gen] ++ [4, 2])).record q =
        if q = r then { s.record r with station := none, state := .draining } else t.record q := by
      rw [record_congr (State.ChangesOnly.notify_op _ _ _).sessions, record_setRecord_eq]
    refine ⟨?_, fun q hq => ?_⟩
    · rw [drains, if_pos rfl]
      exact ⟨by simp, rfl, rfl⟩
    · rw [drains, if_neg hq, record, if_neg hq]

theorem leaveClosing_front (s : State) (r : Fin 8) (st : Station) : (s.leaveClosing r).front st =
    if (s.record r).station = some st then none else s.front st := by
  have fronts (x : Option Station) : (match x with
      | some y => put s.sessions.fronts y.index none
      | none => s.sessions.fronts).get st.index = if x = some st then none else s.front st := by
    cases x with
    | none => rfl
    | some y =>
      rw [get_put]
      refine if_congr ?_ rfl rfl
      cases y <;> cases st <;> simp [Station.index]
  rw [leaveClosing_eq, ← fronts]
  dsimp only
  split_ifs
  · exact settle_front _ r st
  · rfl

/-- The test for the way out of CLOSING leaves every record, or takes a CLOSING one out. -/
theorem closingExitOf_record (s : State) (h : Option SessionHandle) (q : Fin 8) :
    (s.closingExitOf h).record q = s.record q ∨
      (s.record q).state = .closing ∧ (s.record q).LeftClosing ((s.closingExitOf h).record q) := by
  cases h with
  | none => exact .inl rfl
  | some h =>
    rw [closingExitOf_some]
    split_ifs with hc
    · by_cases hq : q = h.record
      · subst hq
        exact .inr ⟨hc.2.1, (leaveClosing_record s h.record).1⟩
      · exact .inl ((leaveClosing_record s h.record).2 q hq)
    · exact .inl rfl

/-! ### What ends an authorisation leaves of the sessions -/

/-- The sessions stand where they stood: the state, the generation and the station of each record, and the front sessions. -/
structure State.SessionsStand (s t : State) : Prop where
  state : ∀ q, (t.record q).state = (s.record q).state
  gen : ∀ q, (t.record q).gen = (s.record q).gen
  station : ∀ q, (t.record q).station = (s.record q).station
  fronts : t.sessions.fronts = s.sessions.fronts

namespace State.SessionsStand

variable {s t u : State}

theorem trans (h : s.SessionsStand t) (k : t.SessionsStand u) : s.SessionsStand u :=
  ⟨fun q => (k.state q).trans (h.state q), fun q => (k.gen q).trans (h.gen q), fun q => (k.station q).trans (h.station q),
    k.fronts.trans h.fronts⟩

theorem of_sessions (h : t.sessions = s.sessions) : s.SessionsStand t :=
  ⟨fun q => by rw [record_congr h], fun q => by rw [record_congr h], fun q => by rw [record_congr h], by rw [h]⟩

theorem refl (s : State) : s.SessionsStand s := of_sessions rfl

/-- A record replaced by one with the same state, generation and station. -/
theorem setRecord (s : State) (r : Fin 8) (x : SessionRecord) (hs : x.state = (s.record r).state) (hg : x.gen = (s.record r).gen)
    (ht : x.station = (s.record r).station) : s.SessionsStand (s.setRecord r x) := by
  refine ⟨fun q => ?_, fun q => ?_, fun q => ?_, rfl⟩ <;>
    (rw [record_setRecord_eq]; split_ifs with hq) <;> simp only [hq, hs, hg, ht]

theorem touch (s : State) (r : Fin 8) : s.SessionsStand (s.touch r) := by
  unfold State.touch
  split
  · exact setRecord s r _ rfl rfl rfl
  · exact refl s

theorem touchHandle (s : State) (h : SessionHandle) : s.SessionsStand (s.touchHandle h) := by
  unfold State.touchHandle
  split_ifs
  · exact touch s h.record
  · exact refl s

theorem clearUncommitted (s : State) (h : SessionHandle) (o : OrderHandle) : s.SessionsStand (s.clearUncommitted h o) := by
  unfold State.clearUncommitted
  split_ifs
  · exact setRecord s h.record _ rfl rfl rfl
  · exact refl s

/-- The cancel of an order clears its session's field and no more of the sessions. -/
theorem cancelOrder (s : State) (h : OrderHandle) (o : Order) : s.SessionsStand (s.cancelOrder h o) := by
  have freed := State.ChangesOnly.each (.refl s [.spool, .link, .conds, .catalogue]) o.used (fun t x => t.freeRaster h x.1)
    (fun v x => (State.ChangesOnly.freeRaster_op v h x.1).mono (by decide))
  have fallen := freed.each o.used (fun t x => t.refFalls x.2.image)
    (fun v x => (State.ChangesOnly.refFalls_op v x.2.image).mono (by decide))
  unfold State.cancelOrder
  exact ((of_sessions fallen.sessions).trans (clearUncommitted _ o.session h)).trans
    (of_sessions (State.ChangesOnly.setOrderRecord_op _ _ _).sessions)

/-- Where the sessions stand, the same handles are current. -/
theorem current (h : s.SessionsStand t) (x : SessionHandle) : t.current x = s.current x := by
  unfold State.current
  rw [h.state, h.gen]

end State.SessionsStand

/-! ### What ends an authorisation leaves of the service state -/

theorem reportLevelQuiet_inService (s : State) (i : Fin 16) (present : Bool) :
    (s.reportLevelQuiet i present).conds.inService = s.conds.inService := by
  have resolved (t : State) : (State.resolveKiosk id (.raised []) t i).conds.inService = t.conds.inService := by
    rw [resolveKiosk_eq t id i (.raised []), id, ite_self]
    split_ifs <;> rfl
  cases present with
  | false => rfl
  | true =>
    unfold State.reportLevelQuiet State.reportLevelWith
    rw [if_pos rfl]
    split_ifs
    · rfl
    · exact resolved _

theorem freeRaster_inService (s : State) (o : OrderHandle) (l : Fin 16) :
    (s.freeRaster o l).conds.inService = s.conds.inService := by
  unfold State.freeRaster
  split
  · rfl
  · next x _ =>
    have answered := (State.ChangesOnly.refl s [.link]).each (s.spool.writes.filter (fun w => w.isOf o l))
      (fun t w => t.refuse w.tag .noRaster) (fun v w => State.ChangesOnly.refuse_op v _ _)
    unfold State.evalPressure
    rw [reportLevelQuiet_inService, (State.ChangesOnly.grantSpool_op _).conds, State.setSpool_conds, answered.conds]

theorem cancelOrder_inService (s : State) (h : OrderHandle) (o : Order) :
    (s.cancelOrder h o).conds.inService = s.conds.inService := by
  have freed := each_same (fun t : State => t.conds.inService) (fun t (x : Fin 16 × Line) => t.freeRaster h x.1)
    (fun t x => freeRaster_inService t h x.1) s o.used
  have fallen (t : State) := (State.ChangesOnly.refl t [.catalogue]).each o.used (fun t x => t.refFalls x.2.image)
    (fun v x => State.ChangesOnly.refFalls_op v x.2.image)
  unfold State.cancelOrder
  rw [(State.ChangesOnly.setOrderRecord_op _ _ _).conds, (State.ChangesOnly.clearUncommitted_op _ _ _).conds, (fallen _).conds]
  exact freed

theorem closingExitOf_inService (s : State) (h : Option SessionHandle) :
    (s.closingExitOf h).conds.inService = s.conds.inService := by
  have idles (t : State) (r : Fin 8) (slip : Option (Nat × BitVec 16)) : (t.goIdle r slip).conds.inService = t.conds.inService := by
    rw [goIdle_eq_idled]
    rfl
  have settles (t : State) (r : Fin 8) : (t.settle r).conds.inService = t.conds.inService := by
    rw [settle_eq]
    dsimp only
    split_ifs
    · exact idles t r none
    · rw [idles, (State.ChangesOnly.issueSlip_op _ _ _ _).conds]
    · rfl
    · rfl
  cases h with
  | none => rfl
  | some h =>
    rw [closingExitOf_some]
    split_ifs
    · rw [leaveClosing_eq]
      dsimp only
      split_ifs
      · exact settles _ _
      · rfl
    · rfl

/-- An authorisation that ends without approval moves credit and its order, and then tests its session for the way out of CLOSING. -/
theorem endUnapproved_cases (s : State) (a : Auth) (cause : OrderCause) : s.endUnapproved a cause = s ∨
    ∃ (t : State) (x : SessionHandle), s.endUnapproved a cause = t.closingExitOf (some x) ∧ s.TillKept t ∧ s.SessionsStand t ∧
      t.conds.inService = s.conds.inService := by
  unfold State.endUnapproved
  split
  · exact .inl rfl
  · next o _ =>
    dsimp only
    have till : s.TillKept ((s.addCredit o.session.record o.paidCredit).touchHandle o.session) :=
      (State.TillKept.addCredit s _ _).trans (.of_money (State.ChangesOnly.touchHandle_op _ _).money)
    have stand : s.SessionsStand ((s.addCredit o.session.record o.paidCredit).touchHandle o.session) :=
      (State.SessionsStand.of_sessions (State.ChangesOnly.addCredit_op s _ _).sessions).trans (.touchHandle _ _)
    refine .inr ⟨_, o.session, rfl, till.trans (.of_money ?_), stand.trans ?_, ?_⟩
    · split_ifs
      · exact ((State.ChangesOnly.cancelOrder_op _ a.order o).orderNotice _ _ _ _ _ (by decide)).money
      · exact (((State.ChangesOnly.refl _ [.orders, .link]).setOrder _ _ (by decide)).orderNotice _ _ _ _ _ (by decide)).money
    · split_ifs
      · exact (State.SessionsStand.cancelOrder _ a.order o).trans
          (.of_sessions (State.ChangesOnly.orderNotice_op _ _ _ _ _ _).sessions)
      · exact (State.SessionsStand.of_sessions (State.ChangesOnly.setOrder_op _ _ _).sessions).trans
          (.of_sessions (State.ChangesOnly.orderNotice_op _ _ _ _ _ _).sessions)
    · have paid : ((s.addCredit o.session.record o.paidCredit).touchHandle o.session).conds = s.conds :=
        (State.ChangesOnly.touchHandle_op _ _).conds.trans (State.ChangesOnly.addCredit_op _ _ _).conds
      rw [← paid]
      split_ifs
      · rw [(State.ChangesOnly.orderNotice_op _ _ _ _ _ _).conds, cancelOrder_inService]
      · rw [(State.ChangesOnly.orderNotice_op _ _ _ _ _ _).conds, (State.ChangesOnly.setOrder_op _ _ _).conds]

theorem endUnapproved_inService (s : State) (a : Auth) (cause : OrderCause) :
    (s.endUnapproved a cause).conds.inService = s.conds.inService := by
  rcases endUnapproved_cases s a cause with h | ⟨t, x, h, -, -, service⟩
  · rw [h]
  · rw [h, closingExitOf_inService, service]

theorem endUnapproved_till (s : State) (a : Auth) (cause : OrderCause) : s.TillKept (s.endUnapproved a cause) := by
  rcases endUnapproved_cases s a cause with h | ⟨t, x, h, till, -, -⟩
  · rw [h]
    exact .refl s
  · rw [h]
    exact till.trans (.closingExitOf t _)

/-- It makes no session ACTIVE. -/
theorem endUnapproved_notActive (s : State) (a : Auth) (cause : OrderCause) (q : Fin 8) (h : (s.record q).state ≠ .active) :
    ((s.endUnapproved a cause).record q).state ≠ .active := by
  rcases endUnapproved_cases s a cause with eq | ⟨t, x, eq, -, stand, -⟩
  · rwa [eq]
  · rw [eq]
    rcases closingExitOf_record t (some x) q with hr | ⟨-, left⟩
    · rwa [hr, stand.state]
    · intro active
      have out := left.state
      rw [active] at out
      exact absurd out (by decide)

/-! ### The lockout (R167) -/

theorem suspendFor_terminal (s : State) (r : Fin 8) (cause : SessionCause) (gate : GateCause) :
    (s.suspendFor r cause gate).money.terminal = s.money.terminal := by
  rw [suspendFor_eq]
  dsimp only
  split_ifs
  · exact closeStationGate_terminal _ _ _
  · rfl

/-- The sessions of some records suspended by the lockout. -/
def State.suspendAll (s : State) (rs : List (Fin 8)) : State := s.each rs (fun t r => t.suspendFor r .lockout .lockout)

theorem suspendAll_terminal (s : State) (rs : List (Fin 8)) : (s.suspendAll rs).money.terminal = s.money.terminal :=
  each_same (fun t : State => t.money.terminal) _ (fun t r => suspendFor_terminal t r _ _) s rs

theorem suspendAll_op (s : State) (rs : List (Fin 8)) : s.ChangesOnly (s.suspendAll rs) [.sessions, .link, .money, .sent] :=
  (State.ChangesOnly.refl s _).each rs _ (fun v r => (State.ChangesOnly.suspendFor_op v r _ _).mono (by decide))

theorem suspendAll_notActive (s : State) {rs : List (Fin 8)} {r : Fin 8} (hr : r ∈ rs) :
    ((s.suspendAll rs).record r).state ≠ .active := by
  have suspended (t : State) (q : Fin 8) (h : q = r ∨ (t.record r).state ≠ .active) :
      ((t.suspendFor q .lockout .lockout).record r).state ≠ .active := by
    rw [suspendFor_record]
    split_ifs with ha
    · simp [SessionRecord.suspended]
    · rcases h with rfl | h
      · exact fun active => ha ⟨rfl, active⟩
      · exact h
  exact each_establishes (P := fun t => (t.record r).state ≠ .active) (fun t q h => suspended t q (.inr h))
    (fun t => suspended t r (.inl rfl)) hr s

/-- The sessions suspended and the gates closed, before the waiting authorisations end. -/
@[irreducible] def State.lockedOut (s : State) : State :=
  ((s.setConds { s.conds with inService := false }).suspendAll (allFin 8)).closeGates .lockout

theorem lockedOut_terminal (s : State) : s.lockedOut.money.terminal = s.money.terminal := by
  unfold State.lockedOut State.closeGates
  rw [closeGate_terminal, closeGate_terminal, suspendAll_terminal, State.setConds_money]

theorem lockedOut_notActive (s : State) (r : Fin 8) : (s.lockedOut.record r).state ≠ .active := by
  unfold State.lockedOut
  rw [record_congr (State.ChangesOnly.closeGates_op _ _).sessions]
  exact suspendAll_notActive _ (mem_allFin r)

theorem lockedOut_gate (s : State) (u : Fin 2) : (s.lockedOut.unit u).gateOpen = false := by
  unfold State.lockedOut
  exact closeGates_gate _ _ u

theorem lockedOut_conds (s : State) : s.lockedOut.conds = { s.conds with inService := false } := by
  unfold State.lockedOut
  rw [(State.ChangesOnly.closeGates_op _ _).conds, (suspendAll_op _ _).conds, State.setConds_conds]

/-- The state in which the waiting authorisations end. -/
@[irreducible] def State.lockedWith (s : State) : State := s.lockedOut.setTerminal { s.money.terminal with waiting := [] }

theorem lockout_eq_lockedWith (s : State) :
    s.lockout = s.lockedWith.each s.money.terminal.waiting (fun t a => t.endUnapproved a .lockout) := by
  have made : s.lockout = (s.lockedOut.setTerminal { s.lockedOut.money.terminal with waiting := [] }).each
      s.lockedOut.money.terminal.waiting (fun t a => t.endUnapproved a .lockout) := by
    unfold State.lockout State.lockedOut State.suspendAll
    dsimp only
  rw [made, lockedOut_terminal]
  unfold State.lockedWith
  rfl

theorem lockout_eq (s : State) : s.lockout = (
    let out : State := { s with conds := { s.conds with inService := false } };
    let suspended := (allFin 8).foldl (fun w r =>
      let x := w.record r
      let t := w.setRecord r { x with state := .suspended, timer := .stopped (x.timer.count w.now) }
      if x.state = .active then
        (t.notify 0xC1 (le1 r.val ++ [x.gen] ++ [2, 1])).closeStationGate x.station (some .lockout)
      else w) out;
    let closed := (suspended.closeGate 0 (some .lockout)).closeGate 1 (some .lockout);
    s.money.terminal.waiting.foldl (fun w a => w.endUnapproved a .lockout)
      (closed.setTerminal { s.money.terminal with waiting := [] })) := by
  rw [lockout_eq_lockedWith]
  unfold State.lockedWith State.lockedOut State.suspendAll
  rw [each_congr (fun t r => suspendFor_eq t r .lockout .lockout)]
  unfold State.closeGates State.each
  rfl

/-- What a lockout comes to, but for what the authorisations that end do to their orders. -/
theorem lockout_effects (s : State) : s.lockout.conds.inService = false ∧ (∀ u, (s.lockout.unit u).gateOpen = false) ∧
    (∀ r, (s.lockout.record r).state ≠ .active) ∧ s.lockout.money.terminal.waiting = [] := by
  have locked : s.lockedWith.conds.inService = false ∧ (∀ u, (s.lockedWith.unit u).gateOpen = false) ∧
      (∀ r, (s.lockedWith.record r).state ≠ .active) ∧ s.lockedWith.money.terminal.waiting = [] := by
    unfold State.lockedWith
    exact ⟨congrArg (·.inService) (lockedOut_conds s), lockedOut_gate s, lockedOut_notActive s, rfl⟩
  obtain ⟨service, gates, sessions, waiting⟩ := locked
  rw [lockout_eq_lockedWith]
  generalize s.lockedWith = t at service gates sessions waiting
  have till := each_keeps (P := t.TillKept) (fun u a h => h.trans (endUnapproved_till u a .lockout)) (.refl t) s.money.terminal.waiting
  refine ⟨?_, fun u => (till.gate u).trans (gates u), fun r => ?_, by rw [till.terminal, waiting]⟩
  · exact each_keeps (P := fun u => u.conds.inService = false) (fun u a h => (endUnapproved_inService u a _).trans h) service _
  · exact each_keeps (P := fun u => (u.record r).state ≠ .active) (fun u a h => endUnapproved_notActive u a .lockout r h) (sessions r) _

/-- Settles O54: the tables, each operation's equation, and what a lockout comes to. -/
theorem conditionsResolveByMaskAndMode : Obligations.ConditionsResolveByMaskAndMode := by
  unfold Obligations.ConditionsResolveByMaskAndMode
  refine ⟨kioskTable_eq, sessionTable_eq, fun _ _ => rfl, fun _ _ _ => rfl, fun s => resolveKiosk_eq s State.lockout,
    fun s => resolveSession_eq s State.suspend,
    fun s i detail => ⟨raiseKiosk_eq s i detail, reportLevel_present s i, reportLevel_absent s i⟩, raiseSession_eq,
    fun s i detail hi => raiseKioskQuiet_eq s hi detail, fun s i present hi => reportLevelQuiet_eq s hi present,
    fun s r => suspendFor_eq s r .suspendAction .suspended, wake_iff, attn_iff, lockout_eq, fun s => ?_⟩
  obtain ⟨service, gates, sessions, waiting⟩ := lockout_effects s
  exact ⟨service, gates, sessions, waiting, State.ChangesOnly.lockout_op s⟩

end Sys2Proof.Machine

/-! SESSION_CLOSE (R25 to R27): the slots and the entries given up, the uncommitted order ended, and the test for money in flight. -/

namespace Sys2Proof.Machine

/-! ### A slot closed (R45) -/

/-- A slot whose session closed: LEFT, without reads; a probe in flight stays. -/
def Slot.closed (x : Slot) : Slot :=
  { x with
    state := .left, faultCause := none, bound := none, reads := [], serving := none
    inFlight := if x.inFlight = some .probe then some .probe else none }

theorem probeOnly_eq (c : Option CardCommand) : probeOnly c = if c = some .probe then some .probe else none := by
  cases c with
  | none => rfl
  | some x => cases x <;> rfl

theorem closeSlot_eq_closed (s : State) (n : Fin 4) : s.closeSlot n = (
    let t := (s.slot n).reads.foldl (fun w r => w.replyWith r.tag .staleHandle []) s;
    let u := if (s.slot n).state = .scanning then t.scanNotice n .closed else t;
    (u.setSlot n (s.slot n).closed).slotNotice n .closed) := by
  have answered := (State.ChangesOnly.refl s [.link]).each (s.slot n).reads (fun t r => t.refuse r.tag .staleHandle)
    (fun v r => State.ChangesOnly.refuse_op v _ _)
  have scanned (t : State) (ht : t.slots = s.slots) :
      (if (s.slot n).state = .scanning then t.scanNotice n .closed else t).slot n = s.slot n := by
    split_ifs
    · rw [slot_congr (State.ChangesOnly.scanNotice_op t n _).slots, slot_congr ht]
    · exact slot_congr ht n
  unfold State.closeSlot
  dsimp only
  rw [scanned _ answered.slots, probeOnly_eq]
  rfl

theorem closeSlot_eq (s : State) (n : Fin 4) : s.closeSlot n = (
    let x := s.slot n;
    let t := x.reads.foldl (fun w r => w.replyWith r.tag .staleHandle []) s;
    let u := if x.state = .scanning then t.scanNotice n .closed else t;
    (u.setSlot n { x with
      state := .left, faultCause := none, bound := none, reads := [], serving := none
      inFlight := if x.inFlight = some .probe then some .probe else none }).slotNotice n .closed) := closeSlot_eq_closed s n

theorem closeSlot_slot (s : State) (n m : Fin 4) : (s.closeSlot n).slot m = if m = n then (s.slot n).closed else s.slot m := by
  have answered := (State.ChangesOnly.refl s [.link]).each (s.slot n).reads (fun t r => t.refuse r.tag .staleHandle)
    (fun v r => State.ChangesOnly.refuse_op v _ _)
  rw [closeSlot_eq_closed]
  dsimp only
  rw [slot_congr (State.ChangesOnly.slotNotice_op _ n _).slots]
  refine (get_put_read _ n m _).trans (if_congr Iff.rfl rfl ?_)
  split_ifs
  · rw [(State.ChangesOnly.scanNotice_op _ n _).slots]
    exact slot_congr answered.slots m
  · exact slot_congr answered.slots m

theorem closeSlot_walks : State.Walks (fun _ => True) State.slot (fun _ x => x.closed) (fun _ _ => []) State.closeSlot :=
  ⟨fun _ _ _ => trivial, fun s n _ => by rw [closeSlot_slot, if_pos rfl],
    fun s n m _ hm => by rw [closeSlot_slot, if_neg (Ne.symm hm)],
    fun s n _ => by rw [(State.ChangesOnly.closeSlot_op s n).sent, List.append_nil]⟩

/-- The slots bound to a session closed. -/
@[irreducible] def State.slotsClosed (s : State) (h : SessionHandle) : State := s.each (s.boundSlots h) State.closeSlot

theorem slotsClosed_op (s : State) (h : SessionHandle) : s.ChangesOnly (s.slotsClosed h) [.slots, .link] := by
  unfold State.slotsClosed
  exact (State.ChangesOnly.refl s _).each _ _ (fun v n => State.ChangesOnly.closeSlot_op v n)

theorem slotsClosed_slot (s : State) (h : SessionHandle) (n : Fin 4) :
    (s.slotsClosed h).slot n = if (s.slot n).bound = some h then (s.slot n).closed else s.slot n := by
  unfold State.slotsClosed
  refine (closeSlot_walks.each_item trivial ((List.nodup_finRange 4).filter _) n).trans (if_congr ?_ rfl rfl)
  rw [List.mem_filter, decide_eq_true_iff]
  exact and_iff_right (mem_allFin n)

/-! ### Entries freed (R69) -/

theorem get_foldl_free (qs : List (Fin 2048)) (v : Vector Position 2048) (q : Fin 2048) :
    (qs.foldl (fun t p => put t p { gen := (t.get p).gen, entry := none }) v).get q =
      if q ∈ qs then { gen := (v.get q).gen, entry := none } else v.get q := by
  induction qs generalizing v with
  | nil => rfl
  | cons p rest ih =>
    rw [List.foldl_cons, ih, get_put_read]
    by_cases hq : q = p
    · subst hq
      simp
    · simp [hq]

theorem freeWhere_eq (c : Catalogue) (r : Fin 8) (p : CatEntry → Bool) :
    (let d := c.freeWhere r p;
    let gone : Fin 2048 → Bool := fun q => (c.table.get q).entry.any p;
    (∀ q, d.table.get q = if q ∈ c.lists.get r ∧ gone q = true then { gen := (c.table.get q).gen, entry := none }
      else c.table.get q) ∧
    d.lists = put c.lists r ((c.lists.get r).filter (fun q => !gone q)) ∧ d.handOffs = c.handOffs ∧ d.removals = c.removals) := by
  refine ⟨fun q => (get_foldl_free _ _ q).trans ?_, rfl, rfl, rfl⟩
  simp only [List.mem_filter]

/-- All entries of a session freed, its list is empty where each position of it held one. -/
theorem freeWhere_list (c : Catalogue) (r : Fin 8) (h : ∀ q ∈ c.lists.get r, (c.table.get q).entry ≠ none) :
    (c.freeWhere r (fun _ => true)).lists.get r = [] := by
  rw [(freeWhere_eq c r (fun _ => true)).2.1, get_put_same, List.filter_eq_nil_iff]
  intro q hq
  obtain ⟨e, he⟩ := Option.ne_none_iff_exists'.1 (h q hq)
  simp [he]

theorem count_lists (c : Catalogue) (h : CatHandle) (f : Nat → Nat) : (c.count h f).lists = c.lists := by
  unfold Catalogue.count
  split <;> rfl

/-! ### What the end of an order leaves of the lists -/

theorem cancelOrder_lists (s : State) (h : OrderHandle) (o : Order) :
    (s.cancelOrder h o).catalogue.lists = s.catalogue.lists := by
  have freed := (State.ChangesOnly.refl s [.spool, .link, .conds]).each o.used (fun t x => t.freeRaster h x.1)
    (fun v x => State.ChangesOnly.freeRaster_op v h x.1)
  have fallen (t : State) := each_same (fun t : State => t.catalogue.lists) (fun t (x : Fin 16 × Line) => t.refFalls x.2.image)
    (fun t x => count_lists _ _ _) t o.used
  unfold State.cancelOrder
  rw [(State.ChangesOnly.setOrderRecord_op _ _ _).catalogue, (State.ChangesOnly.clearUncommitted_op _ _ _).catalogue]
  refine (fallen _).trans ?_
  rw [freed.catalogue]

theorem endUnapproved_lists (s : State) (a : Auth) (cause : OrderCause) :
    (s.endUnapproved a cause).catalogue.lists = s.catalogue.lists := by
  unfold State.endUnapproved
  split
  · rfl
  · next o _ =>
    dsimp only
    rw [(State.ChangesOnly.closingExitOf_op _ _).catalogue]
    have paid : ((s.addCredit o.session.record o.paidCredit).touchHandle o.session).catalogue = s.catalogue :=
      (State.ChangesOnly.touchHandle_op _ _).catalogue.trans (State.ChangesOnly.addCredit_op _ _ _).catalogue
    rw [← paid]
    split_ifs
    · rw [(State.ChangesOnly.orderNotice_op _ _ _ _ _ _).catalogue, cancelOrder_lists]
    · rw [(State.ChangesOnly.orderNotice_op _ _ _ _ _ _).catalogue, (State.ChangesOnly.setOrder_op _ _ _).catalogue]

/-! ### The end of an authorisation asked for (R121) -/

/-- The cancel of an authorisation: it ends at once, or the port takes note, or nothing is done. -/
theorem cancelAuth_cases (s : State) (h : OrderHandle) : s.cancelAuth h = s ∨
    ∃ x : Terminal, (∃ a, s.cancelAuth h = (s.setTerminal x).endUnapproved a .cancelled) ∨
      ∃ y, s.cancelAuth h = (s.setTerminal x).send y := by
  unfold State.cancelAuth
  dsimp only
  split
  · exact .inr ⟨_, .inl ⟨_, rfl⟩⟩
  · split
    · split_ifs
      · exact .inr ⟨_, .inr ⟨_, rfl⟩⟩
      · exact .inl rfl
    · exact .inl rfl

/-- What setting the terminal and what is sent keep, and an authorisation's end turns into `Q`, its cancel turns into `Q`. -/
theorem cancelAuth_brings {P Q : State → Prop} (terminal : ∀ s x, P s → P (s.setTerminal x)) (send : ∀ s y, P s → P (s.send y))
    (done : ∀ s, P s → Q s) (ends : ∀ s a, P s → Q (s.endUnapproved a .cancelled)) (s : State) (h : OrderHandle) (hs : P s) :
    Q (s.cancelAuth h) := by
  rcases cancelAuth_cases s h with eq | ⟨x, ⟨a, eq⟩ | ⟨y, eq⟩⟩ <;> rw [eq]
  · exact done s hs
  · exact ends _ a (terminal s x hs)
  · exact done _ (send _ y (terminal s x hs))

/-- The same of a session's uncommitted order at its close. -/
theorem closeOrder_brings {P Q : State → Prop} (cancels : ∀ s h o, P s → P (s.cancelOrder h o))
    (notice : ∀ s h x n c b, P s → P (s.orderNotice h x n c b)) (order : ∀ s k o, P s → P (s.setOrder k o))
    (terminal : ∀ s x, P s → P (s.setTerminal x)) (send : ∀ s y, P s → P (s.send y)) (done : ∀ s, P s → Q s)
    (ends : ∀ s a, P s → Q (s.endUnapproved a .cancelled)) (s : State) (h : OrderHandle) (hs : P s) : Q (s.closeOrder h) := by
  unfold State.closeOrder
  split
  · exact done s hs
  · split_ifs
    · exact done _ (notice _ _ _ _ _ _ (cancels s _ _ hs))
    · exact done s hs
    · exact cancelAuth_brings terminal send done ends _ h (order s _ _ hs)

/-! ### The session's way through its close -/

/-- A session in CLOSING at a station. -/
structure State.InClosing (h : SessionHandle) (st : Option Station) (s : State) : Prop where
  gen : (s.record h.record).gen = h.gen
  state : (s.record h.record).state = .closing
  station : (s.record h.record).station = st

theorem State.InClosing.stand {h : SessionHandle} {st : Option Station} {s t : State} (hs : s.InClosing h st)
    (sessions : s.SessionsStand t) : t.InClosing h st :=
  ⟨(sessions.gen _).trans hs.gen, (sessions.state _).trans hs.state, (sessions.station _).trans hs.station⟩

/-- A session gone from CLOSING, with no money in flight (R27). -/
structure State.GoneFrom (h : SessionHandle) (st : Option Station) (s : State) : Prop where
  gen : (s.record h.record).gen = h.gen
  state : (s.record h.record).state ∈ [.draining, .settling, .idle]
  station : (s.record h.record).station = none
  front : ∀ y, st = some y → s.front y = none
  money : s.moneyInFlight h = false

theorem State.GoneFrom.notClosing {h : SessionHandle} {st : Option Station} {s : State} (hs : s.GoneFrom h st) :
    (s.record h.record).state ≠ .closing := by
  intro closing
  have gone := hs.state
  rw [closing] at gone
  exact absurd gone (by decide)

/-- A session on its way through its close. -/
def State.ClosesFrom (h : SessionHandle) (st : Option Station) (s : State) : Prop := s.InClosing h st ∨ s.GoneFrom h st

namespace State.ClosesFrom

variable {h : SessionHandle} {st : Option Station} {s t : State}

theorem gen (hs : s.ClosesFrom h st) : (s.record h.record).gen = h.gen := hs.elim (·.gen) (·.gen)

theorem state (hs : s.ClosesFrom h st) : (s.record h.record).state ∈ [.closing, .draining, .settling, .idle] :=
  hs.elim (fun here => by rw [here.state]; decide) (fun gone => List.mem_cons_of_mem _ gone.state)

/-- It is kept at the test for any session's way out of CLOSING. -/
theorem exit (hs : s.ClosesFrom h st) (x : Option SessionHandle) : (s.closingExitOf x).ClosesFrom h st := by
  cases x with
  | none => exact hs
  | some x =>
    have till := State.TillKept.closingExitOf s (some x)
    rw [closingExitOf_some] at till ⊢
    split_ifs at till ⊢ with leaves
    · obtain ⟨hc, closing, money⟩ := leaves
      obtain ⟨left, others⟩ := leaveClosing_record s x.record
      by_cases hx : h.record = x.record
      · have same : x = h := by
          rw [← handleOf_of_current hc, ← hx]
          unfold State.handleOf
          rw [hs.gen]
        subst same
        rcases hs with here | gone
        · refine .inr ⟨left.gen.trans here.gen, left.state, left.station, fun y hy => ?_, (moneyInFlight_kept till x).trans money⟩
          rw [leaveClosing_front, if_pos (here.station.trans hy)]
        · exact absurd closing gone.notClosing
      · have record := others _ hx
        rcases hs with here | gone
        · exact .inl ⟨record ▸ here.gen, record ▸ here.state, record ▸ here.station⟩
        · refine .inr ⟨record ▸ gone.gen, record ▸ gone.state, record ▸ gone.station, fun y hy => ?_,
            (moneyInFlight_kept till h).trans gone.money⟩
          rw [leaveClosing_front, gone.front y hy, ite_self]
    · exact hs

/-- After the test for its own way out, the session is in CLOSING exactly while it has money in flight. -/
theorem exit_iff (hs : s.ClosesFrom h st) : ((s.closingExitOf (some h)).record h.record).state = .closing ↔
    (s.closingExitOf (some h)).moneyInFlight h = true := by
  rcases hs.exit (some h) with closing | gone
  · have here : (s.record h.record).state = .closing := by
      rcases closingExitOf_record s (some h) h.record with same | ⟨here, -⟩
      · rw [← same, closing.state]
      · exact here
    have current : s.current h = true := (current_iff s h).2 ⟨by rw [here]; decide, hs.gen⟩
    refine iff_of_true closing.state ?_
    rw [moneyInFlight_kept (State.TillKept.closingExitOf s (some h))]
    by_contra away
    have left := (leaveClosing_record s h.record).1.state
    have out := closing.state
    rw [closingExitOf_some, if_pos ⟨current, here, Bool.eq_false_iff.2 away⟩] at out
    rw [out] at left
    exact absurd left (by decide)
  · exact iff_of_false gone.notClosing (by rw [gone.money]; decide)

end State.ClosesFrom

theorem State.InClosing.endUnapproved {h : SessionHandle} {st : Option Station} {s : State} (hs : s.InClosing h st) (a : Auth)
    (cause : OrderCause) : (s.endUnapproved a cause).ClosesFrom h st := by
  rcases endUnapproved_cases s a cause with eq | ⟨t, x, eq, -, stands, -⟩
  · rw [eq]
    exact .inl hs
  · rw [eq]
    exact State.ClosesFrom.exit (.inl (hs.stand stands)) _

theorem State.InClosing.closeOrder {h : SessionHandle} {st : Option Station} {s : State} (hs : s.InClosing h st)
    (k : OrderHandle) : (s.closeOrder k).ClosesFrom h st :=
  closeOrder_brings (P := State.InClosing h st) (fun _ _ _ hs => hs.stand (.cancelOrder _ _ _))
    (fun _ _ _ _ _ _ hs => hs.stand (.of_sessions (State.ChangesOnly.orderNotice_op _ _ _ _ _ _).sessions))
    (fun _ _ _ hs => hs.stand (.of_sessions rfl)) (fun _ _ hs => hs.stand (.of_sessions rfl))
    (fun _ _ hs => hs.stand (.of_sessions rfl)) (fun _ => .inl) (fun _ a hs => hs.endUnapproved a _) s k hs

/-! ### The close, stage by stage (R25) -/

/-- The session in CLOSING with its timer stopped. -/
def State.closingFor (s : State) (r : Fin 8) : State :=
  s.setRecord r { s.record r with state := .closing, timer := .stopped ((s.record r).timer.count s.now) }

/-- Then its gate closed, its slots closed and its entries freed. -/
def State.givenUp (s : State) (h : SessionHandle) : State :=
  let t := ((s.closingFor h.record).closeStationGate (s.record h.record).station (some .closed)).slotsClosed h
  t.setCatalogue (t.catalogue.freeWhere h.record (fun _ => true))

/-- Then its uncommitted order ended. -/
def State.orderEnded (s : State) : Option OrderHandle → State
  | some k => s.closeOrder k
  | none => s

theorem closeSession_eq (s : State) (h : SessionHandle) :
    s.closeSession h = ((s.givenUp h).orderEnded (s.record h.record).uncommitted).closingExit h.record := by
  unfold State.closeSession State.givenUp State.slotsClosed State.closingFor
  dsimp only
  cases (s.record h.record).uncommitted <;> rfl

variable {s : State} {h : SessionHandle}

theorem givenUp_op (s : State) (h : SessionHandle) : s.ChangesOnly (s.givenUp h) [.sessions, .money, .sent, .link, .slots, .catalogue] :=
  ((((State.ChangesOnly.setRecord_op s _ _).mono (by decide)).closeStationGate _ _ (by decide)).after (slotsClosed_op _ h)
    (by decide)).setCatalogue _ (by decide)

theorem closeOrder_op (s : State) (k : OrderHandle) :
    s.ChangesOnly (s.closeOrder k) [.money, .sent, .sessions, .spool, .link, .conds, .catalogue, .orders] :=
  closeOrder_brings (P := fun t => s.ChangesOnly t _) (fun _ h o hs => hs.cancelOrder h o (by decide))
    (fun _ h x n c b hs => hs.orderNotice h x n c b (by decide)) (fun _ k o hs => hs.setOrder k o (by decide))
    (fun _ x hs => hs.setTerminal x (by decide)) (fun _ y hs => hs.send y (by decide)) (fun _ hs => hs)
    (fun _ a hs => hs.endUnapproved a _ (by decide)) s k (.refl s _)

theorem orderEnded_op (s : State) (k : Option OrderHandle) :
    s.ChangesOnly (s.orderEnded k) [.money, .sent, .sessions, .spool, .link, .conds, .catalogue, .orders] := by
  cases k with
  | none => exact .refl s _
  | some k => exact closeOrder_op s k

/-- The whole close touches no block but these. -/
theorem closed_op (s : State) (h : SessionHandle) (k : Option OrderHandle) :
    s.ChangesOnly (((s.givenUp h).orderEnded k).closingExitOf (some h))
      [.link, .sessions, .slots, .catalogue, .orders, .money, .spool, .conds, .sent] :=
  ((givenUp_op s h).mono (by decide)).after ((orderEnded_op _ k).closingExitOf _ (by decide)) (by decide)

theorem givenUp_sessions (s : State) (h : SessionHandle) : (s.givenUp h).sessions = (s.closingFor h.record).sessions := by
  unfold State.givenUp
  dsimp only
  rw [State.setCatalogue_sessions, (slotsClosed_op _ h).sessions, (State.ChangesOnly.closeStationGate_op _ _ _).sessions]

theorem givenUp_inClosing (hg : (s.record h.record).gen = h.gen) : (s.givenUp h).InClosing h (s.record h.record).station := by
  have record : (s.givenUp h).record h.record = { s.record h.record with
      state := .closing, timer := .stopped ((s.record h.record).timer.count s.now) } := by
    rw [record_congr (givenUp_sessions s h)]
    exact State.record_setRecord ..
  exact ⟨by rw [record, ← hg], by rw [record], by rw [record]⟩

theorem orderEnded_closesFrom (hg : (s.record h.record).gen = h.gen) (k : Option OrderHandle) :
    ((s.givenUp h).orderEnded k).ClosesFrom h (s.record h.record).station := by
  cases k with
  | none => exact .inl (givenUp_inClosing hg)
  | some k => exact (givenUp_inClosing hg).closeOrder k

theorem closingExit_eq (hg : (s.record h.record).gen = h.gen) : s.closingExit h.record = s.closingExitOf (some h) := by
  rw [closingExitOf_some]
  unfold State.closingExit State.handleOf
  rw [hg]
  refine if_congr (iff_and_self.2 (fun hs => (current_iff s h).2 ⟨?_, hg⟩)) rfl rfl
  rw [hs.1]
  decide

theorem closeSession_eq_closed (hg : (s.record h.record).gen = h.gen) :
    s.closeSession h = ((s.givenUp h).orderEnded (s.record h.record).uncommitted).closingExitOf (some h) := by
  rw [closeSession_eq, closingExit_eq (orderEnded_closesFrom hg _).gen]

/-! ### What the close leaves -/

theorem closed_slot (s : State) (h : SessionHandle) (k : Option OrderHandle) (n : Fin 4) :
    (((s.givenUp h).orderEnded k).closingExitOf (some h)).slot n =
      if (s.slot n).bound = some h then (s.slot n).closed else s.slot n := by
  have gated : ((s.closingFor h.record).closeStationGate (s.record h.record).station (some .closed)).slots = s.slots :=
    (State.ChangesOnly.closeStationGate_op _ _ _).slots
  rw [slot_congr ((orderEnded_op _ k).closingExitOf (some h) (by decide)).slots]
  refine (slotsClosed_slot _ h n).trans ?_
  rw [slot_congr gated]

theorem closed_list (s : State) (h : SessionHandle) (k : Option OrderHandle)
    (held : ∀ q ∈ s.catalogue.lists.get h.record, (s.catalogue.table.get q).entry ≠ none) :
    (((s.givenUp h).orderEnded k).closingExitOf (some h)).catalogue.lists.get h.record = [] := by
  have before : (((s.closingFor h.record).closeStationGate (s.record h.record).station (some .closed)).slotsClosed h).catalogue =
      s.catalogue := by
    rw [(slotsClosed_op _ h).catalogue, (State.ChangesOnly.closeStationGate_op _ _ _).catalogue]
    rfl
  have freed : (s.givenUp h).catalogue.lists.get h.record = [] := by
    unfold State.givenUp
    dsimp only
    rw [before, State.setCatalogue_catalogue, freeWhere_list _ _ held]
  have ended : ((s.givenUp h).orderEnded k).catalogue.lists = (s.givenUp h).catalogue.lists := by
    cases k with
    | none => rfl
    | some k =>
      exact closeOrder_brings (P := fun t => t.catalogue.lists = (s.givenUp h).catalogue.lists)
        (fun _ _ _ hs => (cancelOrder_lists _ _ _).trans hs) (fun _ _ _ _ _ _ hs => hs) (fun _ _ _ hs => hs) (fun _ _ hs => hs)
        (fun _ _ hs => hs) (fun _ hs => hs) (fun _ _ hs => (endUnapproved_lists _ _ _).trans hs) _ k rfl
  rw [(State.ChangesOnly.closingExitOf_op _ _).catalogue, ended, freed]

theorem closed_gate (s : State) (h : SessionHandle) (k : Option OrderHandle) {u : Fin 2}
    (hu : (s.record h.record).station.bind s.power.profile.unitOf = some u) :
    ((((s.givenUp h).orderEnded k).closingExitOf (some h)).unit u).gateOpen = false := by
  have gated : (((s.closingFor h.record).closeStationGate (s.record h.record).station (some .closed)).unit u).gateOpen = false := by
    have unit : (s.record h.record).station.bind (s.closingFor h.record).power.profile.unitOf = some u := hu
    unfold State.closeStationGate
    rw [unit]
    exact (closeGate_gate _ u u _).trans (by simp)
  have freed : ((s.givenUp h).unit u).gateOpen = false := by
    unfold State.givenUp
    dsimp only
    rw [unit_congr (State.setCatalogue_money _ _), unit_congr (slotsClosed_op _ h).money, gated]
  have ended : (((s.givenUp h).orderEnded k).unit u).gateOpen = false := by
    cases k with
    | none => exact freed
    | some k =>
      exact closeOrder_brings (P := fun t => (t.unit u).gateOpen = false)
        (fun _ _ _ hs => (congrArg _ (unit_congr (State.ChangesOnly.cancelOrder_op _ _ _).money u)).trans hs)
        (fun _ _ _ _ _ _ hs => hs) (fun _ _ _ hs => hs) (fun _ _ hs => hs) (fun _ _ hs => hs) (fun _ hs => hs)
        (fun s a hs => ((endUnapproved_till s a _).gate u).trans hs) _ k freed
  rw [(State.TillKept.closingExitOf _ _).gate, ended]

/-! ### SESSION_CLOSE at its taking -/

variable {tag : Byte} {p : List Byte}

/-- A record written over the restart of its timer. -/
theorem closingFor_touched (s : State) (tag : Byte) (r : Fin 8) : ((s.touch r).holds tag).closingFor r =
    (s.holds tag).setRecord r { s.record r with state := .closing, timer := .stopped (match (s.record r).timer with
      | .running _ => 0
      | .stopped count => count) } := by
  unfold State.closingFor
  rw [← holds_touch]
  unfold State.touch
  cases ht : ((s.holds tag).record r).timer with
  | running since =>
    have same : (s.record r).timer = .running since := ht
    dsimp only
    rw [setRecord_setRecord, State.record_setRecord, same]
    simp only [Timer.count, State.setRecord_now, Nat.sub_self]
    rfl
  | stopped count =>
    have same : (s.record r).timer = .stopped count := ht
    dsimp only
    rw [same, ht]
    rfl

theorem sessionClose_answers (h : s.Offers .sessionClose tag p) {x : SessionHandle} (hr : byteAt p 0 = x.record.val)
    (hg : p.getD 1 0 = x.gen) (hx : s.current x = true) (hs : (s.record x.record).state ∈ [.active, .suspended]) :
    exec (.sessionClose tag) s = .next (let t := ((s.touch x.record).holds tag).closeSession x;
      t.ok tag (le1 (t.record x.record).state.code)) := by
  have taking : exec (.sessionClose tag) s = .next (s.take .sessionClose tag (fun t p =>
    t.withSession .sessionClose tag p 0 (fun t h => (t.closeSession h).ok tag (le1 ((t.closeSession h).record h.record).state.code)))) :=
    rfl
  have taken : sessionRefusal .sessionClose (s.record x.record).state = none := by
    simp only [List.mem_cons, List.not_mem_nil, or_false] at hs
    rcases hs with hs | hs <;> rw [hs] <;> rfl
  rw [taking, h.take, withSession_taken hr hg hx taken]

theorem editable_iff {o : Order} : o.editable = true ↔ o.state ∈ ([.editing, .quoted] : List OrderState) := by
  unfold Order.editable
  simp only [decide_eq_true_iff, List.mem_cons, List.not_mem_nil, or_false]

/-- The ORDER notice without amounts. -/
theorem orderNotice_bare (s : State) (k : OrderHandle) (x : SessionHandle) (state : Nat) (cause : OrderCause) :
    s.orderNotice k x state cause [] = s.notify 0xC4 (k.bytes ++ x.bytes ++ (le1 state ++ le1 cause.code)) := by
  unfold State.orderNotice
  rw [List.append_nil, List.append_assoc]

theorem closeOrder_eq (s : State) (k : OrderHandle) : s.closeOrder k = (match s.order? k with
    | none => s
    | some o =>
      if o.state ∈ ([.editing, .quoted] : List OrderState) then (s.cancelOrder k o).notify 0xC4 (k.bytes ++ o.session.bytes ++ [5, 7])
      else if o.cancel = true then s
      else (s.setOrder k.record { o with cancel := true }).cancelAuth k) := by
  unfold State.closeOrder
  cases s.order? k with
  | none => rfl
  | some o =>
    have notice : (s.cancelOrder k o).orderNotice k o.session cancelledCode .closed [] =
        (s.cancelOrder k o).notify 0xC4 (k.bytes ++ o.session.bytes ++ [5, 7]) := orderNotice_bare ..
    dsimp only
    simp only [editable_iff, notice]

theorem touch_uncommitted (s : State) (r q : Fin 8) : ((s.touch r).record q).uncommitted = (s.record q).uncommitted := by
  unfold State.touch
  split
  · rw [record_setRecord_eq]
    split_ifs with hq
    · rw [hq]
    · rfl
  · rfl

theorem order?_congr {s t : State} (h : t.orders = s.orders) (k : OrderHandle) : t.order? k = s.order? k := by
  unfold State.order? State.orderRecord
  rw [h]

/-- What is given up at the taking, as the statement writes it. -/
theorem givenUp_taken (s : State) (tag : Byte) (h : SessionHandle) : ((s.touch h.record).holds tag).givenUp h = (
    let x := s.record h.record;
    let closing := (s.holds tag).setRecord h.record { x with state := .closing, timer := .stopped (match x.timer with
      | .running _ => 0
      | .stopped count => count) };
    let gated := closing.closeStationGate x.station (some .closed);
    let left := ((allFin 4).filter (fun n => (s.slot n).bound = some h)).foldl State.closeSlot gated;
    { left with catalogue := left.catalogue.freeWhere h.record (fun _ => true) }) := by
  have station : (((s.touch h.record).holds tag).record h.record).station = (s.record h.record).station :=
    (State.SessionsStand.touch s h.record).station h.record
  have slots (t : State) (c : Option GateCause) :
      (((s.holds tag).setRecord h.record (t.record h.record)).closeStationGate (s.record h.record).station c).slots = s.slots :=
    (State.ChangesOnly.closeStationGate_op _ _ _).slots
  unfold State.givenUp
  rw [closingFor_touched, station]
  dsimp only
  unfold State.slotsClosed State.boundSlots State.each
  have bound : ∀ y, (((s.holds tag).setRecord h.record y).closeStationGate (s.record h.record).station (some .closed)).slot =
      s.slot := fun y => funext (slot_congr (State.ChangesOnly.closeStationGate_op _ _ _).slots)
  rw [bound]
  rfl

theorem orderEnded_taken {s t : State} (ho : t.orders = s.orders) (k : Option OrderHandle) : t.orderEnded k = (match k with
    | none => t
    | some k => match s.order? k with
      | none => t
      | some o =>
        if o.state ∈ ([.editing, .quoted] : List OrderState) then (t.cancelOrder k o).notify 0xC4 (k.bytes ++ o.session.bytes ++ [5, 7])
        else if o.cancel = true then t
        else (t.setOrder k.record { o with cancel := true }).cancelAuth k) := by
  cases k with
  | none => rfl
  | some k =>
    dsimp only
    rw [← order?_congr ho k]
    exact closeOrder_eq t k

/-- Settles O19: the close stage by stage, and what its stages leave. -/
theorem sessionCloseGivesUpTheStation : Obligations.SessionCloseGivesUpTheStation := by
  unfold Obligations.SessionCloseGivesUpTheStation
  refine ⟨closeSlot_eq, freeWhere_eq, fun s tag p h ho hr hg hx hs => ?_⟩
  intro x closing gated left freed ended t
  generalize hw : (s.touch h.record).holds tag = w at *
  have touched : s.ChangesOnly w [.sessions, .link] :=
    hw ▸ ((State.ChangesOnly.touch_op s h.record).mono (by decide)).holds tag (by decide)
  have stand : s.SessionsStand w := hw ▸ (State.SessionsStand.touch s h.record).trans (.of_sessions rfl)
  have uncommitted : (w.record h.record).uncommitted = x.uncommitted := hw ▸ touch_uncommitted s h.record h.record
  have station : (w.record h.record).station = x.station := stand.station h.record
  have gen : (w.record h.record).gen = h.gen := (stand.gen h.record).trans ((current_iff s h).1 hx).2
  have up : w.givenUp h = freed := hw ▸ givenUp_taken s tag h
  have orders : freed.orders = s.orders := by rw [← up, (givenUp_op w h).orders, touched.orders]
  have atEnd : (w.givenUp h).orderEnded (w.record h.record).uncommitted = ended := by
    rw [up, uncommitted]
    exact orderEnded_taken orders x.uncommitted
  have closed : ((w.givenUp h).orderEnded (w.record h.record).uncommitted).closingExitOf (some h) = t := by rw [atEnd]
  have whole : w.closeSession h = t := (closeSession_eq_closed gen).trans closed
  have way : ended.ClosesFrom h x.station := atEnd ▸ station ▸ orderEnded_closesFrom gen _
  have slot (n : Fin 4) : t.slot n = if (s.slot n).bound = some h then (s.slot n).closed else s.slot n := by
    rw [← closed, closed_slot, slot_congr touched.slots]
  refine ⟨?_, (way.exit _).state, (way.exit _).gen, way.exit_iff, fun hn => ?_, fun n hn => ?_, fun n hn => ?_, fun held => ?_,
    fun u hu => ?_, ?_⟩
  · rw [sessionClose_answers ho hr hg hx hs, hw]
    dsimp only
    rw [whole]
  · have gone := (way.exit (some h)).resolve_left (fun here => hn here.state)
    exact ⟨gone.station, gone.front⟩
  · rw [slot, if_pos hn]
    exact ⟨rfl, rfl, rfl, rfl, rfl, rfl⟩
  · rw [slot, if_neg hn]
  · rw [← closed]
    refine closed_list w h _ ?_
    rw [touched.catalogue]
    exact held
  · rw [← closed]
    refine closed_gate w h _ ?_
    rw [station, touched.power]
    exact hu
  · rw [← closed]
    exact (touched.mono (by decide)).trans (closed_op w h _)

end Sys2Proof.Machine

/-! SESSION_OPEN (R20 to R22): the lowest IDLE record opened, and the station's MOUNTED slots bound to it. -/

namespace Sys2Proof.Machine

variable {s : State} {tag : Byte} {p : List Byte}

/-! ### A slot bound (R22, R42) -/

/-- A slot bound to a session: SCANNING from the start, the directory asked for where its bus is free. -/
def Slot.boundTo (x : Slot) (h : SessionHandle) (now : Nat) : Slot :=
  let y := { x with state := .scanning, bound := some h, insertionOwner := none, scan := some Scan.start, serving := none }
  if x.inFlight = none then
    { y with
      serving := some (if x.reads = [] then .step .directory else .read [])
      inFlight := some .blockRead, exchange := x.exchange + 1, issuedAt := now }
  else y

/-- What that sends on the slot's bus. -/
def Slot.firstRead (n : Fin 4) (x : Slot) : List Sent :=
  if x.inFlight = none then [.card n (x.exchange + 1) .blockRead] else []

theorem Slot.boundTo_fields (x : Slot) (h : SessionHandle) (now : Nat) :
    (x.boundTo h now).state = .scanning ∧ (x.boundTo h now).bound = some h ∧ (x.boundTo h now).scan = some Scan.start ∧
    (x.inFlight = none → (x.boundTo h now).inFlight = some .blockRead) := by
  unfold Slot.boundTo
  dsimp only
  by_cases free : x.inFlight = none
  · rw [if_pos free]
    exact ⟨rfl, rfl, rfl, fun _ => rfl⟩
  · rw [if_neg free]
    exact ⟨rfl, rfl, rfl, fun h => absurd h free⟩

theorem serveNext_scanning {n : Fin 4} {x : Slot} (hx : s.slot n = x) (hs : x.state = .scanning) (hv : x.serving = none) :
    s.serveNext n = if x.inFlight = none then
      (s.setSlot n { x with serving := some (if x.reads = [] then .step .directory else .read []) }).issue n .blockRead
    else s := by
  subst hx
  unfold State.serveNext
  dsimp only
  rw [hs, hv]
  cases (s.slot n).inFlight <;> simp

theorem slot_setSlot_eq (n m : Fin 4) (x : Slot) : (s.setSlot n x).slot m = if m = n then x else s.slot m := get_put_read ..

theorem issue_slot (n m : Fin 4) (c : CardCommand) : (s.issue n c).slot m = if m = n then
    { s.slot n with inFlight := some c, exchange := (s.slot n).exchange + 1, issuedAt := s.now } else s.slot m :=
  slot_setSlot_eq n m _

/-- A slot being bound, before its bus is asked for. -/
def State.binding (s : State) (n : Fin 4) (h : SessionHandle) (c : SlotCause) : State :=
  let t := s.setSlot n { s.slot n with
    state := .scanning, bound := some h, insertionOwner := none, scan := some Scan.start, serving := none }
  (t.setCatalogue { t.catalogue with handOffs := t.catalogue.handOffs.filter (fun f => f.slot ≠ n) }).slotNotice n c

theorem binding_slot (n m : Fin 4) (h : SessionHandle) (c : SlotCause) : (s.binding n h c).slot m = if m = n then
    { s.slot n with state := .scanning, bound := some h, insertionOwner := none, scan := some Scan.start, serving := none }
    else s.slot m :=
  slot_setSlot_eq n m _

theorem bindSlot_eq (n : Fin 4) (h : SessionHandle) (c : SlotCause) : s.bindSlot n h c =
    if (s.slot n).inFlight = none then
      ((s.binding n h c).setSlot n { s.slot n with
        state := .scanning, bound := some h, insertionOwner := none, scan := some Scan.start
        serving := some (if (s.slot n).reads = [] then .step .directory else .read []) }).issue n .blockRead
    else s.binding n h c := by
  have before : (s.binding n h c).slot n = _ := (binding_slot n n h c).trans (if_pos rfl)
  exact serveNext_scanning before rfl rfl

theorem bindSlot_slot (n m : Fin 4) (h : SessionHandle) (c : SlotCause) :
    (s.bindSlot n h c).slot m = if m = n then (s.slot n).boundTo h s.now else s.slot m := by
  have now : (s.binding n h c).now = s.now := rfl
  rw [bindSlot_eq]
  unfold Slot.boundTo
  dsimp only
  by_cases free : (s.slot n).inFlight = none
  · rw [if_pos free, if_pos free, issue_slot, State.slot_setSlot, slot_setSlot_eq, binding_slot, State.setSlot_now, now]
    split_ifs <;> rfl
  · rw [if_neg free, if_neg free, binding_slot]

theorem bindSlot_sent (n : Fin 4) (h : SessionHandle) (c : SlotCause) :
    (s.bindSlot n h c).sent = s.sent ++ (s.slot n).firstRead n := by
  rw [bindSlot_eq]
  unfold Slot.firstRead
  by_cases free : (s.slot n).inFlight = none
  · rw [if_pos free, if_pos free]
    unfold State.issue
    rw [State.slot_setSlot]
    rfl
  · rw [if_neg free, if_neg free]
    exact (List.append_nil _).symm

theorem bindSlot_walks (h : SessionHandle) (c : SlotCause) (now : Nat) : State.Walks (fun s => s.now = now) State.slot
    (fun _ x => x.boundTo h now) Slot.firstRead (fun s n => s.bindSlot n h c) :=
  ⟨fun s n hn => (State.ChangesOnly.bindSlot_op s n h c).now.trans hn,
    fun s n hn => by rw [bindSlot_slot, if_pos rfl, hn],
    fun s n m _ hm => by rw [bindSlot_slot, if_neg (Ne.symm hm)],
    fun s n _ => bindSlot_sent n h c⟩

theorem bindSlot_catalogue (n : Fin 4) (h : SessionHandle) (c : SlotCause) :
    (s.bindSlot n h c).catalogue.lists = s.catalogue.lists ∧ (s.bindSlot n h c).catalogue.table = s.catalogue.table := by
  unfold State.bindSlot
  dsimp only
  rw [(State.ChangesOnly.serveNext_op _ n).catalogue]
  exact ⟨rfl, rfl⟩

/-- `m` is `l` with SLOT notices queued behind it. -/
def Link.SlotNotices (l m : Link) : Prop :=
  m.table = l.table ∧ ∃ notices, m.queue = l.queue ++ notices ∧ ∀ f ∈ notices, f.kind = .notice ∧ f.code = 0xC2

theorem Link.SlotNotices.notice (l : Link) (payload : List Byte) : l.SlotNotices (l.notice 0xC2 payload) := by
  unfold Link.notice
  split_ifs
  · exact ⟨rfl, _, rfl, by simp⟩
  · exact ⟨rfl, [], (List.append_nil _).symm, by simp⟩

theorem Link.SlotNotices.trans {l m k : Link} (h : l.SlotNotices m) (h' : m.SlotNotices k) : l.SlotNotices k := by
  obtain ⟨ht, xs, hq, hx⟩ := h
  obtain ⟨ht', ys, hq', hy⟩ := h'
  exact ⟨ht'.trans ht, xs ++ ys, by rw [hq', hq, List.append_assoc],
    fun f hf => (List.mem_append.1 hf).elim (hx f) (hy f)⟩

theorem bindSlot_link (n : Fin 4) (h : SessionHandle) (c : SlotCause) : s.link.SlotNotices (s.bindSlot n h c).link := by
  unfold State.bindSlot
  dsimp only
  rw [(State.ChangesOnly.serveNext_op _ n).link]
  exact .notice _ _

/-! ### A session opened (R21) -/

/-- Record `r` opened for a station, before the slots are bound. -/
def State.opened (s : State) (r : Fin 8) (st : Station) : State :=
  let h : SessionHandle := { record := r, gen := (s.record r).gen + 1 }
  let t := (((s.setRecord r
    { state := .active, gen := h.gen, station := some st, uncommitted := none, committed := [], timer := .running s.now,
      totals := Totals.zero, closedOrder := none }).setFront st (some h)).setAccount r Account.zero).setSessionSet r
    (CondSet.clear s.defaultSessionMask)
  t.setCatalogue { t.catalogue with lists := put t.catalogue.lists r [] }

variable {r : Fin 8} {st : Station}

theorem openSession_eq (s : State) (r : Fin 8) (st : Station) : s.openSession r st =
    (s.opened r st).each (s.mountedOf st) (fun t n => t.bindSlot n ⟨r, (s.record r).gen + 1⟩ .bound) := rfl

theorem opened_op (s : State) (r : Fin 8) (st : Station) : s.ChangesOnly (s.opened r st) [.sessions, .catalogue, .money, .conds] :=
  ((((((State.ChangesOnly.refl s [.sessions, .catalogue, .money, .conds]).setRecord _ _ (by decide)).setFront _ _
    (by decide)).setAccount _ _ (by decide)).setSessionSet _ _ (by decide)).setCatalogue _ (by decide))

theorem bound_op (s : State) (r : Fin 8) (st : Station) :
    (s.opened r st).ChangesOnly (s.openSession r st) [.slots, .sent, .catalogue, .link] :=
  (State.ChangesOnly.refl _ _).each _ _ (fun v n => State.ChangesOnly.bindSlot_op v n _ _)

theorem openSession_op (s : State) (r : Fin 8) (st : Station) :
    s.ChangesOnly (s.openSession r st) [.link, .sessions, .slots, .catalogue, .money, .conds, .sent] :=
  ((opened_op s r st).mono (by decide)).after (bound_op s r st) (by decide)

theorem openSession_record (s : State) (r q : Fin 8) (st : Station) : (s.openSession r st).record q = if q = r then
    { state := .active, gen := (s.record r).gen + 1, station := some st, uncommitted := none, committed := [],
      timer := .running s.now, totals := Totals.zero, closedOrder := none } else s.record q :=
  (record_congr (bound_op s r st).sessions q).trans (get_put_read ..)

theorem openSession_front (s : State) (r : Fin 8) (st st' : Station) : (s.openSession r st).front st' =
    if st' = st then some ⟨r, (s.record r).gen + 1⟩ else s.front st' := by
  have index : st'.index = st.index ↔ st' = st := by cases st <;> cases st' <;> decide
  have fronts : (s.openSession r st).front st' = (s.opened r st).front st' := by
    unfold State.front
    rw [(bound_op s r st).sessions]
  rw [fronts, ← if_congr index rfl rfl]
  exact get_put_read ..

theorem openSession_account (s : State) (r q : Fin 8) (st : Station) : (s.openSession r st).account q =
    if q = r then Account.zero else s.account q := by
  unfold State.account
  rw [(bound_op s r st).money]
  exact get_put_read ..

theorem openSession_sessionSet (s : State) (r : Fin 8) (st : Station) :
    (s.openSession r st).sessionSet r = CondSet.clear s.defaultSessionMask :=
  (sessionSet_congr (bound_op s r st).conds r).trans (get_put_same ..)

theorem openSession_catalogue (s : State) (r : Fin 8) (st : Station) :
    (s.openSession r st).catalogue.lists.get r = [] ∧ (s.openSession r st).catalogue.table = s.catalogue.table := by
  rw [openSession_eq, each_same (fun t => t.catalogue.lists) _ (fun t n => (bindSlot_catalogue n _ _).1),
    each_same (fun t => t.catalogue.table) _ (fun t n => (bindSlot_catalogue n _ _).2)]
  exact ⟨get_put_same .., rfl⟩

theorem openSession_slot (s : State) (r : Fin 8) (st : Station) (n : Fin 4) : (s.openSession r st).slot n =
    if (s.slot n).state = .mounted ∧ s.power.profile.stationOfSlot n = st then
      (s.slot n).boundTo ⟨r, (s.record r).gen + 1⟩ s.now else s.slot n := by
  have mounted : n ∈ s.mountedOf st ↔ (s.slot n).state = .mounted ∧ s.power.profile.stationOfSlot n = st := by
    unfold State.mountedOf
    rw [List.mem_filter, decide_eq_true_iff]
    exact and_iff_right (mem_allFin n)
  rw [openSession_eq]
  exact ((bindSlot_walks _ _ s.now).each_item (opened_op s r st).now ((List.nodup_finRange 4).filter _) n).trans
    (if_congr mounted rfl rfl)

theorem openSession_link (s : State) (r : Fin 8) (st : Station) : s.link.SlotNotices (s.openSession r st).link := by
  have start : s.link.SlotNotices (s.opened r st).link := ⟨rfl, [], (List.append_nil _).symm, by simp⟩
  rw [openSession_eq]
  exact each_keeps (P := fun t => s.link.SlotNotices t.link) (fun _ n ht => ht.trans (bindSlot_link n _ _))
    start _

/-! ### The request -/

theorem stationAt_code (hst : byteAt p 0 = st.code) : stationAt p 0 = some st := by
  unfold stationAt
  rw [hst]
  cases st <;> rfl

theorem stationAt_some {p : List Byte} {st : Station} (h : stationAt p 0 = some st) : byteAt p 0 = st.code := by
  unfold stationAt at h
  split at h <;> cases h <;> assumption

theorem idleRecord_none (h : ∀ r, (s.record r).state ≠ .idle) : s.idleRecord = none :=
  List.find?_eq_none.2 (fun r _ => by simp [h r])

theorem idleRecord_some (hr : (s.record r).state = .idle) (hq : ∀ q, q < r → (s.record q).state ≠ .idle) :
    s.idleRecord = some r := by
  refine List.find?_eq_some_iff_getElem.2 ⟨by simp [hr], r.val, by simp, by simp, fun j hj => ?_⟩
  have lower := hq ⟨j, by omega⟩ hj
  simp [lower]

/-- The reply to a request taken, where only its table entry is known to be as it was. -/
theorem State.Offers.ok_link {c : RequestCode} (h : s.Offers c tag p) {t : State} (ht : t.link.table = (s.link.markTaken tag).table)
    (fields : List Byte) : (t.ok tag fields).link.table = s.link.table.filter (fun e => e.tag ≠ tag) ∧
    (t.ok tag fields).link.queue = t.link.queue ++ [⟨.reply, tag, c.byte, 0x00 :: fields⟩] := by
  have found := Link.find_markTaken h.mem rfl h.2.2.1
  have replied : (t.ok tag fields).link = t.link.reply tag (0x00 :: fields) := rfl
  rw [replied]
  unfold Link.reply
  rw [ht, found]
  exact ⟨Link.filter_markTaken s.link tag, rfl⟩

theorem sessionOpen_badStation (ho : s.Offers .sessionOpen tag p)
    (hn : ∀ st : Station, byteAt p 0 = st.code → s.power.profile.hasStation st = false) :
    exec (.sessionOpen tag) s = .next (s.answerNo tag .sessionOpen .badValue) := by
  have nowhere : (stationAt p 0).filter (s.holds tag).power.profile.hasStation = none := by
    cases hs : stationAt p 0 with
    | none => rfl
    | some st => exact Option.filter_eq_none_iff.2 (by rintro _ ⟨⟩; exact Bool.eq_false_iff.1 (hn st (stationAt_some hs)))
  have taking : exec (.sessionOpen tag) s = execSessionOpen tag s := rfl
  rw [taking]
  unfold execSessionOpen
  rw [ho.take, nowhere]
  exact congrArg _ (ho.refuse _)

/-- A request for a station of the profile, check by check. -/
theorem sessionOpen_answers (ho : s.Offers .sessionOpen tag p) (hst : byteAt p 0 = st.code)
    (has : s.power.profile.hasStation st = true) : exec (.sessionOpen tag) s = .next (
      if s.conds.inService = false then s.answerNo tag .sessionOpen .outOfService
      else if s.power.standby = true then s.answerNo tag .sessionOpen .standby
      else if s.front st ≠ none then s.answerNo tag .sessionOpen .stationBusy
      else match s.idleRecord with
        | none => s.answerNo tag .sessionOpen .noSession
        | some r =>
          let t := (s.holds tag).openSession r st
          t.ok tag ((t.handleOf r).bytes ++ slotsByte (t.boundSlots (t.handleOf r)))) := by
  have named : (stationAt p 0).filter (s.holds tag).power.profile.hasStation = some st := by
    rw [stationAt_code hst]
    exact Option.filter_eq_some_iff.2 ⟨rfl, has⟩
  have service : (s.holds tag).conds.inService = s.conds.inService := rfl
  have standby : (s.holds tag).power.standby = s.power.standby := rfl
  have front : (s.holds tag).front st = s.front st := rfl
  have idle : (s.holds tag).idleRecord = s.idleRecord := rfl
  have taking : exec (.sessionOpen tag) s = execSessionOpen tag s := rfl
  rw [taking]
  unfold execSessionOpen
  rw [ho.take, named]
  simp only [checked_cons, checked_nil, ho.refuse, service, standby, front, idle]
  cases s.conds.inService <;> cases s.power.standby <;> cases s.front st <;> rfl

theorem slotsByte_boundSlots (t : State) (h : SessionHandle) :
    slotsByte (t.boundSlots h) = le1 (bitsOf (fun n : Fin 4 => (t.slot n).bound = some h)).toNat := by
  have same : (fun n : Fin 4 => (t.boundSlots h).contains n) = fun n => decide ((t.slot n).bound = some h) := by
    funext n
    rw [Bool.eq_iff_iff, List.contains_iff_mem]
    unfold State.boundSlots
    rw [List.mem_filter]
    exact and_iff_right (mem_allFin n)
  unfold slotsByte
  rw [same]

/-- Settles O17: the checks of R20 in their order, and what the opening leaves, stage by stage. -/
theorem sessionOpenOpensTheLowestIdleRecord : Obligations.SessionOpenOpensTheLowestIdleRecord := by
  unfold Obligations.SessionOpenOpensTheLowestIdleRecord
  refine fun s tag p ho => ⟨sessionOpen_badStation ho, fun st hst has => ?_⟩
  rw [sessionOpen_answers ho hst has]
  refine ⟨fun out => ?_, fun inn stand => ?_, fun inn up busy => ?_, fun inn up free none => ?_,
    fun r inn up free idle lower => ?_⟩
  · rw [if_pos out]
  · rw [if_neg (by rw [inn]; decide), if_pos stand]
  · rw [if_neg (by rw [inn]; decide), if_neg (by rw [up]; decide), if_pos busy]
  · rw [if_neg (by rw [inn]; decide), if_neg (by rw [up]; decide), if_neg (not_not.2 free), idleRecord_none none]
  · rw [if_neg (by rw [inn]; decide), if_neg (by rw [up]; decide), if_neg (not_not.2 free), idleRecord_some idle lower]
    dsimp only
    have record (q : Fin 8) : (s.holds tag).record q = s.record q := rfl
    have handle : ((s.holds tag).openSession r st).handleOf r = ⟨r, (s.record r).gen + 1⟩ := by
      unfold State.handleOf
      rw [openSession_record, if_pos rfl, record]
    rw [handle, slotsByte_boundSlots]
    obtain ⟨table, notices, queue, named⟩ := openSession_link (s.holds tag) r st
    have reply := ho.ok_link table
    have bound (n : Fin 4) (hn : (s.slot n).state = .mounted ∧ s.power.profile.stationOfSlot n = st) :
        ((s.holds tag).openSession r st).slot n = (s.slot n).boundTo ⟨r, (s.record r).gen + 1⟩ s.now :=
      (openSession_slot (s.holds tag) r st n).trans (if_pos hn)
    refine ⟨_, rfl, ?_, fun q hq => ?_, ?_, fun st' hs => ?_, ?_, fun q hq => ?_, ?_, ?_, ?_, ?_, fun n hm hb => ?_,
      fun n hn => ?_, ⟨notices, ?_, named⟩, (reply _).1, ?_⟩
    · exact (openSession_record (s.holds tag) r r st).trans (if_pos rfl)
    · exact (openSession_record (s.holds tag) r q st).trans (if_neg hq)
    · exact (openSession_front (s.holds tag) r st st).trans (if_pos rfl)
    · exact (openSession_front (s.holds tag) r st st').trans (if_neg hs)
    · exact (openSession_account (s.holds tag) r r st).trans (if_pos rfl)
    · exact (openSession_account (s.holds tag) r q st).trans (if_neg hq)
    · exact congrArg CondSet.bits (openSession_sessionSet (s.holds tag) r st)
    · exact congrArg CondSet.mask (openSession_sessionSet (s.holds tag) r st)
    · exact (openSession_catalogue (s.holds tag) r st).1
    · exact (openSession_catalogue (s.holds tag) r st).2
    · rw [slot_congr (State.ChangesOnly.ok_op _ _ _).slots, bound n ⟨hm, hb⟩]
      exact Slot.boundTo_fields _ _ _
    · refine (openSession_slot (s.holds tag) r st n).trans (if_neg ?_)
      rintro ⟨hm, hb⟩
      exact hn.elim (· hm) (· hb)
    · exact (reply _).2.trans (congrArg (· ++ _) queue)
    · exact ((((State.ChangesOnly.refl s [.link]).holds tag (by decide)).mono (by decide)).after (openSession_op _ r st)
        (by decide)).ok _ _ (by decide)

end Sys2Proof.Machine

/-! Orders committed, finished and cancelled before their commit (R74, R87, R89, R97). -/

namespace Sys2Proof.Machine

variable {s : State} {tag : Byte} {p : List Byte}

/-! ### Lines in use and their copies -/

theorem mem_used {o : Order} {x : Fin 16 × Line} : x ∈ o.used ↔ o.lines.get x.1 = some x.2 := by
  obtain ⟨k, l⟩ := x
  unfold Order.used
  simp only [List.mem_filterMap, Option.map_eq_some_iff, Prod.mk.injEq]
  constructor
  · rintro ⟨k', -, l', hl, rfl, rfl⟩
    exact hl
  · exact fun hl => ⟨k, mem_allFin k, l, hl, rfl, rfl⟩

theorem used_all_final (o : Order) : o.used.all (fun x => x.2.final) = true ↔
    ∀ k l, o.lines.get k = some l → allFinal l = true := by
  rw [List.all_eq_true]
  exact ⟨fun h k l hl => h (k, l) (mem_used.2 hl), fun h x hx => h x.1 x.2 (mem_used.1 hx)⟩

/-! ### A reference count lowered (R66) -/

theorem count_get (c : Catalogue) (h : CatHandle) (f : Nat → Nat) (x : Fin 2048) : (c.count h f).table.get x =
    if h = { position := x, gen := (c.table.get x).gen } then
      { gen := (c.table.get x).gen, entry := (c.table.get x).entry.map (fun e => { e with refs := f e.refs }) }
    else c.table.get x := by
  obtain ⟨q, g⟩ := h
  unfold Catalogue.count Catalogue.entry?
  dsimp only
  by_cases named : (⟨q, g⟩ : CatHandle) = { position := x, gen := (c.table.get x).gen }
  · cases named
    rw [if_pos rfl, if_pos rfl]
    cases he : (c.table.get x).entry with
    | none =>
      show c.table.get x = { gen := (c.table.get x).gen, entry := none }
      rw [← he]
    | some e => exact get_put_same ..
  · rw [if_neg named]
    split
    · next e he =>
      refine get_put_ne _ (fun hq => named ?_) _
      subst hq
      by_cases hg : (c.table.get q).gen = g
      · rw [hg]
      · rw [if_neg hg] at he
        cases he
    · rfl

/-- The references of lines fallen, one after another. -/
def State.refsFallen (s : State) (xs : List (Fin 16 × Line)) : State := s.each xs (fun t x => t.refFalls x.2.image)

theorem refsFallen_op (s : State) (xs : List (Fin 16 × Line)) : s.ChangesOnly (s.refsFallen xs) [.catalogue] :=
  (State.ChangesOnly.refl s _).each _ _ (fun v _ => State.ChangesOnly.refFalls_op v _)

theorem refsFallen_lists (s : State) (xs : List (Fin 16 × Line)) : (s.refsFallen xs).catalogue.lists = s.catalogue.lists :=
  each_same (fun t => t.catalogue.lists) _ (fun _ _ => count_lists _ _ _) s xs

theorem refsFallen_gen (s : State) (xs : List (Fin 16 × Line)) (q : Fin 2048) :
    ((s.refsFallen xs).catalogue.table.get q).gen = (s.catalogue.table.get q).gen := by
  refine each_same (fun t => (t.catalogue.table.get q).gen) _ (fun t y => ?_) s xs
  refine (congrArg Position.gen (count_get t.catalogue y.2.image (· - 1) q)).trans ?_
  split_ifs <;> rfl

theorem refsFallen_entry (xs : List (Fin 16 × Line)) {s : State} {x : Fin 2048} {g : Byte} {e : CatEntry}
    (h : s.catalogue.table.get x = { gen := g, entry := some e }) : (s.refsFallen xs).catalogue.table.get x =
      { gen := g, entry := some { e with
        refs := e.refs - (xs.filter (fun y => y.2.image = { position := x, gen := g })).length } } := by
  induction xs generalizing s e with
  | nil => exact h
  | cons y rest ih =>
    have one : (s.refFalls y.2.image).catalogue.table.get x = _ := count_get s.catalogue y.2.image (· - 1) x
    rw [h] at one
    dsimp only at one
    by_cases named : y.2.image = { position := x, gen := g }
    · rw [if_pos named] at one
      refine (ih one).trans ?_
      rw [List.filter_cons_of_pos (by simpa using named), List.length_cons]
      dsimp only
      rw [Nat.sub_sub, Nat.add_comm 1]
    · rw [if_neg named] at one
      refine (ih one).trans ?_
      rw [List.filter_cons_of_neg (by simpa using named)]

/-! ### The order of a handle -/

theorem order?_setOrder {h : OrderHandle} (hg : (s.orderRecord h.record).gen = h.gen) (o : Order) :
    (s.setOrder h.record o).order? h = some o := by
  unfold State.order? State.setOrder
  rw [State.orderRecord_setOrderRecord, if_pos hg]

theorem orderRecord_congr {s t : State} (h : t.orders = s.orders) (k : Fin 16) : t.orderRecord k = s.orderRecord k := by
  unfold State.orderRecord
  rw [h]

/-! ### The commit (R87) -/

/-- The commit up to the session's fields: the order's record, its references and its rasters' share. -/
def State.charged (s : State) (h : OrderHandle) (o : Order) (card : Nat) : State :=
  ((s.setOrder h.record (o.committed card)).refsFallen o.used).unchargeOrder h

/-- The order joins its session's list. -/
def State.joined (s : State) (h : OrderHandle) (x : SessionHandle) : State :=
  if s.current x then
    s.setRecord x.record { s.record x.record with uncommitted := none, committed := (s.record x.record).committed ++ [h] }
  else s

theorem commitOrder_eq (s : State) (h : OrderHandle) (o : Order) (card : Nat) : s.commitOrder h o card =
    (let t := (s.charged h o card).joined h o.session;
    t.setPrints { t.prints with queue := t.prints.queue ++ o.used.map (fun x => { order := h, line := x.1 }) }) := rfl

theorem charged_op (s : State) (h : OrderHandle) (o : Order) (card : Nat) :
    s.ChangesOnly (s.charged h o card) [.orders, .catalogue, .spool] :=
  (((State.ChangesOnly.setOrder_op s _ _).mono (by decide)).after (refsFallen_op _ _) (by decide)).unchargeOrder _ (by decide)

theorem joined_op (s : State) (h : OrderHandle) (x : SessionHandle) : s.ChangesOnly (s.joined h x) [.sessions] := by
  unfold State.joined
  split_ifs
  · exact State.ChangesOnly.setRecord_op s _ _
  · exact .refl s _

theorem charged_current (s : State) (h : OrderHandle) (o : Order) (card : Nat) (x : SessionHandle) :
    (s.charged h o card).current x = s.current x := by
  unfold State.current
  rw [record_congr (charged_op s h o card).sessions]

theorem commitOrder_record (s : State) (h : OrderHandle) (o : Order) (card : Nat) (r : Fin 8) :
    (s.commitOrder h o card).record r = if s.current o.session = true ∧ r = o.session.record then
      { s.record r with uncommitted := none, committed := (s.record r).committed ++ [h] } else s.record r := by
  have before (q : Fin 8) := record_congr (charged_op s h o card).sessions q
  rw [commitOrder_eq]
  show ((s.charged h o card).joined h o.session).record r = _
  unfold State.joined
  rw [charged_current]
  by_cases hc : s.current o.session = true
  · rw [if_pos hc, record_setRecord_eq, before, before]
    by_cases hr : r = o.session.record
    · subst hr
      rw [if_pos rfl, if_pos ⟨hc, rfl⟩]
    · rw [if_neg hr, if_neg (fun h => hr h.2)]
  · rw [if_neg hc, if_neg (fun h => hc h.1), before]

theorem commitOrder_orders (s : State) (h : OrderHandle) (o : Order) (card : Nat) :
    (s.commitOrder h o card).orders = (s.setOrder h.record (o.committed card)).orders := by
  rw [commitOrder_eq]
  dsimp only
  rw [State.setPrints_orders, (joined_op _ _ _).orders]
  unfold State.charged
  rw [(State.ChangesOnly.unchargeOrder_op _ _).orders, (refsFallen_op _ _).orders]

theorem commitOrder_catalogue (s : State) (h : OrderHandle) (o : Order) (card : Nat) :
    (s.commitOrder h o card).catalogue = ((s.setOrder h.record (o.committed card)).refsFallen o.used).catalogue := by
  rw [commitOrder_eq]
  dsimp only
  rw [State.setPrints_catalogue, (joined_op _ _ _).catalogue]
  exact (State.ChangesOnly.unchargeOrder_op _ _).catalogue

theorem commitOrder_spool (s : State) (h : OrderHandle) (o : Order) (card : Nat) : (s.commitOrder h o card).spool =
    { s.spool with rasters := s.spool.rasters.map (fun x => if x.order = h then { x with charged := none } else x) } := by
  have before : ((s.setOrder h.record (o.committed card)).refsFallen o.used).spool = s.spool := (refsFallen_op _ _).spool
  rw [commitOrder_eq]
  dsimp only
  rw [State.setPrints_spool, (joined_op _ _ _).spool]
  unfold State.charged State.unchargeOrder
  rw [State.setSpool_spool, before]

theorem commitOrder_prints (s : State) (h : OrderHandle) (o : Order) (card : Nat) : (s.commitOrder h o card).prints =
    { s.prints with queue := s.prints.queue ++ o.used.map (fun x => { order := h, line := x.1 }) } := by
  rw [commitOrder_eq]
  dsimp only
  rw [State.setPrints_prints, (joined_op _ _ _).prints, (charged_op _ _ _ _).prints]

theorem finishOrder_eq (s : State) (h : OrderHandle) (o : Order) : s.finishOrder h o = (
    let earned := o.collected - o.refunded;
    let till := s.money.till;
    let t : State := { s with money := { s.money with till := { till with earned := till.earned + BitVec.ofNat 32 earned } } };
    let u := t.notify 0xC4 (h.bytes ++ o.session.bytes ++ [4, 8] ++ le4 o.collected ++ le4 o.refunded ++ le4 earned);
    (u.orderLeft o.session h earned o.refunded).setOrderRecord h.record { gen := h.gen, body := none }) := by
  unfold State.finishOrder
  rfl

theorem settleLines_eq (s : State) (h : OrderHandle) (ks : List (Fin 16)) : s.settleLines h ks = (
    let t := ks.foldl (fun w k => match (w.order? h).bind (fun o => o.lines.get k) with
      | some l => if allFinal l then w.finishLine h k else w
      | none => w) s;
    match t.order? h with
    | some o => if ∀ k l, o.lines.get k = some l → allFinal l = true then t.finishOrder h o else t
    | none => t) := by
  unfold State.settleLines
  rw [each_congr (g := fun w k => match (w.order? h).bind (fun o => o.lines.get k) with
      | some l => if allFinal l then w.finishLine h k else w
      | none => w) (fun w k => by cases (w.order? h).bind (fun o => o.lines.get k) <;> rfl)]
  dsimp only
  generalize List.foldl _ s ks = t
  cases t.order? h with
  | none => rfl
  | some o => exact if_congr (used_all_final o) rfl rfl

theorem setLineRaster_eq (s : State) (h : OrderHandle) (k : Fin 16) (r : RasterState) : s.setLineRaster h k r =
    match s.order? h with
    | none => s
    | some o => match o.lines.get k with
      | none => s
      | some l => s.setOrder h.record { o with lines := put o.lines k (some { l with raster := r }) } := by
  unfold State.setLineRaster
  cases s.order? h with
  | none => rfl
  | some o => cases o.lines.get k <;> rfl

theorem committed_eq {o : Order} {q : Quote} (hq : o.quote = some q) (card : Nat) : o.committed card = { o with
    state := .committed, collected := q.total, paidCard := card, termRef := if 0 < card then o.termRef else none
    refundedBase := 0, refundedTax := 0, refunded := 0, creditRefunded := 0, cancel := false
    lines := o.lines.map (fun l => l.map (fun x => { x with copies :=
      { queued := x.quantity, inFlight := 0, retryPending := 0, delivered := 0, finalFailed := 0 } })) } := by
  have total : (o.quote.map (fun q => q.total)).getD 0 = q.total := by rw [hq]; rfl
  unfold Order.committed
  rw [total]
  rfl

/-- Settles O35: the operations at a line's and an order's end, and the commit field by field. -/
theorem committedOrdersAreQueuedAndFinish : Obligations.CommittedOrdersAreQueuedAndFinish := by
  unfold Obligations.CommittedOrdersAreQueuedAndFinish
  refine ⟨setLineRaster_eq, fun _ _ _ => rfl, finishOrder_eq, settleLines_eq, fun s h o q card hg hq => ?_⟩
  have orders := commitOrder_orders s h o card
  refine ⟨?_, fun k hk => ?_, commitOrder_prints s h o card, commitOrder_spool s h o card, fun hc => ?_, fun r hr => ?_, ?_,
    fun x => ⟨?_, fun e he => ?_⟩, State.ChangesOnly.commitOrder_op s h o card⟩
  · rw [order?_congr orders, order?_setOrder hg, committed_eq hq]
  · rw [orderRecord_congr orders]
    exact State.orderRecord_setOrderRecord_ne _ (Ne.symm hk) _
  · rw [commitOrder_record, if_pos ⟨hc, rfl⟩]
  · rw [commitOrder_record, if_neg]
    rintro ⟨hc, rfl⟩
    exact hr.elim (fun stale => by rw [hc] at stale; cases stale) (fun other => other rfl)
  · rw [commitOrder_catalogue]
    exact refsFallen_lists _ _
  · rw [commitOrder_catalogue]
    exact refsFallen_gen _ _ x
  · have entry : (s.setOrder h.record (o.committed card)).catalogue.table.get x =
        { gen := (s.catalogue.table.get x).gen, entry := some e } := by rw [← he]; rfl
    rw [commitOrder_catalogue, refsFallen_entry o.used entry]

end Sys2Proof.Machine

/-! ORDER_CANCEL (R89 to R91): an order cancelled before its commit, its cancel asked, and a committed order's waiting copies refunded. -/

namespace Sys2Proof.Machine

variable {s : State} {tag : Byte} {p : List Byte}

/-! ### The cancel of an uncommitted order (R89) -/

/-- The rasters of an order's lines freed, then its references fallen. -/
def State.linesReleased (s : State) (h : OrderHandle) (o : Order) : State :=
  (s.each o.used (fun t x => t.freeRaster h x.1)).refsFallen o.used

theorem linesReleased_op (s : State) (h : OrderHandle) (o : Order) :
    s.ChangesOnly (s.linesReleased h o) [.spool, .link, .conds, .catalogue] :=
  ((State.ChangesOnly.refl s _).each o.used (fun t x => t.freeRaster h x.1)
    (fun v x => (State.ChangesOnly.freeRaster_op v h x.1).mono (by decide))).after
    (refsFallen_op _ _) (by decide)

theorem cancelOrder_released (s : State) (h : OrderHandle) (o : Order) : s.cancelOrder h o =
    ((s.linesReleased h o).clearUncommitted o.session h).setOrderRecord h.record { gen := h.gen, body := none } := rfl

theorem cancelOrder_eq (s : State) (h : OrderHandle) (o : Order) : s.cancelOrder h o = (
    let freed := o.used.foldl (fun w x => w.freeRaster h x.1) s;
    let fallen := o.used.foldl (fun w x => w.refFalls x.2.image) freed;
    let x := fallen.record o.session.record;
    let cleared := if fallen.current o.session then fallen.setRecord o.session.record { x with
        uncommitted := none, closedOrder := if x.state = .closing then some h else x.closedOrder }
      else fallen;
    cleared.setOrderRecord h.record { gen := h.gen, body := none }) := rfl

/-- The same of an order whose session is not in CLOSING. -/
theorem cancelOrder_open (h : OrderHandle) (o : Order) (hs : (s.record o.session.record).state ≠ .closing) :
    s.cancelOrder h o = (
      let freed := o.used.foldl (fun w x => w.freeRaster h x.1) s;
      let fallen := o.used.foldl (fun w x => w.refFalls x.2.image) freed;
      let x := fallen.record o.session.record;
      let cleared := if s.current o.session then fallen.setRecord o.session.record { x with uncommitted := none } else fallen;
      cleared.setOrderRecord h.record { gen := h.gen, body := none }) := by
  have sessions := (linesReleased_op s h o).sessions
  have kept := record_congr sessions o.session.record
  have current : (s.linesReleased h o).current o.session = s.current o.session := by
    unfold State.current
    rw [kept]
  have still : ((s.linesReleased h o).record o.session.record).state ≠ .closing := by rw [kept]; exact hs
  rw [cancelOrder_released]
  unfold State.clearUncommitted
  dsimp only
  rw [current, if_neg still]
  rfl

theorem cancelOrder_orderRecord {k : Fin 16} (h : OrderHandle) (o : Order) (hk : k ≠ h.record) :
    (s.cancelOrder h o).orderRecord k = s.orderRecord k := by
  rw [cancelOrder_released, State.orderRecord_setOrderRecord_ne _ (Ne.symm hk)]
  refine orderRecord_congr (Eq.trans ?_ (linesReleased_op s h o).orders) k
  exact (State.ChangesOnly.clearUncommitted_op _ _ _).orders

theorem refFalls_eq (w : State) (i : CatHandle) : w.refFalls i = match w.catalogue.entry? i with
    | some e => { w with catalogue := { w.catalogue with
      table := put w.catalogue.table i.position { gen := i.gen, entry := some { e with refs := e.refs - 1 } } } }
    | none => w := by
  unfold State.refFalls Catalogue.count
  cases w.catalogue.entry? i <;> rfl

/-! ### A committed order's refund (R91, R94 to R96) -/

theorem refund_eq {o : Order} {q : Quote} (hq : o.quote = some q) (base : Nat) : o.refund base = (
    let tax := min q.tax (((o.refundedBase + base) * q.rate + 5000) / 10000);
    let inc := (o.refundedBase + base - o.refundedBase) + (tax - o.refundedTax);
    let toCredit := min inc (o.paidCredit - o.creditRefunded);
    ({ o with refundedBase := o.refundedBase + base, refundedTax := tax, refunded := o.refunded + inc
              creditRefunded := o.creditRefunded + toCredit }, inc, toCredit, inc - toCredit)) := by
  have rate : (o.quote.map (fun q => q.rate)).getD 0 = q.rate := by rw [hq]; rfl
  have tax : (o.quote.map (fun q => q.tax)).getD 0 = q.tax := by rw [hq]; rfl
  unfold Order.refund taxOn
  rw [rate, tax]

/-- An attendant's cancel, the amounts written out from the quote. -/
theorem cancelCommitted_eq (s : State) (tag : Byte) (h : OrderHandle) {o : Order} {q : Quote} (hq : o.quote = some q) :
    s.cancelCommitted tag h o = (
      let after : Counters → Counters := fun c =>
        { c with queued := 0, retryPending := 0, finalFailed := c.finalFailed + (c.queued + c.retryPending) };
      let moved := o.used.filter (fun x => 0 < x.2.copies.queued + x.2.copies.retryPending);
      let base := o.refundedBase + (moved.map (fun x =>
        (x.2.copies.queued + x.2.copies.retryPending) * ((q.lines.get x.1).map (fun y => y.unit)).getD 0)).sum;
      let tax := min q.tax ((base * q.rate + 5000) / 10000);
      let inc := (base - o.refundedBase) + (tax - o.refundedTax);
      let toCredit := min inc (o.paidCredit - o.creditRefunded);
      let toCard := inc - toCredit;
      let o1 := { o with
        cancel := true, lines := o.lines.map (fun l => l.map (fun x => { x with copies := after x.copies })) };
      let paid := if moved = [] then s.setOrder h.record o1 else
        let v := (s.setOrder h.record { o1 with
          refundedBase := base, refundedTax := tax, refunded := o.refunded + inc
          creditRefunded := o.creditRefunded + toCredit }).addCredit o.session.record toCredit;
        if 0 < toCard then v.makeRefund { session := some o.session, order := some h, ref := o.termRef.getD 0
                                          amount := toCard, cause := .refund }
        else v;
      let amounts := if moved = [] then le4 0 ++ le4 0 ++ le4 0 else le4 inc ++ le4 toCredit ++ le4 toCard;
      State.ok (State.evalPrints (State.settleLines (paid.cancelNotices h o.session amounts moved) h (moved.map (·.1))))
        tag (le1 o1.used.length ++ o1.used.flatMap (fun x => le1 x.1.val ++ le1 x.2.copies.queued ++
          le1 x.2.copies.inFlight ++ le1 x.2.copies.retryPending ++ le1 x.2.copies.delivered ++
          le1 x.2.copies.finalFailed))) := by
  have unit (k : Fin 16) : o.unitOf k = ((q.lines.get k).map (fun y => y.unit)).getD 0 := by
    unfold Order.unitOf
    rw [hq]
    rfl
  unfold State.cancelCommitted State.refundCopies
  simp only [unit]
  rw [refund_eq (o := { o with
    cancel := true, lines := o.lines.map (fun l => l.map (fun x => { x with copies := x.copies.cancelled })) }) hq]
  dsimp only
  by_cases still : o.used.filter (fun x => decide (0 < x.2.copies.waiting)) = []
  · have still' : o.used.filter (fun x => decide (0 < x.2.copies.queued + x.2.copies.retryPending)) = [] := still
    rw [if_pos still, if_pos still', if_pos still']
    rfl
  · have still' : o.used.filter (fun x => decide (0 < x.2.copies.queued + x.2.copies.retryPending)) ≠ [] := still
    rw [if_neg still, if_neg still', if_neg still']
    rfl

/-! ### The request -/

/-- ORDER_CANCEL behind the order's handle. -/
theorem orderCancel_behindHandle (ho : s.Offers .orderCancel tag p) {h : OrderHandle} {o : Order}
    (hr : byteAt p 0 = h.record.val) (hg : p.getD 1 0 = h.gen) (hx : s.order? h = some o) : exec (.orderCancel tag) s = .next (
      let t := (s.touchHandle o.session).holds tag
      if o.state = .committed then
        t.checked tag [(decide (t.conds.mode = .service), .notService), (!o.cancel, .badState)] (t.cancelCommitted tag h o)
      else
        match sessionRefusal .orderCancel (s.record o.session.record).state with
        | some e => t.refuse tag e
        | none =>
          if o.editable then (t.cancelOrder h o).ok tag [5]
          else if o.cancel then t.refuse tag .badState
          else ((t.setOrder h.record { o with cancel := true }).cancelAuth h).ok tag [2]) := by
  have taking : exec (.orderCancel tag) s = execOrderCancel tag s := rfl
  have state : (((s.touchHandle o.session).holds tag).record o.session.record).state = (s.record o.session.record).state :=
    touchHandle_state _ _ _
  rw [taking]
  unfold execOrderCancel
  rw [ho.take, ← namesOrder_other (c := .orderCancel) _ (by decide), namesOrder_of_order hr hg hx, holds_touchHandle, state]
  rfl

theorem orderCancel_session {x : SessionState} : (x = .active → sessionRefusal .orderCancel x = none) ∧
    (x = .suspended → sessionRefusal .orderCancel x = some .suspended) ∧
    (x ∈ [.closing, .draining, .settling] → sessionRefusal .orderCancel x = some .badState) := by
  cases x <;> decide

/-- Settles O36: the cancel as an operation, then the request by the order's state and its session's. -/
theorem orderCancelByState : Obligations.OrderCancelByState := by
  unfold Obligations.OrderCancelByState
  refine ⟨cancelOrder_eq, fun s tag p h o ho hr hg hx => ?_⟩
  intro t no
  have answer := orderCancel_behindHandle ho hr hg hx
  have refused (e : Status) : (t.holds tag).refuse tag e = t.answerNo tag .orderCancel e := (ho.touchedHandle o.session).refuse e
  have active (ha : (s.record o.session.record).state = .active) : ((t.holds tag).record o.session.record).state = .active :=
    (touchHandle_state s o.session o.session.record).trans ha
  have current : (t.holds tag).current o.session = s.current o.session := (State.SessionsStand.touchHandle s o.session).current _
  have kept : (t.holds tag).conds.mode = s.conds.mode := congrArg Conditions.mode (State.ChangesOnly.touchHandle_op s o.session).conds
  refine ⟨fun hc => ⟨fun hs => ?_, fun hs => ?_⟩, fun ha he => ?_, refFalls_eq, fun ha hs => ⟨fun asked => ?_, fun fresh => ?_⟩,
    fun hc => ⟨fun mode => ?_, fun mode asked => ?_, fun q mode fresh hq => ?_⟩⟩
  · rw [if_neg hc, orderCancel_session.2.1 hs] at answer
    exact answer.trans (congrArg _ (refused _))
  · rw [if_neg hc, orderCancel_session.2.2 hs] at answer
    exact answer.trans (congrArg _ (refused _))
  · intro freed fallen x cleared u
    have cancelled : (t.holds tag).cancelOrder h o = u := by
      rw [cancelOrder_open h o (by rw [active ha]; decide), current]
    have hc : o.state ≠ .committed := by
      intro hc
      rw [hc] at he
      exact absurd he (by decide)
    have taken : s.ChangesOnly (t.holds tag) [.sessions, .link] :=
      ((State.ChangesOnly.touchHandle_op s o.session).mono (by decide)).holds tag (by decide)
    rw [← cancelled]
    refine ⟨?_, fun k hk => ?_, ?_, ?_, ?_⟩
    · rw [answer, if_neg hc, orderCancel_session.1 ha]
      dsimp only
      rw [if_pos (editable_iff.2 he)]
    · rw [cancelOrder_orderRecord h o hk, orderRecord_congr taken.orders]
    · rw [cancelOrder_lists, taken.catalogue]
    · rw [(State.ChangesOnly.cancelOrder_op _ h o).money, taken.money]
    · exact (taken.mono (by decide)).cancelOrder h o (by decide)
  · rw [if_neg (by rw [hs]; decide), orderCancel_session.1 ha] at answer
    dsimp only at answer
    rw [if_neg (by rw [editable_iff, hs]; decide), if_pos asked] at answer
    exact answer.trans (congrArg _ (refused _))
  · rw [answer, if_neg (by rw [hs]; decide), orderCancel_session.1 ha]
    dsimp only
    rw [if_neg (by rw [editable_iff, hs]; decide), if_neg (by rw [fresh]; decide)]
  · rw [if_pos hc, checked_cons, if_neg (by rw [kept, mode]; decide)] at answer
    exact answer.trans (congrArg _ (refused _))
  · rw [if_pos hc, checked_cons, if_pos (by rw [kept, mode]; decide), checked_cons, asked] at answer
    exact answer.trans (congrArg _ (refused _))
  · rw [if_pos hc, checked_cons, if_pos (by rw [kept, mode]; decide), checked_cons, fresh, checked_nil,
      cancelCommitted_eq _ tag h hq] at answer
    exact answer

end Sys2Proof.Machine

/-! SLIP_TAKE, REFUND_TAKE, the card refund log and TILL_ROLL (R30, R123 to R126). -/

namespace Sys2Proof.Machine

variable {s : State} {tag : Byte} {p : List Byte} {c : RequestCode}

/-- A request still stands ready where nothing but the money moved. -/
theorem State.Offers.money (h : s.Offers c tag p) (m : Money) : (s.setMoney m).Offers c tag p := h

/-! ### The head of the settling queue (R30) -/

theorem settleHead_of_nil (h : s.sessions.settling = []) : s.settleHead = s := by
  unfold State.settleHead
  rw [h]

theorem settleHead_of_cons {r : Fin 8} {queue : List (Fin 8)} (h : s.sessions.settling = r :: queue) :
    s.settleHead = (s.setSessions { s.sessions with settling := queue }).slipAndIdle r := by
  unfold State.settleHead
  rw [h]

/-- A session's slip issued and its record gone to IDLE, but for the notices. -/
theorem slipAndIdle_blocks (s : State) (r : Fin 8) :
    (s.slipAndIdle r).sessions.settling = s.sessions.settling ∧ (s.slipAndIdle r).sessions.fronts = s.sessions.fronts ∧
    (∀ q, (s.slipAndIdle r).record q =
      if q = r then (s.record r).idled (some ((s.account r).credit, s.money.slipCounter)) else s.record q) ∧
    (s.slipAndIdle r).money = { s.money with
      slips := s.money.slips ++
        [{ number := s.money.slipCounter, session := some (s.handleOf r), amount := (s.account r).credit, cause := .settlement }]
      slipCounter := if s.money.slipCounter = 65535 then 1 else s.money.slipCounter + 1
      till := { s.money.till with slipsIssued := s.money.till.slipsIssued + BitVec.ofNat 32 (s.account r).credit }
      accounts := put s.money.accounts r { s.account r with credit := 0 } } ∧
    s.ChangesOnly (s.slipAndIdle r) [.link, .money, .sessions, .conds] := by
  have op : s.ChangesOnly (s.slipAndIdle r) [.link, .money, .sessions, .conds] :=
    (((State.ChangesOnly.issueSlip_op s _ _ _).mono (by decide)).after (State.ChangesOnly.goIdle_op _ r _) (by decide))
  unfold State.slipAndIdle at op ⊢
  dsimp only at op ⊢
  rw [goIdle_eq_idled] at op ⊢
  exact ⟨rfl, rfl, fun q => get_put_read .., rfl, op⟩

theorem slipTake_taken (ho : s.Offers .slipTake tag p) {x : Slip} {rest : List Slip} (hs : s.money.slips = x :: rest) :
    exec (.slipTake tag) s = .next ((((s.holds tag).setMoney { s.money with slips := rest }).settleHead).ok tag
      (le2 x.number.toNat ++ sessionBytes x.session ++ le4 x.amount ++ le1 x.cause.code)) := by
  have slips : (s.holds tag).money.slips = x :: rest := hs
  have taking : exec (.slipTake tag) s = execSlipTake tag s := rfl
  rw [taking]
  unfold execSlipTake
  rw [ho.take, slips]
  rfl

theorem slipTake_empty (ho : s.Offers .slipTake tag p) (hs : s.money.slips = []) :
    exec (.slipTake tag) s = .next (s.answerNo tag .slipTake .logEmpty) := by
  have slips : (s.holds tag).money.slips = [] := hs
  have taking : exec (.slipTake tag) s = execSlipTake tag s := rfl
  rw [taking]
  unfold execSlipTake
  rw [ho.take, slips]
  exact congrArg _ (ho.refuse _)

/-! ### The card refund log (R124) -/

theorem refundTake_answers (ho : s.Offers .refundTake tag p) : exec (.refundTake tag) s = .next (match s.money.refunds with
    | [] => s.answerNo tag .refundTake .logEmpty
    | x :: rest => State.answerOk { s with money := { s.money with refunds := rest } } tag .refundTake
      (sessionBytes x.session ++ orderBytes x.order ++ le2 x.ref.toNat ++ le4 x.amount ++ le1 x.cause.code)) := by
  have refunds : (s.holds tag).money.refunds = s.money.refunds := rfl
  have taking : exec (.refundTake tag) s = execRefundTake tag s := rfl
  rw [taking]
  unfold execRefundTake
  rw [ho.take, refunds]
  cases s.money.refunds with
  | nil => exact congrArg _ (ho.refuse _)
  | cons x rest => exact congrArg _ ((ho.money { s.money with refunds := rest }).ok _)

theorem makeRefund_eq (s : State) (x : CardRefund) : s.makeRefund x = (
    let room := s.money.refunds.length < 16;
    let t := s.money.till;
    let amount : BitVec 32 := BitVec.ofNat 32 x.amount;
    let till1 := { t with cardRefundsIssued := t.cardRefundsIssued + amount };
    State.notify { s with money := { s.money with
      refunds := if room then s.money.refunds ++ [x] else s.money.refunds
      till := if room then till1 else { till1 with unlogged := t.unlogged + amount } } } 0xCA
      (sessionBytes x.session ++ orderBytes x.order ++ le2 x.ref.toNat ++ le4 x.amount ++ le1 x.cause.code ++
        flagByte (decide room))) := by
  unfold State.makeRefund
  dsimp only
  by_cases room : s.money.refunds.length < 16
  · have logged : s.money.refunds.length < Config.refundLogSize := room
    simp only [logged, room, decide_true, if_true]
    rfl
  · have unlogged : ¬ s.money.refunds.length < Config.refundLogSize := room
    simp only [unlogged, room, decide_false, if_false, Bool.false_eq_true]
    rfl

/-! ### TILL_ROLL (R126) -/

theorem moneyHeld_iff (s : State) : s.moneyHeld = true ↔ (∃ r, 0 < (s.account r).credit) ∨
    (∃ k o, (s.orderRecord k).body = some o ∧ o.state ∈ [.authorising, .committed]) := by
  unfold State.moneyHeld
  rw [Bool.or_eq_true, List.any_eq_true, List.any_eq_true]
  refine or_congr ?_ ?_
  · simp
  · simp [Option.any_eq_true]

theorem tillRoll_answers (ho : s.Offers .tillRoll tag p) : exec (.tillRoll tag) s = .next (
    if s.conds.mode = .customer then s.answerNo tag .tillRoll .notService
    else if s.moneyHeld = true then s.answerNo tag .tillRoll .moneyHeld
    else s.zeroTill.answerOk tag .tillRoll s.tillFields) := by
  have mode : (s.holds tag).conds.mode = s.conds.mode := rfl
  have held : (s.holds tag).moneyHeld = s.moneyHeld := rfl
  have rolled : (s.holds tag).zeroTill.ok tag (s.holds tag).tillFields = s.zeroTill.answerOk tag .tillRoll s.tillFields :=
    (ho.money { s.money with
      till := Till.zero, units := s.money.units.map (fun c => { c with coins := 0, bills := 0 }) }).ok s.tillFields
  have taking : exec (.tillRoll tag) s = execTillRoll tag s := rfl
  rw [taking]
  unfold execTillRoll
  rw [ho.take, checked_cons, checked_cons, checked_nil, mode, held, ho.refuse, ho.refuse, rolled]
  cases s.conds.mode <;> cases s.moneyHeld <;> rfl

/-- Settles O39: each taking from a log, the refund record, and the roll check by check. -/
theorem logsAreTakenAndTheTillRolled : Obligations.LogsAreTakenAndTheTillRolled := by
  unfold Obligations.LogsAreTakenAndTheTillRolled
  refine ⟨fun s tag p ho => ⟨slipTake_empty ho, fun x rest hs => ⟨fun none => ?_, fun r queue head => ?_⟩⟩,
    fun s tag p ho => refundTake_answers ho, makeRefund_eq, fun s tag p ho => ?_⟩
  · have idle : ((s.holds tag).setMoney { s.money with slips := rest }).sessions.settling = [] := none
    rw [slipTake_taken ho hs, settleHead_of_nil idle]
    exact congrArg _ ((ho.money { s.money with slips := rest }).ok _)
  · have waits : ((s.holds tag).setMoney { s.money with slips := rest }).sessions.settling = r :: queue := head
    refine ⟨_, slipTake_taken ho hs, ?_⟩
    rw [settleHead_of_cons waits]
    generalize hw : ((s.holds tag).setMoney { s.money with slips := rest }).setSessions _ = w
    obtain ⟨settling, fronts, record, money, op⟩ := slipAndIdle_blocks w r
    have before : s.ChangesOnly w [.link, .money, .sessions] := by
      rw [← hw]
      exact (((State.ChangesOnly.refl s _).holds tag (by decide)).setMoney _ (by decide)).setSessions _ (by decide)
    subst hw
    exact ⟨settling, money, (record r).trans (if_pos rfl), fun q hq => (record q).trans (if_neg hq), fronts,
      (before.mono (by decide)).after op (by decide)⟩
  · rw [tillRoll_answers ho]
    intro held
    refine ⟨fun mode => by rw [if_pos mode], fun mode money => ?_, fun mode none => ?_⟩
    · rw [if_neg (by rw [mode]; decide), if_pos ((moneyHeld_iff s).2 money)]
    · rw [if_neg (by rw [mode]; decide), if_neg (fun h => none ((moneyHeld_iff s).1 h))]
      rfl

end Sys2Proof.Machine

/-! Authorisations that end without approval (R88, R90, R118, R120, R121): the operations, and the terminal's messages and limits. -/

namespace Sys2Proof.Machine

variable {s : State}

/-! ### The operations -/

theorem cancelAuth_eq (s : State) (h : OrderHandle) : s.cancelAuth h = (
    let t := s.money.terminal;
    match t.waiting.find? (fun a => a.order = h) with
    | some a => (s.setTerminal { t with waiting := t.waiting.filter (fun x => x.order ≠ h) }).endUnapproved a .cancelled
    | none => match t.state with
      | .busy a _ =>
        if a.order = h then { s.setTerminal { t with state := .cancelling a.ref (some a) s.now } with
          sent := s.sent ++ [.cancelAuth a.ref] }
        else s
      | _ => s) := by
  unfold State.cancelAuth
  dsimp only
  cases s.money.terminal.waiting.find? (fun a => a.order = h) with
  | some a => rfl
  | none => cases s.money.terminal.state <;> rfl

theorem endUnapproved_eq (s : State) (a : Auth) (cause : OrderCause) : s.endUnapproved a cause = match s.order? a.order with
    | none => s
    | some o =>
      let t := (s.addCredit o.session.record o.paidCredit).touchHandle o.session
      State.closingExitOf (if o.cancel then
          State.notify (t.cancelOrder a.order o) 0xC4 (a.order.bytes ++ o.session.bytes ++ [5, 6])
        else State.notify (t.setOrder a.order.record { o with state := .quoted, paidCredit := 0, termRef := none }) 0xC4
          (a.order.bytes ++ o.session.bytes ++ [1] ++ le1 cause.code)) (some o.session) := by
  unfold State.endUnapproved
  cases s.order? a.order with
  | none => rfl
  | some o =>
    dsimp only
    rw [orderNotice_bare, orderNotice_bare, ← List.append_assoc (_ ++ _) (le1 OrderState.quoted.code)]
    rfl

theorem cancelAsked_iff (s : State) (a : Auth) : s.cancelAsked a = true ↔ ∃ o, s.order? a.order = some o ∧ o.cancel = true := by
  unfold State.cancelAsked
  rw [Option.any_eq_true]

theorem endWithCondition_eq (s : State) (a : Auth) (cause : OrderCause) (i : Fin 8) : s.endWithCondition a cause i =
    if ∃ o, s.order? a.order = some o ∧ o.cancel = true then s.endUnapproved a cause
    else (s.endUnapproved a cause).raiseSession a.session i (a.order.bytes ++ le2 a.ref.toNat) :=
  if_congr (cancelAsked_iff s a) rfl rfl

/-! ### The terminal heard -/

/-- Before the load of start-up ends nothing is heard. -/
theorem heard_starting (hs : s.power.starting = true) (act : State → State) : s.heard act = s := if_pos hs

theorem heard_running (hs : s.power.starting = false) (act : State → State) : s.heard act = act s :=
  if_neg (by rw [hs]; decide)

theorem terminalMessage_running (hs : s.power.starting = false) (act : State → State) :
    s.terminalMessage act = act (terminalHeard s) := by
  unfold State.terminalMessage terminalHeard
  rw [heard_running hs]
  dsimp only
  have same : (s.setTerminal { s.money.terminal with lastHeard := s.now }).money.terminal.state = s.money.terminal.state := rfl
  rw [same]
  cases s.money.terminal.state <;> rfl

theorem notTaken_eq (t : State) (ref : BitVec 16) : t.notTaken ref = (match t.money.terminal.state with
    | .busy a _ => if a.ref = ref then State.handTerminal ((portLeaves t a).endWithCondition a .declined 2) else t
    | .cancelling r (some a) _ =>
      if r = ref then State.handTerminal ((portLeaves t a).endUnapproved a .cancelled) else t
    | .cancelling r none _ => if r = ref then State.handTerminal (portFree t) else t
    | _ => t) := by
  unfold State.notTaken
  cases t.money.terminal.state with
  | cancelling r a since => cases a <;> rfl
  | absent => rfl
  | idle => rfl
  | busy a since => rfl
  | lost => rfl

theorem terminalLost_eq (s : State) : s.terminalLost = (
    let t := s.money.terminal;
    let lost := (s.setTerminal { t with state := .lost, waiting := [] }).reportLevelQuiet 7 true;
    t.waiting.foldl (fun w a => w.endWithCondition a .terminalLost 1) (match t.state.outstanding with
      | some a => (lost.setLastEnded a).endWithCondition a .terminalLost 1
      | none => lost)) := rfl

/-- Settles O44: the operations' equations, and each message or limit by the port's state. -/
theorem authorisationsEndWithoutApproval : Obligations.AuthorisationsEndWithoutApproval := by
  unfold Obligations.AuthorisationsEndWithoutApproval
  refine ⟨cancelAuth_eq, endUnapproved_eq, endWithCondition_eq, fun s ref amount x code hs c hc => ?_, fun s hs => ?_,
    fun s ref x c hs hc => ?_, fun s hs => ⟨?_, ?_, ?_⟩⟩
  · simp only [List.mem_cons, List.not_mem_nil, or_false] at hc
    rcases hc with rfl | rfl | rfl | rfl | rfl | rfl | rfl <;> exact congrArg _ (heard_starting hs _)
  · exact congrArg _ (terminalMessage_running hs id)
  · have taken : exec c s = .next (s.terminalMessage (fun t => t.notTaken ref)) := by rcases hc with rfl | rfl <;> rfl
    exact taken.trans (congrArg _ ((terminalMessage_running hs _).trans (notTaken_eq _ ref)))
  · have taken : exec .terminalSilence s = .next (match s.money.terminal.state with
        | .absent => s
        | .lost => s
        | _ => s.terminalLost) := congrArg _ (heard_running hs _)
    rw [taken]
    refine congrArg _ ?_
    rw [terminalLost_eq]
    dsimp only
    cases s.money.terminal.state with
    | cancelling r a since => cases a <;> rfl
    | absent => rfl
    | idle => rfl
    | busy a since => rfl
    | lost => rfl
  · refine congrArg _ ((heard_running hs _).trans ?_)
    cases s.money.terminal.state <;> rfl
  · refine congrArg _ ((heard_running hs _).trans ?_)
    cases s.money.terminal.state with
    | cancelling r a since => cases a <;> rfl
    | absent => rfl
    | idle => rfl
    | busy a since => rfl
    | lost => rfl

end Sys2Proof.Machine

/-! Settings (R176): their table, and what a change of the working copy makes of the blocks. -/

namespace Sys2Proof.Machine

variable {s : State}

/-! ### The table of settings (11.2) -/

theorem kindOf_of_beyond {area n : Nat} (h : ∀ r ∈ settingRows, r.1 = area → r.2.2.1 < n) : kindOf area n = none := by
  unfold kindOf
  rw [Option.map_eq_none_iff, List.find?_eq_none]
  rintro r hr named
  obtain ⟨hn, -, last⟩ := of_decide_eq_true named
  exact absurd (h r hr hn) (Nat.not_lt.2 last)

theorem priceKind_eq (n : Nat) : priceKind n = kindOf 2 n := by
  have few : ∀ n < 37, priceKind n = kindOf 2 n := by decide
  have last : ∀ r ∈ settingRows, r.1 = 2 → r.2.2.1 ≤ 36 := by decide
  by_cases hn : n < 37
  · exact few n hn
  · rw [kindOf_of_beyond (fun r hr h2 => Nat.lt_of_le_of_lt (last r hr h2) (by omega))]
    unfold priceKind
    split_ifs <;> first | rfl | omega

theorem settingKind_eq {area : Nat} (n : Nat) (h : area ≠ 2) : settingKind area n = kindOf area n := by
  have few : ∀ area < 8, area ≠ 2 → ∀ n < 66, settingKind area n = kindOf area n := by decide
  have last : ∀ r ∈ settingRows, r.1 < 8 ∧ r.2.2.1 < 66 := by decide
  by_cases ha : area < 8
  · by_cases hn : n < 66
    · exact few area ha h n hn
    · rw [kindOf_of_beyond (fun r hr _ => Nat.lt_of_lt_of_le (last r hr).2 (Nat.not_lt.1 hn))]
      unfold settingKind
      split <;> (try split_ifs) <;> first | rfl | omega
  · have unknown : settingKind area n = none := by
      unfold settingKind
      split <;> first | rfl | omega
    rw [unknown, kindOf_of_beyond (fun r hr hr' => absurd (last r hr).1 (by omega))]

/-- A range that runs upwards. -/
def SettingKind.upwards : SettingKind → Bool
  | .range lo hi => lo ≤ hi
  | _ => true

theorem kindOf_upwards {area n : Nat} {k : SettingKind} (h : kindOf area n = some k) : k.upwards = true := by
  have upwards : ∀ r ∈ settingRows, r.2.2.2.upwards = true := by decide
  unfold kindOf at h
  obtain ⟨r, hr, rfl⟩ := Option.map_eq_some_iff.1 h
  exact upwards r (List.mem_of_find?_eq_some hr)

/-! ### A changed sense mode and a lowered grade (R40, R46) -/

/-- A slot that meets the settings: the run count restarts where the sense mode changed, the grade falls to a lowered maximum. -/
def Slot.adapted (x : Slot) (same : Prop) [Decidable same] (max : Grade) : Slot :=
  { x with
    run := if same then x.run else 0
    grade := x.grade.map (fun g => if gradeCode max < gradeCode g then max else g) }

/-- The sense mode of a slot in a working copy. -/
def WorkingCopy.senseMode (w : WorkingCopy) (n : Fin 4) : Nat := w.a1.get ⟨n.val, by omega⟩

/-- The run count of a slot restarted where its sense mode changed. -/
def State.modeMet (old : WorkingCopy) (s : State) (n : Fin 4) : State :=
  if old.senseMode n = s.store.working.senseMode n then s else s.setSlot n { s.slot n with run := 0 }

theorem modeMet_op (old : WorkingCopy) (s : State) (n : Fin 4) : s.ChangesOnly (s.modeMet old n) [.slots] := by
  unfold State.modeMet
  split_ifs
  · exact .refl s _
  · exact State.ChangesOnly.setSlot_op s n _

theorem modeMet_slot (old : WorkingCopy) (s : State) (n m : Fin 4) : (s.modeMet old n).slot m = if m = n then
    { s.slot n with run := if old.senseMode n = s.store.working.senseMode n then (s.slot n).run else 0 } else s.slot m := by
  unfold State.modeMet
  by_cases hm : m = n
  · subst hm
    rw [if_pos rfl]
    split_ifs
    · rfl
    · exact State.slot_setSlot ..
  · rw [if_neg hm]
    split_ifs
    · rfl
    · exact State.slot_setSlot_ne _ (Ne.symm hm) _

/-- The grade of a slot lowered to its maximum, with the notice. -/
def State.gradeMet (s : State) (n : Fin 4) : State :=
  match (s.slot n).grade with
  | some g =>
    if gradeCode (s.maxGrade n) < gradeCode g then
      (s.setSlot n { s.slot n with grade := some (s.maxGrade n) }).slotNotice n .gradeLimit
    else s
  | none => s

theorem gradeMet_op (s : State) (n : Fin 4) : s.ChangesOnly (s.gradeMet n) [.slots, .link] := by
  unfold State.gradeMet
  split
  · split_ifs
    · exact ((State.ChangesOnly.refl s [.slots, .link]).setSlot n _ (by decide)).slotNotice n _ (by decide)
    · exact .refl s _
  · exact .refl s _

theorem gradeMet_slot (s : State) (n m : Fin 4) : (s.gradeMet n).slot m = if m = n then
    { s.slot n with grade := (s.slot n).grade.map (fun g => if gradeCode (s.maxGrade n) < gradeCode g then s.maxGrade n else g) }
    else s.slot m := by
  unfold State.gradeMet
  cases hg : (s.slot n).grade with
  | none =>
    dsimp only
    by_cases hm : m = n
    · subst hm
      rw [if_pos rfl, Option.map_none, ← hg]
    · rw [if_neg hm]
  | some g =>
    dsimp only
    rw [Option.map_some]
    by_cases lower : gradeCode (s.maxGrade n) < gradeCode g
    · rw [if_pos lower, if_pos lower, slot_congr (State.ChangesOnly.slotNotice_op _ n _).slots, slot_setSlot_eq]
    · rw [if_neg lower, if_neg lower]
      by_cases hm : m = n
      · subst hm
        rw [if_pos rfl, ← hg]
      · rw [if_neg hm]

theorem slotSettings_eq_met (old : WorkingCopy) (s : State) (n : Fin 4) :
    State.slotSettings old s n = (s.modeMet old n).gradeMet n := rfl

theorem slotSettings_op (old : WorkingCopy) (s : State) (n : Fin 4) :
    s.ChangesOnly (State.slotSettings old s n) [.slots, .link] :=
  ((modeMet_op old s n).mono (by decide)).after (gradeMet_op _ n) (by decide)

theorem slotSettings_slot (old : WorkingCopy) (s : State) (n m : Fin 4) : (State.slotSettings old s n).slot m =
    if m = n then (s.slot n).adapted (old.senseMode n = s.store.working.senseMode n) (s.maxGrade n) else s.slot m := by
  rw [slotSettings_eq_met, gradeMet_slot, modeMet_slot, modeMet_slot, if_pos rfl, maxGrade_congr (modeMet_op old s n).store]
  by_cases hm : m = n
  · rw [if_pos hm, if_pos hm]
    rfl
  · rw [if_neg hm, if_neg hm, if_neg hm]

theorem slotSettings_walks (old : WorkingCopy) (x : Store) : State.Walks (fun s => s.store = x) State.slot
    (fun n y => y.adapted (old.senseMode n = x.working.senseMode n) (gradeOf (x.working.a1.get ⟨4 + n.val, by omega⟩)))
    (fun _ _ => []) (State.slotSettings old) := by
  refine ⟨fun s n hs => (slotSettings_op old s n).store.trans hs, fun s n hs => ?_, fun s n m _ hm => ?_, fun s n _ => ?_⟩
  · subst hs
    exact (slotSettings_slot old s n n).trans (if_pos rfl)
  · rw [slotSettings_slot, if_neg (Ne.symm hm)]
  · rw [(slotSettings_op old s n).sent, List.append_nil]

/-- One slot's step, the settings those of `x`. -/
def State.slotStep (old : WorkingCopy) (x : Store) (w : State) (n : Fin 4) : State :=
  let max := gradeOf (x.working.a1.get ⟨4 + n.val, by omega⟩)
  let t := if old.senseMode n = x.working.senseMode n then w else w.setSlot n { w.slot n with run := 0 }
  match (w.slot n).grade with
  | some g => if gradeCode max < gradeCode g then (t.setSlot n { t.slot n with grade := some max }).slotNotice n .gradeLimit else t
  | none => t

theorem slotSettings_eq (old : WorkingCopy) (s : State) (n : Fin 4) :
    State.slotSettings old s n = s.slotStep old s.store n := by
  have grade : ((s.modeMet old n).slot n).grade = (s.slot n).grade := by rw [modeMet_slot, if_pos rfl]
  have max : (s.modeMet old n).maxGrade n = s.maxGrade n := maxGrade_congr (modeMet_op old s n).store n
  rw [slotSettings_eq_met]
  unfold State.gradeMet
  rw [grade, max]
  rfl

/-! ### A lowered idle limit (R35) -/

theorem idleSettings_op (old : WorkingCopy) (s : State) (r : Fin 8) :
    s.ChangesOnly (State.idleSettings old s r) [.sessions, .link, .money, .sent, .conds] := by
  unfold State.idleSettings
  split_ifs
  · exact State.ChangesOnly.idleExpires_op s r
  · exact .refl s _

/-! ### The working copy changed -/

/-- A walk rewritten under what all its steps keep. -/
theorem each_congr_of {α : Type} {P : State → Prop} {f g : State → α → State} (keeps : ∀ s a, P s → P (f s a))
    (same : ∀ s a, P s → f s a = g s a) {s : State} (hs : P s) (xs : List α) : s.each xs f = xs.foldl g s := by
  induction xs generalizing s with
  | nil => rfl
  | cons a rest ih =>
    rw [List.foldl_cons, ← same s a hs]
    exact ih (keeps s a hs)

/-- The slots have met the settings. -/
@[irreducible] def State.slotsMet (old : WorkingCopy) (s : State) : State := s.each (allFin 4) (State.slotSettings old)

theorem slotsMet_op (old : WorkingCopy) (s : State) : s.ChangesOnly (s.slotsMet old) [.slots, .link] := by
  unfold State.slotsMet
  exact (State.ChangesOnly.refl s _).each _ _ (fun v n => slotSettings_op old v n)

theorem slotsMet_slot (old : WorkingCopy) (s : State) (n : Fin 4) : (s.slotsMet old).slot n =
    (s.slot n).adapted (old.senseMode n = s.store.working.senseMode n) (s.maxGrade n) := by
  unfold State.slotsMet
  exact ((slotSettings_walks old s.store).each_item rfl (List.nodup_finRange 4) n).trans (if_pos (mem_allFin n))

/-- Then the gates, the boxes, the spool and the printers. -/
@[irreducible] def State.limitsMet (s : State) : State :=
  (s.refreshGates.each ((allFin 2).filter s.power.profile.usesUnit) State.evalBox).evalPressure.evalPrints

theorem limitsMet_op (s : State) :
    s.ChangesOnly s.limitsMet [.link, .sessions, .catalogue, .orders, .money, .spool, .conds, .sent] := by
  unfold State.limitsMet
  exact ((((State.ChangesOnly.refreshGates_op s).mono (by decide)).each _ _
    (fun v u => (State.ChangesOnly.evalBox_op v u).mono (by decide))).evalPressure (by decide)).evalPrints (by decide)

theorem settingsChanged_met (old : WorkingCopy) (s : State) :
    s.settingsChanged old = ((s.slotsMet old).limitsMet).each (allFin 8) (State.idleSettings old) := by
  unfold State.settingsChanged State.limitsMet State.slotsMet
  dsimp only
  rw [(State.ChangesOnly.refreshGates_op _).power]

end Sys2Proof.Machine

/-! SETTING_PUT and PRICES_PUBLISH (R176, R177), check by check. -/

namespace Sys2Proof.Machine

variable {s : State} {tag : Byte} {p : List Byte} {c : RequestCode}

/-! ### What a change reaches (R176) -/

theorem slotsMet_eq (old : WorkingCopy) (s : State) : s.slotsMet old = (allFin 4).foldl (State.slotStep old s.store) s := by
  unfold State.slotsMet
  refine each_congr_of (P := fun w => w.store = s.store) (fun w n hw => (slotSettings_op old w n).store.trans hw)
    (fun w n hw => ?_) rfl _
  rw [slotSettings_eq, hw]

theorem settingsChanged_eq (old : WorkingCopy) (s : State) : s.settingsChanged old = (
    let mode : WorkingCopy → Fin 4 → Nat := fun w n => w.a1.get ⟨n.val, by omega⟩;
    let slots := (allFin 4).foldl (fun w n =>
      let t := if mode old n = mode s.store.working n then w else w.setSlot n { w.slot n with run := 0 }
      match (w.slot n).grade with
      | some g => if gradeCode (s.maxGrade n) < gradeCode g then
          (t.setSlot n { t.slot n with grade := some (s.maxGrade n) }).slotNotice n .gradeLimit
        else t
      | none => t) s;
    let boxes := ((allFin 2).filter s.power.profile.usesUnit).foldl State.evalBox slots.refreshGates;
    (allFin 8).foldl (fun w r =>
      if s.idleLimit < old.a0.get 0 ∧ 1000 * s.idleLimit ≤ (w.record r).timer.count s.now then w.idleExpires r else w)
      boxes.evalPressure.evalPrints) := by
  have stages := ((slotsMet_op old s).mono (by decide)).after (limitsMet_op _)
    (L := [.slots, .link, .sessions, .catalogue, .orders, .money, .spool, .conds, .sent]) (by decide)
  have idle := each_congr_of (P := fun w => w.store = s.store ∧ w.now = s.now) (f := State.idleSettings old)
    (g := fun w r => if s.idleLimit < old.a0.get 0 ∧ 1000 * s.idleLimit ≤ (w.record r).timer.count s.now then w.idleExpires r else w)
    (fun w r hw => ⟨(idleSettings_op old w r).store.trans hw.1, (idleSettings_op old w r).now.trans hw.2⟩)
    (fun w r hw => by
      unfold State.idleSettings State.idleLimit
      rw [hw.1, hw.2]) ⟨stages.store, stages.now⟩ (allFin 8)
  rw [settingsChanged_met, idle]
  unfold State.limitsMet
  rw [(slotsMet_op old s).power, slotsMet_eq]
  rfl

theorem idleMet_op (old : WorkingCopy) (s : State) :
    s.ChangesOnly (s.each (allFin 8) (State.idleSettings old)) [.sessions, .link, .money, .sent, .conds] :=
  (State.ChangesOnly.refl s _).each _ _ (fun v r => idleSettings_op old v r)

theorem settingsChanged_op (old : WorkingCopy) (s : State) :
    s.ChangesOnly (s.settingsChanged old) [.slots, .link, .sessions, .catalogue, .orders, .money, .spool, .conds, .sent] := by
  rw [settingsChanged_met]
  exact (((slotsMet_op old s).mono (by decide)).after (limitsMet_op _) (by decide)).after (idleMet_op old _) (by decide)

theorem settingsChanged_slot (old : WorkingCopy) (s : State) (n : Fin 4) : (s.settingsChanged old).slot n =
    (s.slot n).adapted (old.senseMode n = s.store.working.senseMode n) (s.maxGrade n) := by
  rw [settingsChanged_met, slot_congr (idleMet_op old _).slots, slot_congr (limitsMet_op _).slots, slotsMet_slot]

/-! ### SETTING_PUT (R176) -/

/-- The kind of the setting a request names, before its value is looked at. -/
def namedKind (area n selector : Nat) : Option SettingKind :=
  if area = 2 then (if selector = 0 then priceKind n else none) else settingKind area n

theorem namedKind_iff {area n selector : Nat} {k : SettingKind} : namedKind area n selector = some k ↔
    (area = 2 ∧ selector = 0 ∧ priceKind n = some k) ∨ (area ≠ 2 ∧ settingKind area n = some k) := by
  unfold namedKind
  split_ifs with ha hs <;> simp [*]

theorem namedKind_upwards {area n selector : Nat} {k : SettingKind} (h : namedKind area n selector = some k) :
    k.upwards = true := by
  rcases namedKind_iff.1 h with ⟨-, -, hk⟩ | ⟨ha, hk⟩
  · exact kindOf_upwards ((priceKind_eq n).symm.trans hk)
  · exact kindOf_upwards ((settingKind_eq n ha).symm.trans hk)

/-- A value that the kind can hold: of an enumeration, one of its names. -/
def SettingKind.takes (v : Nat) : SettingKind → Bool
  | .names j => v < j
  | _ => true

theorem takes_iff {k : SettingKind} {v : Nat} : k.takes v = true ↔ ∀ j, k = .names j → v < j := by
  cases k <;> simp [SettingKind.takes]

theorem putKind_eq (area n selector v : Nat) :
    putKind area n selector v = (namedKind area n selector).filter (SettingKind.takes v) := by
  unfold putKind namedKind
  dsimp only
  generalize (if area = 2 then (if selector = 0 then priceKind n else none) else settingKind area n) = named
  rcases named with - | (j | - | -)
  · rfl
  · by_cases hv : v < j <;> simp [SettingKind.takes, Option.filter, hv]
  · rfl
  · rfl

theorem clamp_eq {k : SettingKind} {v : Nat} (up : k.upwards = true) (names : ∀ j, k = .names j → v < j) :
    k.clamp v = settingTakes k v := by
  cases k with
  | names j =>
    have := names j rfl
    show min v (j - 1) = v
    omega
  | range lo hi =>
    have : lo ≤ hi := of_decide_eq_true up
    show max lo (min hi v) = if v < lo then lo else if hi < v then hi else v
    split_ifs <;> omega
  | bits w => rfl

theorem putReply_eq {t : State} {v : Nat} (k : SettingKind) : k.upwards = true → t.putReply tag k v =
    (match k with
    | .range _ _ => if settingTakes k v = v then t.ok tag [] else t.replyWith tag .clamped (le4 (settingTakes k v))
    | _ => t.ok tag []) := by
  intro up
  cases k with
  | names j => rfl
  | range lo hi =>
    have clamped : (SettingKind.range lo hi).clamp v = settingTakes (.range lo hi) v := clamp_eq up (fun j h => by cases h)
    have within : lo ≤ v ∧ v ≤ hi ↔ settingTakes (.range lo hi) v = v := by
      have order : lo ≤ hi := of_decide_eq_true up
      show _ ↔ (if v < lo then lo else if hi < v then hi else v) = v
      split_ifs <;> omega
    show (if lo ≤ v ∧ v ≤ hi then _ else t.replyWith tag .clamped (le4 ((SettingKind.range lo hi).clamp v))) = _
    rw [clamped]
    exact if_congr within rfl rfl
  | bits w => rfl

/-- The two checks that stand before a change of the settings: service mode, and no store operation running. -/
theorem serviceIdle_checked (ho : s.Offers c tag p) (rest : List (Bool × Status)) (act : State) :
    (s.holds tag).checked tag ((decide ((s.holds tag).conds.mode = .service), .notService) ::
      (!(s.holds tag).storeBusy, .busy) :: rest) act =
      if s.conds.mode = .customer then s.answerNo tag c .notService
      else if s.store.op ≠ .idle then s.answerNo tag c .busy
      else (s.holds tag).checked tag rest act := by
  have mode : (s.holds tag).conds.mode = s.conds.mode := rfl
  have busy : (s.holds tag).storeBusy = decide (s.store.op ≠ .idle) := rfl
  rw [checked_cons, checked_cons, ho.refuse, ho.refuse, mode, busy]
  cases s.conds.mode with
  | customer => rfl
  | service => by_cases op : s.store.op = .idle <;> simp [op]

theorem settingPut_answers (ho : s.Offers .settingPut tag p) : exec (.settingPut tag) s = .next (
    if s.conds.mode = .customer then s.answerNo tag .settingPut .notService
    else if s.store.op ≠ .idle then s.answerNo tag .settingPut .busy
    else match putKind (byteAt p 0) (byteAt p 1) (byteAt p 2) (num4At p 3) with
      | none => s.answerNo tag .settingPut .badValue
      | some k =>
        if s.isProtected (byteAt p 0) = false then
          ((s.holds tag).putSetting (byteAt p 0) (byteAt p 1) (k.clamp (num4At p 3))).putReply tag k (num4At p 3)
        else s.answerNo tag .settingPut .isProtected) := by
  have taking : exec (.settingPut tag) s = execSettingPut tag s := rfl
  have flag : (s.holds tag).isProtected (byteAt p 0) = s.isProtected (byteAt p 0) := rfl
  rw [taking]
  unfold execSettingPut
  rw [ho.take, serviceIdle_checked ho, checked_nil]
  cases putKind (byteAt p 0) (byteAt p 1) (byteAt p 2) (num4At p 3) with
  | none =>
    dsimp only
    rw [ho.refuse]
  | some k =>
    dsimp only
    rw [checked_cons, checked_nil, ho.refuse, flag]
    simp only [Bool.not_eq_true']

theorem isProtected_iff (s : State) (area : Nat) :
    s.isProtected area = true ↔ area < 7 ∧ s.store.protection.getLsbD area = true := by
  unfold State.isProtected
  rw [Bool.and_eq_true, decide_eq_true_iff]

/-- A value set, the store written out. -/
theorem putSetting_eq (t : State) (area n v : Nat) : t.putSetting area n v = (
    let u : State := { t with store := if area = 2 then { t.store with draft := setAt t.store.draft n v, modified := true }
      else { t.store with working := t.store.working.withValue area n v } };
    if area = 2 then u else u.settingsChanged t.store.working) := by
  unfold State.putSetting
  dsimp only
  by_cases ha : area = 2
  · simp only [ha, if_true]
    rfl
  · simp only [ha, if_false]
    rfl

/-! ### PRICES_PUBLISH (R177) -/

/-- `below` stands for the used tiers of 1 to `b - 1`: a threshold is above it where it is above all of theirs. -/
def StandsBelow (t : PriceTable) (z : Size) (b below : Nat) : Prop :=
  ∀ x, 2 ≤ x → (below < x ↔ ∀ j : Fin 4, j ≠ 0 → j.val < b → t.threshold z j ≠ 0 → t.threshold z j < x)

theorem standsBelow_start (t : PriceTable) (z : Size) : StandsBelow t z 1 1 :=
  fun _ hx => ⟨fun _ _ hj lower => absurd (Fin.ext (Nat.lt_one_iff.1 lower)) hj, fun _ => hx⟩

variable {t : PriceTable} {z : Size} {b below : Nat} {k : Fin 4}

theorem tierFails_iff (hk : k ≠ 0) (hb : StandsBelow t z k.val below) :
    tierFails t z k ↔ t.threshold z k ≠ 0 ∧ ¬ (2 ≤ t.threshold z k ∧ below < t.threshold z k) := by
  unfold tierFails
  refine ⟨fun ⟨_, used, fails⟩ => ⟨used, fun ⟨two, above⟩ => ?_⟩, fun ⟨used, fails⟩ => ⟨hk, used, ?_⟩⟩
  · rcases fails with small | ⟨j, hj, lower, hu, reach⟩
    · omega
    · exact absurd ((hb _ two).1 above j hj lower hu) (Nat.not_lt.2 reach)
  · by_contra holds
    obtain ⟨two, none⟩ := not_or.1 holds
    refine fails ⟨Nat.not_lt.1 two, (hb _ (Nat.not_lt.1 two)).2 (fun j hj lower hu => ?_)⟩
    by_contra reach
    exact none ⟨j, hj, lower, hu, Nat.not_lt.1 reach⟩

theorem badTier_fails (rest : List (Fin 4)) (hk : k ≠ 0) (hb : StandsBelow t z k.val below) (fails : tierFails t z k) :
    badTier t z below (k :: rest) = some k := by
  obtain ⟨used, low⟩ := (tierFails_iff hk hb).1 fails
  unfold badTier
  dsimp only
  rw [if_neg used, if_neg low]

/-- A tier that holds is passed, and stands below the next where it is used. -/
theorem badTier_holds (rest : List (Fin 4)) (hk : k ≠ 0) (hb : StandsBelow t z k.val below) (holds : ¬ tierFails t z k) :
    ∃ below', StandsBelow t z (k.val + 1) below' ∧ badTier t z below (k :: rest) = badTier t z below' rest := by
  rw [tierFails_iff hk hb] at holds
  by_cases used : t.threshold z k = 0
  · refine ⟨below, fun x hx => (hb x hx).trans ⟨fun h j hj lower hu => h j hj ?_ hu, fun h j hj lower => h j hj (by omega)⟩, ?_⟩
    · have other : j ≠ k := fun e => hu (e ▸ used)
      have : j.val ≠ k.val := fun e => other (Fin.ext e)
      omega
    · conv_lhs => unfold badTier
      exact if_pos used
  · obtain ⟨two, above⟩ := not_not.1 (fun low => holds ⟨used, low⟩)
    refine ⟨t.threshold z k, fun x _ => ⟨fun hx j hj lower hu => ?_, fun h => h k hk (Nat.lt_succ_self _) used⟩, ?_⟩
    · rcases Nat.lt_succ_iff_lt_or_eq.1 lower with lower | same
      · exact Nat.lt_trans ((hb _ two).1 above j hj lower hu) hx
      · exact (Fin.ext same : j = k) ▸ hx
    · conv_lhs => unfold badTier
      exact (if_neg used).trans (if_pos ⟨two, above⟩)

/-- The first of the tiers 1 to 3 that fails. -/
theorem badTier_cases (t : PriceTable) (z : Size) :
    (tierFails t z 1 → badTier t z 1 [1, 2, 3] = some 1) ∧
    (¬ tierFails t z 1 → (tierFails t z 2 → badTier t z 1 [1, 2, 3] = some 2) ∧
      (¬ tierFails t z 2 → (tierFails t z 3 → badTier t z 1 [1, 2, 3] = some 3) ∧
        (¬ tierFails t z 3 → badTier t z 1 [1, 2, 3] = none))) := by
  have start := standsBelow_start t z
  refine ⟨badTier_fails _ (by decide) start, fun one => ?_⟩
  obtain ⟨y, hy, first⟩ := badTier_holds [2, 3] (by decide) start one
  refine ⟨fun fails => first.trans (badTier_fails _ (by decide) hy fails), fun two => ?_⟩
  obtain ⟨y', hy', second⟩ := badTier_holds [3] (by decide) hy two
  refine ⟨fun fails => (first.trans second).trans (badTier_fails _ (by decide) hy' fails), fun three => ?_⟩
  obtain ⟨y'', -, third⟩ := badTier_holds [] (by decide) hy' three
  exact ((first.trans second).trans third).trans rfl

theorem badTier_eq_some (hk : tierFails t z k) (lower : ∀ j < k, ¬ tierFails t z j) : badTier t z 1 [1, 2, 3] = some k := by
  obtain ⟨one, later⟩ := badTier_cases t z
  match k, hk, lower with
  | 0, hk, _ => exact absurd rfl hk.1
  | 1, hk, _ => exact one hk
  | 2, hk, lower => exact (later (lower 1 (by decide))).1 hk
  | 3, hk, lower => exact ((later (lower 1 (by decide))).2 (lower 2 (by decide))).1 hk

theorem badTier_eq_none (h : ∀ k, ¬ tierFails t z k) : badTier t z 1 [1, 2, 3] = none :=
  (((badTier_cases t z).2 (h 1)).2 (h 2)).2 (h 3)

theorem firstBad_eq_some (hk : tierFails t z k) (lower : ∀ j < k, ¬ tierFails t z j)
    (before : ∀ y : Size, y.code < z.code → ∀ j, ¬ tierFails t y j) : t.firstBad = some (z, k) := by
  have found := badTier_eq_some hk lower
  have none (y : Size) (hy : y.code < z.code) : badTier t y 1 [1, 2, 3] = none := badTier_eq_none (before y hy)
  unfold PriceTable.firstBad
  cases z with
  | p1 => simp [found]
  | p2 => simp [found, none .p1 (by decide)]
  | p3 => simp [found, none .p1 (by decide), none .p2 (by decide)]
  | p4 => simp [found, none .p1 (by decide), none .p2 (by decide), none .p3 (by decide)]

theorem firstBad_eq_none (h : ∀ z k, ¬ tierFails t z k) : t.firstBad = none := by
  unfold PriceTable.firstBad
  refine List.findSome?_eq_none_iff.2 (fun z _ => ?_)
  rw [badTier_eq_none (h z), Option.map_none]

theorem pricesPublish_answers (ho : s.Offers .pricesPublish tag p) : exec (.pricesPublish tag) s = .next (
    if s.conds.mode = .customer then s.answerNo tag .pricesPublish .notService
    else if s.store.op ≠ .idle then s.answerNo tag .pricesPublish .busy
    else if s.store.protection.getLsbD 2 = true then s.answerNo tag .pricesPublish .isProtected
    else match PriceTable.firstBad s.store.draft with
      | some (z, k) => (s.holds tag).replyWith tag .priceTableInvalid (le1 z.code ++ le1 k.val)
      | none => State.answerOk { s with store := { s.store with
          published := s.store.draft, revision := s.store.revision + 1, valid := true, modified := false } } tag
          .pricesPublish (le2 (s.store.revision + 1).toNat)) := by
  have taking : exec (.pricesPublish tag) s = execPricesPublish tag s := rfl
  have flag : (s.holds tag).isProtected 2 = s.store.protection.getLsbD 2 := rfl
  have draft : (s.holds tag).store.draft = s.store.draft := rfl
  rw [taking]
  unfold execPricesPublish
  rw [ho.take, serviceIdle_checked ho, checked_cons, checked_nil, ho.refuse, flag, draft]
  refine congrArg _ (if_congr Iff.rfl rfl (if_congr Iff.rfl rfl ?_))
  cases s.store.protection.getLsbD 2 with
  | true => rfl
  | false =>
    cases PriceTable.firstBad s.store.draft with
    | some x => rfl
    | none =>
      have publishes : (s.setStore { s.store with
        published := s.store.draft, revision := s.store.revision + 1, valid := true, modified := false }).Offers
          .pricesPublish tag p := ho
      exact publishes.ok (le2 (s.store.revision + 1).toNat)

/-- Settles O56: the requests check by check, the table, and what a change reaches. -/
theorem settingsArePutAndPricesPublished : Obligations.SettingsArePutAndPricesPublished := by
  unfold Obligations.SettingsArePutAndPricesPublished
  refine ⟨fun s tag p ho => ?_, fun area n => ⟨settingKind_eq n, priceKind_eq n⟩, idleExpires_eq,
    fun s old => settingsChanged_eq old s,
    fun s old => ⟨(settingsChanged_op old s).store, settingsChanged_slot old s, settingsChanged_op old s⟩,
    fun s tag p ho => ?_⟩
  · intro area n v no named
    have answer := settingPut_answers ho
    have named_iff (k : SettingKind) : named k ↔ namedKind area n (byteAt p 2) = some k := namedKind_iff.symm
    refine ⟨fun mode => ?_, fun mode op => ?_, fun mode op none => ?_, fun k mode op hk => ?_⟩
    · rw [if_pos mode] at answer
      exact answer
    · rw [if_neg (by rw [mode]; decide), if_pos op] at answer
      exact answer
    · have unnamed : namedKind area n (byteAt p 2) = Option.none :=
        Option.eq_none_iff_forall_ne_some.2 (fun k hk => none k ((named_iff k).2 hk))
      rw [if_neg (by rw [mode]; decide), if_neg (not_not.2 op), putKind_eq, unnamed] at answer
      exact answer
    · have kind := (named_iff k).1 hk
      have up := namedKind_upwards kind
      rw [if_neg (by rw [mode]; decide), if_neg (not_not.2 op), putKind_eq, kind] at answer
      refine ⟨fun j hj hv => ?_, fun hv seven flag => ?_, fun hv free => ?_⟩
      · have untaken : ¬ k.takes v = true := fun taken => absurd (takes_iff.1 taken j hj) (Nat.not_lt.2 hv)
        rw [Option.filter_some, if_neg untaken] at answer
        exact answer
      · rw [Option.filter_some, if_pos (takes_iff.2 hv)] at answer
        have locked : s.isProtected area = true := (isProtected_iff s area).2 ⟨seven, flag⟩
        exact answer.trans (congrArg _ (if_neg (by rw [locked]; decide)))
      · rw [Option.filter_some, if_pos (takes_iff.2 hv)] at answer
        have unlocked : s.isProtected area = false := by
          rw [Bool.eq_false_iff, ne_eq, isProtected_iff]
          rintro ⟨seven, flag⟩
          exact free.elim (fun beyond => by omega) (fun clear => by rw [flag] at clear; cases clear)
        refine (answer.trans (congrArg _ (if_pos unlocked))).trans (congrArg _ ?_)
        rw [clamp_eq up hv, putSetting_eq]
        exact putReply_eq k up
  · intro no
    have answer := pricesPublish_answers ho
    refine ⟨fun mode => ?_, fun mode op => ?_, fun mode op => ?_⟩
    · rw [if_pos mode] at answer
      exact answer
    · rw [if_neg (by rw [mode]; decide), if_pos op] at answer
      exact answer
    · rw [if_neg (by rw [mode]; decide), if_neg (not_not.2 op)] at answer
      refine ⟨fun flag => ?_, fun z k flag fails lower before => ?_, fun flag holds => ?_⟩
      · rw [if_pos flag] at answer
        exact answer
      · rw [if_neg (by rw [flag]; decide), firstBad_eq_some fails lower before] at answer
        exact answer
      · rw [if_neg (by rw [flag]; decide), firstBad_eq_none holds] at answer
        exact answer

end Sys2Proof.Machine

/-! LINE_ADD, LINE_CHANGE and LINE_REMOVE (R77 to R80): the checks of the order's state, of the line and of its fields, each said
once, then what each request does to the order. -/

namespace NamesOrder

open Sys2Proof Sys2Proof.Machine

/-! ### Behind the order's handle -/

variable {s : State} {c : RequestCode} {tag : Byte} {p : List Byte} {h : OrderHandle} {o : Order}

theorem touched (n : NamesOrder s c tag p h o) : (s.touchHandle o.session).Offers c tag p :=
  n.offers.touchedHandle o.session

theorem refuse (n : NamesOrder s c tag p h o) (e : Status) :
    ((s.touchHandle o.session).holds tag).refuse tag e = (s.touchHandle o.session).answerNo tag c e :=
  n.touched.refuse e

/-- R13 and R23 let a request on an order of an ACTIVE session through to its own part. -/
theorem withOrder_taken (n : NamesOrder s c tag p h o) (hc : c ∉ orderQueries) (act : State → OrderHandle → Order → State) :
    (s.holds tag).withOrder c tag p 0 act = act ((s.touchHandle o.session).holds tag) h o := by
  have active : (((s.touchHandle o.session).holds tag).record o.session.record).state = .active :=
    (touchHandle_state s o.session o.session.record).trans n.session
  rw [withOrder_eq _ hc, namesOrder_of_order n.record n.gen n.order, holds_touchHandle]
  unfold behindSession
  rw [active]
  rfl

/-- The first check of an edit (R77 to R79): the order is EDITING or QUOTED. -/
theorem edit_answers (n : NamesOrder s c tag p h o) (hc : c ∉ orderQueries)
    (act : List Byte → State → OrderHandle → Order → State) :
    s.take c tag (fun t p => t.withOrder c tag p 0 (fun t h o => t.checked tag [(o.editable, .badState)] (act p t h o))) =
      if o.state ∈ ([.editing, .quoted] : List OrderState) then act p ((s.touchHandle o.session).holds tag) h o
      else (s.touchHandle o.session).answerNo tag c .badState := by
  rw [n.offers.take, n.withOrder_taken hc, checked_cons, checked_nil, n.refuse]
  exact if_congr editable_iff rfl rfl

end NamesOrder

namespace Sys2Proof.Machine

variable {s : State} {c : RequestCode} {tag : Byte} {p : List Byte} {h : OrderHandle} {o : Order}

/-- A request still stands ready where an order or the catalogue was written. -/
theorem State.Offers.setOrder (ho : s.Offers c tag p) (k : Fin 16) (x : Order) : (s.setOrder k x).Offers c tag p := ho

theorem State.Offers.setCatalogue (ho : s.Offers c tag p) (x : Catalogue) : (s.setCatalogue x).Offers c tag p := ho

theorem State.Offers.ok_written (ho : s.Offers c tag p) (x : Catalogue) (k : Fin 16) (y : Order) (fields : List Byte) :
    (((s.holds tag).setCatalogue x).setOrder k y).ok tag fields = ((s.setCatalogue x).setOrder k y).answerOk tag c fields :=
  ((ho.setCatalogue x).setOrder k y).ok fields

/-- The catalogue an edit finds at its taking. -/
theorem taken_catalogue (s : State) (tag : Byte) (x : SessionHandle) : ((s.touchHandle x).holds tag).catalogue = s.catalogue :=
  (State.ChangesOnly.touchHandle_op s x).catalogue

/-! ### The fields of a line: size, finish, quantity -/

theorem sizeAt_code {k : Nat} {z : Size} (hz : byteAt p k = z.code) : sizeAt p k = some z := by
  unfold sizeAt
  rw [hz]
  cases z <;> rfl

theorem sizeAt_beyond {k : Nat} (hz : 4 ≤ byteAt p k) : sizeAt p k = none := by
  unfold sizeAt
  split
  iterate 4
    · omega
  · rfl

theorem finishAt_code {k : Nat} {f : Finish} (hf : byteAt p k = f.code) : finishAt p k = some f := by
  unfold finishAt
  rw [hf]
  cases f <;> rfl

theorem finishAt_beyond {k : Nat} (hf : 3 ≤ byteAt p k) : finishAt p k = none := by
  unfold finishAt
  split
  iterate 3
    · omega
  · rfl

theorem quantityGood_iff (q : Nat) : quantityGood q = true ↔ 1 ≤ q ∧ q ≤ 99 := decide_eq_true_iff

/-- An edit's part behind the size, finish and quantity that stand at `k` of its payload. -/
def State.withLineFields (s : State) (tag : Byte) (p : List Byte) (k : Nat) (act : Size → Finish → Nat → State) : State :=
  match sizeAt p k, finishAt p (k + 1), quantityGood (byteAt p (k + 2)) with
  | some z, some f, true => act z f (byteAt p (k + 2))
  | _, _, _ => s.refuse tag .badValue

theorem withLineFields_badValue {k : Nat} (act : Size → Finish → Nat → State)
    (bad : 4 ≤ byteAt p k ∨ 3 ≤ byteAt p (k + 1) ∨ byteAt p (k + 2) = 0 ∨ 99 < byteAt p (k + 2)) :
    s.withLineFields tag p k act = s.refuse tag .badValue := by
  unfold State.withLineFields
  split
  · next z f hz hf hq =>
    rw [quantityGood_iff] at hq
    rcases bad with size | finish | quantity
    · rw [sizeAt_beyond size] at hz
      cases hz
    · rw [finishAt_beyond finish] at hf
      cases hf
    · omega
  · rfl

theorem withLineFields_good {k : Nat} {z : Size} {f : Finish} {q : Nat} (act : Size → Finish → Nat → State)
    (hz : byteAt p k = z.code) (hf : byteAt p (k + 1) = f.code) (hq : byteAt p (k + 2) = q) (least : 1 ≤ q) (most : q ≤ 99) :
    s.withLineFields tag p k act = act z f q := by
  unfold State.withLineFields
  rw [sizeAt_code hz, finishAt_code hf, hq, (quantityGood_iff q).2 ⟨least, most⟩]

/-! ### The lowest unused index -/

theorem freeLine_none (full : ∀ k, o.lines.get k ≠ none) : o.freeLine = none :=
  List.find?_eq_none.2 (fun k _ => by simpa using full k)

theorem freeLine_some {k : Fin 16} (free : o.lines.get k = none) (below : ∀ j < k, o.lines.get j ≠ none) :
    o.freeLine = some k := by
  refine List.find?_eq_some_iff_getElem.2 ⟨by simp [free], k.val, by simp, by simp, fun j hj => ?_⟩
  have used := below ⟨j, by omega⟩ hj
  simpa [Option.isSome_iff_ne_none] using used

/-! ### The handle check of an image (R64, R65) -/

theorem imageFor_beyond {x : SessionHandle} {k : Nat} (hq : 2048 ≤ num2At p k) : s.imageFor x p k = .error .badValue := by
  unfold State.imageFor catHandleAt
  rw [fin?_eq_none hq]
  rfl

theorem catHandleAt_of_handle {k : Nat} {i : CatHandle} (hq : num2At p k = i.position.val) (hg : p.getD (k + 2) 0 = i.gen) :
    catHandleAt p k = some i := by
  unfold catHandleAt
  rw [fin?_eq_some hq, Option.map_some, hg]

theorem imageFor_stale {x : SessionHandle} {k : Nat} {i : CatHandle} (hi : catHandleAt p k = some i)
    (gone : s.catalogue.entry? i = none) : s.imageFor x p k = .error .staleHandle := by
  unfold State.imageFor
  simp only [hi, gone]

theorem imageFor_entry {x : SessionHandle} {k : Nat} {i : CatHandle} {e : CatEntry} (hi : catHandleAt p k = some i)
    (held : s.catalogue.entry? i = some e) :
    s.imageFor x p k = if e.owner = x then .ok (i, e) else .error .accessDenied := by
  unfold State.imageFor
  simp only [hi, held]

theorem refuseImage_accessDenied (x : SessionHandle) (k : Nat) : s.refuseImage tag x p k .accessDenied =
    (s.raiseSession x 6 [p.getD k 0, p.getD (k + 1) 0, p.getD (k + 2) 0]).refuse tag .accessDenied := rfl

theorem refuseImage_other (x : SessionHandle) (k : Nat) {e : Status} (he : e ≠ .accessDenied) :
    s.refuseImage tag x p k e = s.refuse tag e := by
  unfold State.refuseImage
  rw [if_neg he]

theorem refRises_eq {i : CatHandle} {e : CatEntry} (held : s.catalogue.entry? i = some e) :
    s.refRises i = s.setCatalogue { s.catalogue with
      table := put s.catalogue.table i.position { gen := i.gen, entry := some { e with refs := e.refs + 1 } } } := by
  unfold State.refRises Catalogue.count
  rw [held]

/-! ### LINE_ADD (R77) -/

section AddLine

variable {z : Size} {f : Finish} {q : Nat} {k : Fin 16}

theorem addLine_lineLimit (full : o.freeLine = none) : s.addLine tag p h o z f q = s.refuse tag .lineLimit := by
  unfold State.addLine
  rw [full]

theorem addLine_copyLimit (hk : o.freeLine = some k) (many : 400 < o.copyCount + q) :
    s.addLine tag p h o z f q = s.refuse tag .copyLimit := by
  have above : ¬ o.copyCount + q ≤ Config.maxCopies := Nat.not_le.2 many
  unfold State.addLine
  simp only [hk]
  rw [checked_cons, if_neg (by rwa [decide_eq_true_iff])]

theorem addLine_imageRefused (hk : o.freeLine = some k) (room : o.copyCount + q ≤ 400) {e : Status}
    (image : s.imageFor o.session p 2 = .error e) : s.addLine tag p h o z f q = s.refuseImage tag o.session p 2 e := by
  have within : o.copyCount + q ≤ Config.maxCopies := room
  unfold State.addLine
  simp only [hk, image]
  rw [checked_cons, if_pos (decide_eq_true within), checked_nil]

theorem addLine_made (hk : o.freeLine = some k) (room : o.copyCount + q ≤ 400) {i : CatHandle} {e : CatEntry}
    (image : s.imageFor o.session p 2 = .ok (i, e)) : s.addLine tag p h o z f q =
      ((s.refRises i).setOrder h.record (o.setLine k (some (Line.added i z f q))).edited).ok tag (le1 k.val) := by
  have within : o.copyCount + q ≤ Config.maxCopies := room
  unfold State.addLine
  simp only [hk, image]
  rw [checked_cons, if_pos (decide_eq_true within), checked_nil]

end AddLine

theorem lineAdd_answers (n : NamesOrder s .lineAdd tag p h o) : exec (.lineAdd tag) s = .next (
    let t := s.touchHandle o.session
    if o.state ∈ ([.editing, .quoted] : List OrderState) then
      (t.holds tag).withLineFields tag p 5 ((t.holds tag).addLine tag p h o)
    else t.answerNo tag .lineAdd .badState) := by
  have taking : exec (.lineAdd tag) s = .next (s.take .lineAdd tag (fun t p => t.withOrder .lineAdd tag p 0 (fun t h o =>
    t.checked tag [(o.editable, .badState)] (t.withLineFields tag p 5 (t.addLine tag p h o))))) := rfl
  rw [taking, n.edit_answers (by decide) (fun p t h o => t.withLineFields tag p 5 (t.addLine tag p h o))]

/-- Settles O31: the order's state, the fields, the limits, then the image's handle and the line made. -/
theorem lineAddTakesTheLowestUnusedIndex : Obligations.LineAddTakesTheLowestUnusedIndex := by
  unfold Obligations.LineAddTakesTheLowestUnusedIndex
  intro s tag p h o n t no copies q
  have answer := lineAdd_answers n
  have catalogue := taken_catalogue s tag o.session
  have entry (i : CatHandle) := congrArg (Catalogue.entry? · i) catalogue
  refine ⟨fun hs => ?_, fun hs bad => ?_, fun z f hs hz hf least most => ?_⟩
  · rw [if_neg hs] at answer
    exact answer
  · rw [if_pos hs, withLineFields_badValue _ bad] at answer
    exact answer.trans (congrArg _ (n.refuse _))
  · rw [if_pos hs, withLineFields_good _ hz hf (q := q) rfl least most] at answer
    refine ⟨fun full => ?_, fun k free below => ?_⟩
    · rw [addLine_lineLimit (freeLine_none full)] at answer
      exact answer.trans (congrArg _ (n.refuse _))
    · have lowest := freeLine_some free below
      refine ⟨fun many => ?_, fun room beyond => ?_, fun i room hq hg => ?_⟩
      · rw [addLine_copyLimit lowest many] at answer
        exact answer.trans (congrArg _ (n.refuse _))
      · rw [addLine_imageRefused lowest room (imageFor_beyond beyond), refuseImage_other _ _ (by decide)] at answer
        exact answer.trans (congrArg _ (n.refuse _))
      · have named := catHandleAt_of_handle hq hg
        refine ⟨fun gone => ?_, fun e held other => ?_, fun e held own => ?_⟩
        · have image := imageFor_stale (x := o.session) named ((entry i).trans gone)
          rw [addLine_imageRefused lowest room image, refuseImage_other _ _ (by decide)] at answer
          exact answer.trans (congrArg _ (n.refuse _))
        · have image := imageFor_entry (x := o.session) named ((entry i).trans held)
          rw [if_neg other] at image
          rw [addLine_imageRefused lowest room image, refuseImage_accessDenied] at answer
          exact answer
        · have image := imageFor_entry (x := o.session) named ((entry i).trans held)
          rw [if_pos own] at image
          rw [addLine_made lowest room image, refRises_eq ((entry i).trans held), catalogue] at answer
          exact answer.trans (congrArg _ (n.touched.ok_written _ _ _ _))

/-! ### The line an edit names -/

theorem lineAt_beyond {m : Nat} (hk : 16 ≤ byteAt p m) : o.lineAt p m = none := by
  unfold Order.lineAt
  rw [fin?_eq_none hk]
  rfl

theorem lineAt_of_index {m : Nat} {k : Fin 16} (hk : byteAt p m = k.val) :
    o.lineAt p m = (o.lines.get k).map (fun l => (k, l)) := by
  unfold Order.lineAt
  rw [fin?_eq_some hk]
  rfl

/-- An edit's part behind the line index of its payload. -/
def State.withLine (s : State) (tag : Byte) (p : List Byte) (o : Order) (act : Fin 16 → Line → State) : State :=
  match o.lineAt p 2 with
  | none => s.refuse tag .noLine
  | some (k, l) => act k l

theorem withLine_noLine (act : Fin 16 → Line → State) (unused : o.lineAt p 2 = none) :
    s.withLine tag p o act = s.refuse tag .noLine := by
  unfold State.withLine
  rw [unused]

theorem withLine_used (act : Fin 16 → Line → State) {k : Fin 16} {l : Line} (used : o.lineAt p 2 = some (k, l)) :
    s.withLine tag p o act = act k l := by
  unfold State.withLine
  rw [used]

/-! ### LINE_CHANGE (R78) -/

/-- The checks of a change in their order; a change of size frees the raster. -/
theorem changeLine_eq (k : Fin 16) (l : Line) (z : Size) (f : Finish) (q : Nat) : s.changeLine tag h o k l z f q = (
    let edited : RasterState → Order := fun r =>
      (o.setLine k (some { l with size := z, finish := f, quantity := q, raster := r })).edited
    if l.raster = .orphaned then s.refuse tag .orphanLine
    else if 400 < o.copyCount - l.quantity + q then s.refuse tag .copyLimit
    else if z = l.size then (s.setOrder h.record (edited l.raster)).ok tag []
    else if s.catalogue.entry? l.image = none then s.refuse tag .staleHandle
    else ((s.freeRaster h k).setOrder h.record (edited .none)).ok tag []) := by
  have limit : decide (o.copyCount - l.quantity + q ≤ Config.maxCopies) = !decide (400 < o.copyCount - l.quantity + q) := by
    rw [← decide_not]
    exact decide_eq_decide.2 Nat.not_lt.symm
  unfold State.changeLine
  rw [limit]
  simp only [checked_cons, checked_nil]
  by_cases orphaned : l.raster = .orphaned
  · simp [orphaned]
  by_cases many : 400 < o.copyCount - l.quantity + q
  · simp [orphaned, many]
  by_cases size : z = l.size
  · simp [orphaned, many, size]
  · cases held : s.catalogue.entry? l.image <;> simp [orphaned, many, size]

theorem lineChange_answers (n : NamesOrder s .lineChange tag p h o) : exec (.lineChange tag) s = .next (
    let t := s.touchHandle o.session
    if o.state ∈ ([.editing, .quoted] : List OrderState) then
      (t.holds tag).withLine tag p o (fun k l => (t.holds tag).withLineFields tag p 3 ((t.holds tag).changeLine tag h o k l))
    else t.answerNo tag .lineChange .badState) := by
  have taking : exec (.lineChange tag) s = .next (s.take .lineChange tag (fun t p => t.withOrder .lineChange tag p 0 (fun t h o =>
    t.checked tag [(o.editable, .badState)]
      (t.withLine tag p o (fun k l => t.withLineFields tag p 3 (t.changeLine tag h o k l)))))) := rfl
  rw [taking, n.edit_answers (by decide) (fun p t h o =>
    t.withLine tag p o (fun k l => t.withLineFields tag p 3 (t.changeLine tag h o k l)))]

/-! ### LINE_REMOVE (R79) -/

/-- A line removed: its raster freed, its reference fallen. -/
def State.removeLine (s : State) (tag : Byte) (h : OrderHandle) (o : Order) (k : Fin 16) (l : Line) : State :=
  (((s.freeRaster h k).refFalls l.image).setOrder h.record (o.setLine k none).edited).ok tag []

theorem lineRemove_answers (n : NamesOrder s .lineRemove tag p h o) : exec (.lineRemove tag) s = .next (
    let t := s.touchHandle o.session
    if o.state ∈ ([.editing, .quoted] : List OrderState) then
      (t.holds tag).withLine tag p o ((t.holds tag).removeLine tag h o)
    else t.answerNo tag .lineRemove .badState) := by
  have taking : exec (.lineRemove tag) s = .next (s.take .lineRemove tag (fun t p => t.withOrder .lineRemove tag p 0 (fun t h o =>
    t.checked tag [(o.editable, .badState)] (t.withLine tag p o (t.removeLine tag h o))))) := rfl
  rw [taking, n.edit_answers (by decide) (fun p t h o => t.withLine tag p o (t.removeLine tag h o))]

/-- The checks LINE_CHANGE and LINE_REMOVE share, the order's state and the line, and what stands behind them. -/
theorem lineEdit_checked (n : NamesOrder s c tag p h o) {i : Instr} {act : Fin 16 → Line → State}
    (answer : exec i s = .next (
      let t := s.touchHandle o.session
      if o.state ∈ ([.editing, .quoted] : List OrderState) then (t.holds tag).withLine tag p o act
      else t.answerNo tag c .badState)) :
    (let no : Status → Prop := fun e => exec i s = .next ((s.touchHandle o.session).answerNo tag c e)
    (o.state ∉ ([.editing, .quoted] : List OrderState) → no .badState) ∧
    (o.state ∈ ([.editing, .quoted] : List OrderState) → 16 ≤ byteAt p 2 → no .noLine) ∧
    (∀ k : Fin 16, o.state ∈ ([.editing, .quoted] : List OrderState) → byteAt p 2 = k.val →
      (o.lines.get k = none → no .noLine) ∧ (∀ l, o.lines.get k = some l → exec i s = .next (act k l)))) := by
  refine ⟨fun hs => ?_, fun hs beyond => ?_, fun k hs hk => ⟨fun unused => ?_, fun l used => ?_⟩⟩
  · rw [if_neg hs] at answer
    exact answer
  · rw [if_pos hs, withLine_noLine _ (lineAt_beyond beyond)] at answer
    exact answer.trans (congrArg _ (n.refuse _))
  · have noLine : o.lineAt p 2 = none := by rw [lineAt_of_index hk, unused, Option.map_none]
    rw [if_pos hs, withLine_noLine _ noLine] at answer
    exact answer.trans (congrArg _ (n.refuse _))
  · have line : o.lineAt p 2 = some (k, l) := by rw [lineAt_of_index hk, used, Option.map_some]
    rw [if_pos hs, withLine_used _ line] at answer
    exact answer

/-- Settles O32: the shared checks, then the change by `changeLine_eq` and the removal as it stands. -/
theorem lineChangeAndLineRemove : Obligations.LineChangeAndLineRemove := by
  unfold Obligations.LineChangeAndLineRemove
  refine ⟨fun s tag p h o n => ?_, fun s tag p h o n => lineEdit_checked n (lineRemove_answers n)⟩
  intro t no copies q
  obtain ⟨uneditable, beyond, named⟩ := lineEdit_checked n (lineChange_answers n)
  refine ⟨uneditable, beyond, fun k hs hk => ⟨(named k hs hk).1, fun l used => ?_⟩⟩
  have answer := (named k hs hk).2 l used
  refine ⟨fun bad => ?_, fun z f hz hf least most => ?_⟩
  · rw [withLineFields_badValue _ bad] at answer
    exact answer.trans (congrArg _ (n.refuse _))
  · intro edited
    rw [withLineFields_good _ hz hf (q := q) rfl least most, changeLine_eq, taken_catalogue] at answer
    refine ⟨fun orphaned => ?_, fun kept (many : 400 < o.copyCount - l.quantity + q) => ?_,
      fun kept (room : o.copyCount - l.quantity + q ≤ 400) same => ?_,
      fun kept (room : o.copyCount - l.quantity + q ≤ 400) other gone => ?_,
      fun kept (room : o.copyCount - l.quantity + q ≤ 400) other held => ?_⟩
    · rw [if_pos orphaned] at answer
      exact answer.trans (congrArg _ (n.refuse _))
    · rw [if_neg kept, if_pos many] at answer
      exact answer.trans (congrArg _ (n.refuse _))
    · rw [if_neg kept, if_neg (Nat.not_lt.2 room), if_pos same] at answer
      exact answer.trans (congrArg _ ((n.touched.setOrder _ _).ok _))
    · rw [if_neg kept, if_neg (Nat.not_lt.2 room), if_neg other, if_pos gone] at answer
      exact answer.trans (congrArg _ (n.refuse _))
    · rw [if_neg kept, if_neg (Nat.not_lt.2 room), if_neg other, if_neg held] at answer
      exact answer

end Sys2Proof.Machine

/-! Orders opened, quoted and paid (R74, R76, R82 to R86): what stands behind each request's checks, named. -/

namespace Sys2Proof.Machine

/-- A free record taken under the handle `x` for a session's uncommitted order. -/
def State.orderOpened (s : State) (h : SessionHandle) (x : OrderHandle) : State :=
  (s.setOrderRecord x.record { gen := x.gen, body := some (Order.opened h) }).setRecord h.record
    { s.record h.record with uncommitted := some x }

/-- ORDER_OPEN past the checks of the session. -/
def State.openLowest (s : State) (tag : Byte) (h : SessionHandle) : State :=
  match s.freeOrder with
  | none => s.refuse tag .noOrder
  | some k =>
    let x : OrderHandle := { record := k, gen := (s.orderRecord k).gen + 1 }
    (s.orderOpened h x).ok tag x.bytes

/-- Tier `k` is used and reached by a quantity of `q`. -/
def PriceTable.Reaches (t : PriceTable) (z : Size) (q : Nat) (k : Fin 4) : Prop := t.threshold z k ≠ 0 ∧ t.threshold z k ≤ q

/-- An order's quote under the published table, against its limit. -/
def State.quoteOrder (s : State) (tag : Byte) (h : OrderHandle) (o : Order) : State :=
  let q := s.store.published.quote s.store.revision o
  if s.store.published.limit < q.total then (s.setOrder h.record o.edited).refuse tag .orderLimit
  else (s.setOrder h.record { o with state := .quoted, quote := some q }).ok tag (quoteFields h q)

/-- ORDER_COMMIT of a QUOTED order, past the check of its flag. -/
def State.commitQuoted (s : State) (tag : Byte) (h : OrderHandle) (o : Order) (q : Quote) (allow : Bool) : State :=
  if s.quoteFresh q then
    s.checked tag
      [(o.used.all (fun x => decide (x.2.raster ≠ .orphaned)), .orphanLine),
       (o.used.all (fun x => decide (x.2.raster = .complete)), .rasterIncomplete),
       (s.printersFor o, .noPrinter), (s.conds.inService, .outOfService)]
      (s.payOrder tag h o q.total allow)
  else (s.setOrder h.record o.edited).refuse tag .quoteStale

/-- The part of ORDER_COMMIT behind the order's handle, by the flag and the order's state. -/
def State.commitAsked (s : State) (tag : Byte) (p : List Byte) (h : OrderHandle) (o : Order) : State :=
  match flagAt p 2, o.state, o.quote with
  | none, _, _ => s.refuse tag .badValue
  | some allow, .quoted, some q => s.commitQuoted tag h o q allow
  | some _, _, _ => s.refuse tag .badState

/-- A request that names an ACTIVE session, ready to be taken. -/
structure NamesSession (s : State) (c : RequestCode) (tag : Byte) (p : List Byte) (h : SessionHandle) : Prop where
  offers : s.Offers c tag p
  record : byteAt p 0 = h.record.val
  gen : p.getD 1 0 = h.gen
  current : s.current h = true
  active : (s.record h.record).state = .active

end Sys2Proof.Machine

/-! The counters of a committed order's copies at every step (R92), then ORDER_OPEN and ORDER_QUOTE. -/

namespace Sys2Proof.Machine

variable {s : State} {c : RequestCode} {tag : Byte} {p : List Byte}

/-- Settles O6: every command keeps the copies counted, and a step on an empty queue does not reach the orders. -/
theorem stepKeepsTheCopiesCounted : Obligations.StepKeepsTheCopiesCounted := by
  unfold Obligations.StepKeepsTheCopiesCounted
  intro s t hs h
  refine step_keeps (P := fun u => u.orders.CopiesCounted) (fun u v hc k => ?_) (fun u v hk => hk.copies) h hs
  rw [hc.orders]
  exact k

/-- A list of checks is its first check, then the rest. -/
theorem checked_first (s : State) (tag : Byte) (x : Bool × Status) (rest : List (Bool × Status)) (act : State) :
    s.checked tag (x :: rest) act = s.checked tag [x] (s.checked tag rest act) := by
  rw [checked_cons, checked_cons, checked_nil]

/-! ### ORDER_OPEN (R74, R76) -/

/-- R13 and R23 let a request on an ACTIVE session through to its own part. -/
theorem NamesSession.take {h : SessionHandle} (n : NamesSession s c tag p h)
    (act : List Byte → State → SessionHandle → State) : s.take c tag (fun t p => t.withSession c tag p 0 (act p)) =
      act p ((s.touch h.record).holds tag) h := by
  have taken : sessionRefusal c (s.record h.record).state = none := by rw [n.active]; rfl
  rw [n.offers.take, withSession_taken n.record n.gen n.current taken]

/-- The first number of a table that passes a test is the lowest that does. -/
theorem find?_allFin_eq_some {n : Nat} {b : Fin n → Bool} {k : Fin n} (passes : b k = true)
    (below : ∀ j < k, b j = false) : (allFin n).find? b = some k := by
  refine List.find?_eq_some_iff_getElem.2 ⟨passes, k.val, by simp, by simp, fun j hj => ?_⟩
  simpa using below ⟨j, by omega⟩ hj

theorem freeRecord_none (full : ∀ k, (s.orderRecord k).body ≠ none) : s.freeOrder = none :=
  List.find?_eq_none.2 (fun k _ => by simpa using full k)

theorem freeRecord_some {k : Fin 16} (free : (s.orderRecord k).body = none)
    (below : ∀ j < k, (s.orderRecord j).body ≠ none) : s.freeOrder = some k :=
  find?_allFin_eq_some (decide_eq_true free) (fun j hj => decide_eq_false (below j hj))

/-- The restart of a timer writes the timer alone. -/
theorem touch_record (s : State) (r q : Fin 8) :
    (s.touch r).record q = { s.record q with timer := ((s.touch r).record q).timer } := by
  unfold State.touch
  split
  · by_cases hq : r = q
    · subst hq
      rw [State.record_setRecord]
    · rw [State.record_setRecord_ne s hq]
  · rfl

theorem openLowest_none {h : SessionHandle} (full : ∀ k, (s.orderRecord k).body ≠ none) :
    s.openLowest tag h = s.refuse tag .noOrder := by
  unfold State.openLowest
  rw [freeRecord_none full]

theorem openLowest_some {h : SessionHandle} {k : Fin 16} (free : (s.orderRecord k).body = none)
    (below : ∀ j < k, (s.orderRecord j).body ≠ none) : s.openLowest tag h =
      (s.orderOpened h ⟨k, (s.orderRecord k).gen + 1⟩).ok tag (OrderHandle.mk k ((s.orderRecord k).gen + 1)).bytes := by
  unfold State.openLowest
  rw [freeRecord_some free below]

/-- The checks of R76 on the session in their order. -/
theorem orderOpen_answers {h : SessionHandle} (n : NamesSession s .orderOpen tag p h) : exec (.orderOpen tag) s = .next (
      let t := s.touch h.record
      let x := s.record h.record
      if x.uncommitted ≠ none then t.answerNo tag .orderOpen .badState
      else if 4 ≤ x.committed.length then t.answerNo tag .orderOpen .tooManyOrders
      else (t.holds tag).openLowest tag h) := by
  have touched := n.offers.touched h.record
  have uncommitted : (((s.touch h.record).holds tag).record h.record).uncommitted = (s.record h.record).uncommitted :=
    (congrArg SessionRecord.uncommitted (touch_record s h.record h.record) :)
  have committed : (((s.touch h.record).holds tag).record h.record).committed = (s.record h.record).committed :=
    (congrArg SessionRecord.committed (touch_record s h.record h.record) :)
  have taking : exec (.orderOpen tag) s = .next (s.take .orderOpen tag (fun t p =>
      t.withSession .orderOpen tag p 0 (fun t h => t.checked tag [((t.record h.record).uncommitted.isNone, .badState),
        (decide ((t.record h.record).committed.length < Config.maxCommitted), .tooManyOrders)] (t.openLowest tag h)))) := rfl
  rw [taking, n.take, checked_cons, checked_cons, checked_nil, uncommitted, committed,
    touched.refuse, touched.refuse]
  by_cases fresh : (s.record h.record).uncommitted = none
  · rw [if_pos (by rw [fresh]; rfl), if_neg (not_not.2 fresh)]
    by_cases room : (s.record h.record).committed.length < Config.maxCommitted
    · rw [if_pos (decide_eq_true room)]
      exact congrArg _ (if_neg (Nat.not_le.2 room)).symm
    · rw [if_neg (fun h => room (of_decide_eq_true h))]
      exact congrArg _ (if_pos (Nat.not_lt.1 room)).symm
  · rw [if_neg (by simpa using fresh), if_pos fresh]

/-- Settles O30: the session's checks by `orderOpen_answers`, the lowest free record by the two lemmas of `State.freeOrder`. -/
theorem orderOpenTakesTheLowestFreeRecord : Obligations.OrderOpenTakesTheLowestFreeRecord := by
  unfold Obligations.OrderOpenTakesTheLowestFreeRecord
  intro s tag p h ho hr hg hx ha t x
  have answer := orderOpen_answers ⟨ho, hr, hg, hx, ha⟩
  have record (k : Fin 16) : ((s.touch h.record).holds tag).orderRecord k = s.orderRecord k :=
    orderRecord_congr (State.ChangesOnly.touch_op s h.record).orders k
  refine ⟨fun busy => ?_, fun fresh many => ?_, fun fresh room full => ?_, fun k fresh room free below => ?_⟩
  · rw [answer, if_pos busy]
  · rw [answer, if_neg (not_not.2 fresh), if_pos many]
  · rw [if_neg (not_not.2 fresh), if_neg (Nat.not_le.2 room), openLowest_none (by simpa only [record] using full)] at answer
    exact answer.trans (congrArg _ ((ho.touched h.record).refuse _))
  · rw [if_neg (not_not.2 fresh), if_neg (Nat.not_le.2 room),
      openLowest_some (k := k) (by rwa [record]) (by simpa only [record] using below), record] at answer
    have ready : (t.orderOpened h ⟨k, (s.orderRecord k).gen + 1⟩).Offers .orderOpen tag p := ho.touched h.record
    exact answer.trans (congrArg _ (ready.ok _))

/-! ### Pricing (R83, R84) -/

theorem not_reaches {t : PriceTable} {z : Size} {q : Nat} {k : Fin 4} (h : ¬ t.Reaches z q k) :
    t.threshold z k = 0 ∨ q < t.threshold z k := by
  unfold PriceTable.Reaches at h
  omega

theorem tier_test {t : PriceTable} {z : Size} {q : Nat} {k : Fin 4} (hk : k ≠ 0) :
    (t.usesTier z k && decide (t.threshold z k ≤ q)) = true ↔ t.Reaches z q k := by
  unfold PriceTable.usesTier PriceTable.Reaches
  simp only [Bool.and_eq_true, decide_eq_true_iff, hk, false_or]

/-- The tiers above 0, from the highest. -/
theorem tier_above_zero {j : Fin 4} (h : j ≠ 0) : j ∈ ([3, 2, 1] : List (Fin 4)) := by
  revert j
  decide

/-- The tier of a quantity is reached, or it is tier 0, and none above it is reached. -/
theorem tier_highest (t : PriceTable) (z : Size) (q : Nat) : (t.tier z q = 0 ∨ t.Reaches z q (t.tier z q)) ∧
    ∀ j, t.tier z q < j → ¬ t.Reaches z q j := by
  unfold PriceTable.tier
  cases hf : ([3, 2, 1] : List (Fin 4)).find? (fun k => t.usesTier z k && decide (t.threshold z k ≤ q)) with
  | none =>
    refine ⟨.inl rfl, fun j (hj : 0 < j) reached => ?_⟩
    have above : j ≠ 0 := Fin.pos_iff_ne_zero.1 hj
    exact List.find?_eq_none.1 hf j (tier_above_zero above) ((tier_test above).2 reached)
  | some k =>
    obtain ⟨passes, front, rest, split, failed⟩ := List.find?_eq_some_iff_append.1 hf
    have falling : (front ++ k :: rest).Pairwise (· > ·) := split ▸ (by decide)
    have member : k ∈ ([3, 2, 1] : List (Fin 4)) := List.mem_of_find?_eq_some hf
    have above : k ≠ 0 := by
      rintro rfl
      exact absurd member (by decide)
    refine ⟨.inr ((tier_test above).1 passes), fun j (hj : k < j) reached => ?_⟩
    have positive : j ≠ 0 := Fin.pos_iff_ne_zero.1 (lt_of_le_of_lt (Fin.zero_le k) hj)
    have listed : j ∈ front ++ k :: rest := split ▸ tier_above_zero positive
    rcases List.mem_append.1 listed with before | behind
    · have failed := failed j before
      rw [(tier_test positive).2 reached] at failed
      exact absurd failed (by decide)
    · rcases List.mem_cons.1 behind with rfl | later
      · exact lt_irrefl _ hj
      · have lower := (List.pairwise_cons.1 (List.pairwise_append.1 falling).2.1).1 j later
        exact lt_asymm hj lower

/-- A sum over the lines in use, as a sum over all indices. -/
theorem used_sum (o : Order) (f : Line → Nat) : (o.used.map (fun x => f x.2)).sum =
    ((allFin 16).map (fun k => ((o.lines.get k).map f).getD 0)).sum := by
  unfold Order.used
  generalize allFin 16 = ks
  induction ks with
  | nil => rfl
  | cons k rest ih =>
    rw [List.map_cons, List.sum_cons, ← ih]
    cases hl : o.lines.get k with
    | none => simp [hl]
    | some l => simp [hl]

theorem quote_lines (t : PriceTable) (revision : BitVec 16) (o : Order) (k : Fin 16) :
    (t.quote revision o).lines.get k = (o.lines.get k).map (t.priceLine o) := by
  unfold PriceTable.quote
  simp [Vector.get_eq_getElem]

theorem quote_subtotal (t : PriceTable) (revision : BitVec 16) (o : Order) : (t.quote revision o).subtotal =
    ((allFin 16).map (fun k => (((t.quote revision o).lines.get k).map (fun x => x.amount)).getD 0)).sum := by
  refine (used_sum o (fun l => (t.priceLine o l).amount)).trans ?_
  simp only [quote_lines, Option.map_map]
  rfl

/-! ### ORDER_QUOTE (R82) -/

/-- The checks of R82 in their order, then the quote. -/
theorem orderQuote_answers {h : OrderHandle} {o : Order} (n : NamesOrder s .orderQuote tag p h o) :
    exec (.orderQuote tag) s = .next (
      let t := s.touchHandle o.session
      if o.state ∈ ([.editing, .quoted] : List OrderState) then
        if s.store.valid = false then t.answerNo tag .orderQuote .noPrices
        else if o.used = [] then t.answerNo tag .orderQuote .emptyOrder
        else (t.holds tag).quoteOrder tag h o
      else t.answerNo tag .orderQuote .badState) := by
  have valid : ((s.touchHandle o.session).holds tag).store.valid = s.store.valid :=
    congrArg Store.valid (State.ChangesOnly.touchHandle_op s o.session).store
  have taking : exec (.orderQuote tag) s = .next (s.take .orderQuote tag (fun t p =>
      t.withOrder .orderQuote tag p 0 (fun t h o => t.checked tag [(o.editable, .badState)] (t.checked tag
        [(t.store.valid, .noPrices), (decide (o.used ≠ []), .emptyOrder)] (t.quoteOrder tag h o))))) := by
    simp only [← checked_first]
    rfl
  rw [taking, n.edit_answers (by decide), checked_cons, checked_cons, checked_nil, valid, n.refuse, n.refuse]
  refine congrArg _ (if_congr Iff.rfl ?_ rfl)
  by_cases published : s.store.valid = true
  · by_cases empty : o.used = []
    · rw [if_pos published, if_neg (by simpa using empty), if_neg (by rw [published]; decide), if_pos empty]
    · rw [if_pos published, if_pos (decide_eq_true empty), if_neg (by rw [published]; decide), if_neg empty]
  · rw [if_neg published, if_pos (Bool.eq_false_iff.2 published)]

/-- Settles O33: the checks by `orderQuote_answers`; the quote is that of `PriceTable.quote`, field by field. -/
theorem orderQuotePricesTheOrder : Obligations.OrderQuotePricesTheOrder := by
  unfold Obligations.OrderQuotePricesTheOrder
  intro s tag p h o n t table no
  have answer := orderQuote_answers n
  refine ⟨fun hs => ?_, fun hs invalid => ?_, fun hs valid empty => ?_, fun hs valid lines => ?_⟩
  · rw [if_neg hs] at answer
    exact answer
  · rw [if_pos hs, if_pos invalid] at answer
    exact answer
  · rw [if_pos hs, if_neg (by rw [valid]; decide), if_pos empty] at answer
    exact answer
  · have store : (t.holds tag).store = s.store := (State.ChangesOnly.touchHandle_op s o.session).store
    rw [if_pos hs, if_neg (by rw [valid]; decide), if_neg lines] at answer
    unfold State.quoteOrder at answer
    rw [store] at answer
    refine ⟨table.quote s.store.revision o, fun k => ?_, fun k l x hl hx => ?_, quote_subtotal _ _ _, rfl, rfl, rfl, rfl, ?_⟩
    · rw [quote_lines, Option.map_eq_none_iff]
    · rw [quote_lines, hl] at hx
      cases hx
      obtain ⟨reached, highest⟩ := tier_highest table l.size (o.quantityOf l.size)
      exact ⟨reached, fun j hj => not_reaches (highest j hj), rfl, rfl, rfl, rfl⟩
    · refine answer.trans (congrArg _ (if_congr Iff.rfl ?_ ?_))
      · exact (n.touched.setOrder _ _).refuse _
      · exact (n.touched.setOrder _ _).ok _

end Sys2Proof.Machine

/-! ORDER_COMMIT (R85, R86): its checks in their order, then the payment. -/

namespace Sys2Proof.Machine

variable {s : State} {tag : Byte} {p : List Byte} {h : OrderHandle} {o : Order} {q : Quote}

/-! ### The flag, the quote and the lines at the commit -/

theorem flagAt_beyond {k : Nat} (beyond : 2 ≤ byteAt p k) : flagAt p k = none := by
  unfold flagAt
  split
  iterate 2
    · omega
  · rfl

theorem flagAt_flag {k : Nat} (flag : byteAt p k < 2) : flagAt p k = some (decide (byteAt p k = 1)) := by
  have either : byteAt p k = 0 ∨ byteAt p k = 1 := by omega
  unfold flagAt
  rcases either with zero | one
  · rw [zero]
    rfl
  · rw [one]
    rfl

theorem quoteFresh_iff : s.quoteFresh q = true ↔ s.store.valid = true ∧ q.revision = s.store.revision := by
  unfold State.quoteFresh
  rw [Bool.and_eq_true, decide_eq_true_iff]

/-- For every line of the order some port is able (R85). -/
theorem printersFor_iff : s.printersFor o = true ↔ ∀ x ∈ o.used, ∃ n, (s.port n).ableFor x.2.size = true := by
  unfold State.printersFor
  simp only [List.all_eq_true, List.any_eq_true, mem_allFin, true_and]

/-- A check of every line in use, as ORDER_COMMIT makes it. -/
theorem used_check_iff {P : Line → Prop} [DecidablePred P] :
    o.used.all (fun x => decide (P x.2)) = true ↔ ∀ x ∈ o.used, P x.2 := by
  simp only [List.all_eq_true, decide_eq_true_iff]

/-! ### The checks of a quoted order (R85) -/

theorem orderCommit_answers (n : NamesOrder s .orderCommit tag p h o) :
    exec (.orderCommit tag) s = .next (((s.touchHandle o.session).holds tag).commitAsked tag p h o) := by
  have taking : exec (.orderCommit tag) s = .next (s.take .orderCommit tag (fun t p =>
      t.withOrder .orderCommit tag p 0 (fun t h o => t.commitAsked tag p h o))) := rfl
  rw [taking, n.offers.take, n.withOrder_taken (by decide)]

theorem commitAsked_badValue (beyond : 2 ≤ byteAt p 2) : s.commitAsked tag p h o = s.refuse tag .badValue := by
  unfold State.commitAsked
  rw [flagAt_beyond beyond]

theorem commitAsked_badState (flag : byteAt p 2 < 2) (hs : o.state ≠ .quoted) :
    s.commitAsked tag p h o = s.refuse tag .badState := by
  unfold State.commitAsked
  rw [flagAt_flag flag]
  split
  · next none => cases none
  · next quoted _ => exact absurd quoted hs
  · rfl

theorem commitAsked_quoted (flag : byteAt p 2 < 2) (hs : o.state = .quoted) (hq : o.quote = some q) :
    s.commitAsked tag p h o = s.commitQuoted tag h o q (decide (byteAt p 2 = 1)) := by
  unfold State.commitAsked
  rw [flagAt_flag flag, hs, hq]

theorem commitQuoted_stale {allow : Bool} (stale : s.store.valid = false ∨ q.revision ≠ s.store.revision) :
    s.commitQuoted tag h o q allow = (s.setOrder h.record o.edited).refuse tag .quoteStale := by
  unfold State.commitQuoted
  rw [if_neg]
  rw [quoteFresh_iff]
  rintro ⟨valid, revision⟩
  exact stale.elim (fun invalid => by rw [invalid] at valid; cases valid) (· revision)

/-- The checks of R85 on a fresh quote in their order, then the payment. -/
theorem commitQuoted_fresh {allow : Bool} (valid : s.store.valid = true) (revision : q.revision = s.store.revision) :
    s.commitQuoted tag h o q allow =
      if ∀ x ∈ o.used, x.2.raster ≠ .orphaned then
        if ∀ x ∈ o.used, x.2.raster = .complete then
          if ∀ x ∈ o.used, ∃ n, (s.port n).ableFor x.2.size = true then
            if s.conds.inService = true then s.payOrder tag h o q.total allow
            else s.refuse tag .outOfService
          else s.refuse tag .noPrinter
        else s.refuse tag .rasterIncomplete
      else s.refuse tag .orphanLine := by
  unfold State.commitQuoted
  rw [if_pos (quoteFresh_iff.2 ⟨valid, revision⟩)]
  simp only [checked_cons, checked_nil, printersFor_iff, used_check_iff (P := fun l => l.raster ≠ .orphaned),
    used_check_iff (P := fun l => l.raster = .complete)]

/-! ### The payment (R86) -/

theorem payOrder_covered {total : Nat} {allow : Bool} (covered : total ≤ (s.account o.session.record).credit) :
    s.payOrder tag h o total allow = (
      let r := o.session.record
      let u := State.tasksJoined ((s.setCredit r ((s.account r).credit - total)).commitOrder h { o with paidCredit := total } 0)
      u.ok tag (le1 3 ++ le4 (u.account r).credit)) := by
  have part : min (s.account o.session.record).credit total = total := Nat.min_eq_right covered
  unfold State.payOrder
  dsimp only
  rw [part, if_pos rfl]
  rfl

theorem payOrder_card {total : Nat} (short : (s.account o.session.record).credit < total)
    (present : s.money.terminal.state ∉ ([.absent, .lost] : List TerminalState)) : s.payOrder tag h o total true = (
      let r := o.session.record
      let credit := (s.account r).credit
      let ref := s.money.terminal.refCounter + 1
      let u := (s.setCredit r 0).setOrder h.record { o with state := .authorising, paidCredit := credit, termRef := some ref }
      State.ok (State.handTerminal (u.setTerminal { s.money.terminal with
          refCounter := ref
          waiting := s.money.terminal.waiting ++ [{ order := h, session := o.session, amount := total - credit, ref := ref }] }))
        tag (le1 2 ++ le4 (total - credit) ++ le2 ref.toNat)) := by
  have part : min (s.account o.session.record).credit total = (s.account o.session.record).credit := Nat.min_eq_left short.le
  obtain ⟨absent, lost⟩ : s.money.terminal.state ≠ .absent ∧ s.money.terminal.state ≠ .lost := by simpa using present
  unfold State.payOrder
  dsimp only
  rw [part, if_neg short.ne, if_pos ⟨rfl, absent, lost⟩, Nat.sub_self]
  rfl

theorem payOrder_short {total : Nat} {allow : Bool} (short : (s.account o.session.record).credit < total)
    (uncarded : allow = false ∨ s.money.terminal.state ∈ ([.absent, .lost] : List TerminalState)) :
    s.payOrder tag h o total allow = s.refuse tag .shortCredit := by
  have part : min (s.account o.session.record).credit total = (s.account o.session.record).credit := Nat.min_eq_left short.le
  unfold State.payOrder
  dsimp only
  rw [part, if_neg short.ne, if_neg]
  rintro ⟨allowed, absent, lost⟩
  rcases uncarded with refused | gone
  · rw [refused] at allowed
    cases allowed
  · simp [absent, lost] at gone

/-- Settles O34: the checks of the flag, the state and the quote, then the payment by what the credit covers. -/
theorem orderCommitPaysTheOrder : Obligations.OrderCommitPaysTheOrder := by
  unfold Obligations.OrderCommitPaysTheOrder
  intro s tag p h o n t no r credit
  have answer := orderCommit_answers n
  have taken : s.ChangesOnly ((s.touchHandle o.session).holds tag) [.sessions, .link] :=
    ((State.ChangesOnly.touchHandle_op s o.session).mono (by decide)).holds tag (by decide)
  have refused {e : Status} (h : exec (.orderCommit tag) s = .next ((t.holds tag).refuse tag e)) : no e :=
    h.trans (congrArg _ (n.refuse e))
  refine ⟨fun beyond => ?_, fun flag hs => ?_, fun q flag hs hq => ?_⟩
  · exact refused (answer.trans (congrArg _ (commitAsked_badValue beyond)))
  · exact refused (answer.trans (congrArg _ (commitAsked_badState flag hs)))
  · rw [commitAsked_quoted flag hs hq] at answer
    refine ⟨fun stale => ?_, fun valid revision => ?_⟩
    · rw [commitQuoted_stale (by rwa [taken.store])] at answer
      exact answer.trans (congrArg _ ((n.touched.setOrder _ _).refuse _))
    · have port (m : Fin 3) : ((s.touchHandle o.session).holds tag).port m = s.port m :=
        congrArg (fun x : Prints => x.ports.get m) taken.prints
      have account : ((s.touchHandle o.session).holds tag).account o.session.record = s.account o.session.record :=
        congrArg (fun x : Money => x.accounts.get o.session.record) taken.money
      rw [commitQuoted_fresh (by rwa [taken.store]) (by rwa [taken.store])] at answer
      simp only [port, taken.conds] at answer
      refine ⟨fun orphan => ?_, fun kept => ⟨fun missing => ?_, fun complete => ⟨fun unable => ?_, fun able =>
        ⟨fun out => ?_, fun inn => ?_⟩⟩⟩⟩
      · rw [if_neg (by simpa using orphan)] at answer
        exact refused answer
      · rw [if_pos kept, if_neg (by simpa using missing)] at answer
        exact refused answer
      · rw [if_pos kept, if_pos complete, if_neg (by simpa using unable)] at answer
        exact refused answer
      · rw [if_pos kept, if_pos complete, if_pos able, if_neg (by rw [out]; decide)] at answer
        exact refused answer
      · rw [if_pos kept, if_pos complete, if_pos able, if_pos inn] at answer
        refine ⟨fun covered => ?_, fun short card present => ?_, fun short uncarded => ?_⟩
        · rw [payOrder_covered (by rwa [account])] at answer
          dsimp only at answer
          rw [account] at answer
          exact ⟨_, rfl, answer⟩
        · rw [decide_eq_true card, payOrder_card (by rwa [account]) (by rwa [taken.money])] at answer
          dsimp only at answer
          rw [account, taken.money] at answer
          exact answer
        · refine refused (answer.trans (congrArg _ (payOrder_short (by rwa [account]) ?_)))
          rw [taken.money]
          exact uncarded.imp (fun zero => by rw [zero]; rfl) id

end Sys2Proof.Machine

/-! A committed order's copies (R92 to R95, R142, R148, R149): the take by a READY port, and a copy's counters and refund at its
outcome. -/

namespace Sys2Proof.Machine

variable {s : State} {p : Fin 3} {t : Task} {a : Attempt} {o : Order} {l : Line}

/-! ### The take (R148, R149) -/

theorem taskLine_eq_some (order : s.order? t.order = some o) (line : o.lines.get t.line = some l) :
    s.taskLine t = some (o, l) := by
  unfold State.taskLine
  rw [order, Option.bind_some, line, Option.map_some]

theorem eligible_iff (s : State) (p : Fin 3) (t : Task) : s.eligible p t = true ↔ ∃ o l k, s.order? t.order = some o ∧
    o.lines.get t.line = some l ∧ (s.port p).kind = some k ∧ o.cancel = false ∧
    0 < l.copies.queued + l.copies.retryPending ∧ supports k l.size = true ∧ l.size.need ≤ (s.port p).units := by
  unfold State.eligible
  constructor
  · intro eligible
    split at eligible
    · cases eligible
    · next o l named =>
      obtain ⟨order, line⟩ := taskLine_order named
      simp only [Bool.and_eq_true, Bool.not_eq_true', decide_eq_true_iff, Option.any_eq_true] at eligible
      obtain ⟨⟨⟨live, waiting⟩, k, kind, able⟩, units⟩ := eligible
      exact ⟨o, l, k, order, line, kind, live, waiting, able, units⟩
  · rintro ⟨o, l, k, order, line, kind, live, waiting, able, units⟩
    simp only [taskLine_eq_some order line, kind, live, able, Option.any_some, decide_eq_true waiting, decide_eq_true units]
    rfl

/-- A port that is not READY, or is held, or finds nothing eligible takes nothing. -/
theorem portTake_nothing (idle : (s.port p).state ≠ .ready ∨ (s.port p).hold = true ∨
    ∀ t ∈ s.prints.queue, s.eligible p t = false) : s.portTake p = s := by
  unfold State.portTake
  split
  · next free =>
    obtain ⟨ready, unheld⟩ := free
    rcases idle with busy | held | nothing
    · exact absurd ready busy
    · rw [held] at unheld
      cases unheld
    · have none : s.prints.queue.find? (s.eligible p) = none :=
        List.find?_eq_none.2 (fun t ht => by rw [nothing t ht]; decide)
      rw [none]
  · rfl

/-- A port that takes is handed the first eligible task. -/
theorem portTake_first {front rest : List Task} (ready : (s.port p).state = .ready) (unheld : (s.port p).hold = false)
    (queue : s.prints.queue = front ++ t :: rest) (before : ∀ b ∈ front, s.eligible p b = false)
    (eligible : s.eligible p t = true) (named : s.taskLine t = some (o, l)) : s.portTake p = s.handOut p t o l := by
  have found : s.prints.queue.find? (s.eligible p) = some t :=
    List.find?_eq_some_iff_append.2 ⟨eligible, front, rest, queue, fun b hb => by rw [before b hb]; rfl⟩
  unfold State.portTake
  rw [if_pos ⟨ready, unheld⟩, found]
  dsimp only
  rw [named]

theorem handOut_eq (s : State) (p : Fin 3) (t : Task) (o : Order) (l : Line) : s.handOut p t o l = (
    let c := l.copies
    let second := decide (0 < c.retryPending)
    let moved : Counters := if second then { c with retryPending := c.retryPending - 1, inFlight := c.inFlight + 1 }
      else { c with queued := c.queued - 1, inFlight := c.inFlight + 1 }
    let id := s.prints.copyId
    let u := s.setOrder t.order.record { o with lines := put o.lines t.line (some { l with copies := moved }) }
    State.grantSpool { u with
      prints := { s.prints with
        copyId := if id = 65535 then 1 else id + 1
        ports := put s.prints.ports p { s.port p with
          state := .feeding, units := (s.port p).units - l.size.need, limitSince := s.now
          attempt := some { copyId := id, order := t.order, line := t.line, second := second, need := l.size.need } } }
      sent := s.sent ++ [.job p id l.size l.finish]
      spool := { s.spool with
        readers := put s.spool.readers p ⟨some (t.order, t.line), 0, true, 0⟩ } }) := by
  have moved : l.copies.handOut = if decide (0 < l.copies.retryPending) = true then
        { l.copies with retryPending := l.copies.retryPending - 1, inFlight := l.copies.inFlight + 1 }
      else { l.copies with queued := l.copies.queued - 1, inFlight := l.copies.inFlight + 1 } :=
    if_congr decide_eq_true_iff.symm rfl rfl
  unfold State.handOut
  rw [moved]
  rfl

/-! ### The outcome of a copy (R92 to R97) -/

/-- A copy that is not in flight is not accounted for. -/
theorem outcome_discarded (reason : Reason)
    (landed : ∀ o l, s.order? a.order = some o → o.lines.get a.line = some l → l.copies.inFlight = 0) :
    s.copyDelivered p a = s ∧ s.copyFailed p a reason = s := by
  unfold State.copyDelivered State.copyFailed
  cases named : s.taskLine { order := a.order, line := a.line } with
  | none => exact ⟨rfl, rfl⟩
  | some x =>
    obtain ⟨order, line⟩ := taskLine_order named
    have zero := landed x.1 x.2 order line
    exact ⟨if_pos zero, if_pos zero⟩

section InFlight

variable (order : s.order? a.order = some o) (line : o.lines.get a.line = some l) (flight : 0 < l.copies.inFlight)
include order line flight

theorem copyDelivered_eq : s.copyDelivered p a = (
    let c := { l.copies with inFlight := l.copies.inFlight - 1, delivered := l.copies.delivered + 1 }
    let u := s.setOrder a.order.record (o.setLine a.line (some { l with copies := c }))
    State.settleLines (u.copyNotice a.order o.session a.line (attemptCode a.second) 0 p.val 0xFF c (refundBytes 0 0 0))
      a.order [a.line]) := by
  unfold State.copyDelivered
  rw [taskLine_eq_some (t := ⟨a.order, a.line⟩) order line]
  exact if_neg flight.ne'

/-- A first attempt of an order not cancelled is retried (R93). -/
theorem copyFailed_retried (reason : Reason) (first : a.second = false) (live : o.cancel = false) :
    s.copyFailed p a reason = (
      let c := l.copies.failed true
      State.copyNotice (s.setOrder a.order.record (o.setLine a.line (some { l with copies := c }))) a.order o.session a.line
        1 1 p.val reason.code c (refundBytes 0 0 0)) := by
  unfold State.copyFailed
  rw [taskLine_eq_some (t := ⟨a.order, a.line⟩) order line]
  dsimp only
  rw [if_neg flight.ne', first, live]
  rfl

/-- Any other failure is final, with its refund and PRINT_FAILED (R93 to R96). -/
theorem copyFailed_final (reason : Reason) (last : a.second = true ∨ o.cancel = true) : s.copyFailed p a reason = (
    let c := l.copies.failed false
    let paid := s.refundCopies a.order (o.setLine a.line (some { l with copies := c })) (o.unitOf a.line)
    let told := paid.1.copyNotice a.order o.session a.line (attemptCode a.second) 2 p.val reason.code c paid.2
    State.settleLines (told.raiseSession o.session 3 (a.order.bytes ++ le1 a.line.val ++ le1 p.val ++ le1 reason.code))
      a.order [a.line]) := by
  have final : (!a.second && !o.cancel) = false := by
    rcases last with second | cancelled
    · rw [second]
      rfl
    · rw [cancelled, Bool.not_true, Bool.and_false]
  unfold State.copyFailed
  rw [taskLine_eq_some (t := ⟨a.order, a.line⟩) order line]
  dsimp only
  rw [if_neg flight.ne', final, if_neg Bool.false_ne_true]

end InFlight

/-- Copies refunded from a quoted order, the amounts written out (R94 to R96). -/
theorem refundCopies_eq (s : State) (h : OrderHandle) {q : Quote} (hq : o.quote = some q) (unit : Nat) :
    s.refundCopies h o unit = (
      let base := o.refundedBase + unit
      let tax := min q.tax ((base * q.rate + 5000) / 10000)
      let inc := (base - o.refundedBase) + (tax - o.refundedTax)
      let toCredit := min inc (o.paidCredit - o.creditRefunded)
      let toCard := inc - toCredit
      let v := (s.setOrder h.record { o with
        refundedBase := base, refundedTax := tax, refunded := o.refunded + inc
        creditRefunded := o.creditRefunded + toCredit }).addCredit o.session.record toCredit
      (if 0 < toCard then v.makeRefund { session := some o.session, order := some h, ref := o.termRef.getD 0
                                         amount := toCard, cause := .refund }
       else v, le4 inc ++ le4 toCredit ++ le4 toCard)) := by
  unfold State.refundCopies
  rw [refund_eq hq]
  rfl

theorem unitOf_eq {q : Quote} (hq : o.quote = some q) (k : Fin 16) :
    o.unitOf k = ((q.lines.get k).map (fun y => y.unit)).getD 0 := by
  unfold Order.unitOf
  rw [hq, Option.bind_some]

/-- Settles O50: what is eligible, the take and its hand-out, then each outcome of a copy in flight. -/
theorem copiesAreHandedOutAndAccountedFor : Obligations.CopiesAreHandedOutAndAccountedFor := by
  unfold Obligations.CopiesAreHandedOutAndAccountedFor
  refine ⟨eligible_iff, fun s p idle => portTake_nothing idle, ?_, fun s p a reason landed => outcome_discarded reason landed, ?_⟩
  · intro s p t front rest o l ready unheld queue before eligible order line
    rw [portTake_first ready unheld queue before eligible (taskLine_eq_some order line)]
    exact handOut_eq s p t o l
  · intro s p a reason o l order line flight c counted attempt nothing
    refine ⟨copyDelivered_eq order line flight, copyFailed_retried order line flight reason, fun q last hq => ?_⟩
    have quoted : (o.setLine a.line (some { l with copies := l.copies.failed false })).quote = some q := hq
    rw [copyFailed_final order line flight reason last]
    dsimp only
    rw [refundCopies_eq s a.order quoted, unitOf_eq hq]
    rfl

end Sys2Proof.Machine

/-! QUIESCE and RESUME (R183, R184): what stands quiet, and what is sent at the entry into STANDBY. -/

namespace Sys2Proof.Machine

variable {s : State} {tag : Byte} {p : List Byte}

theorem each_send {α : Type} (s : State) (f : α → Sent) (xs : List α) :
    s.each xs (fun t x => t.send (f x)) = { s with sent := s.sent ++ xs.map f } := by
  induction xs generalizing s with
  | nil => rw [List.map_nil, List.append_nil]; rfl
  | cons x rest ih => exact (ih (s.send (f x))).trans (by rw [State.send_sent, List.append_assoc]; rfl)

theorem quiet_iff (s : State) : s.quiet = true ↔
    (∀ r, (s.record r).state = .idle) ∧ (∀ q, (s.port q).state ∉ [.feeding, .printing]) ∧ s.store.op = .idle := by
  unfold State.quiet State.storeBusy
  simp [and_assoc]

theorem enterStandby_eq (s : State) : s.enterStandby = { s with
    power := { s.power with standby := true, latches := 0 }
    sent := s.sent ++ ((allFin 3).filter (fun q => (s.port q).state ≠ .absent)).map (fun q => .sleep q) ++
      ((allFin 2).filter s.power.profile.usesUnit).map (fun u => .inhibit u) } := by
  unfold State.enterStandby
  rw [each_send, each_send]
  rfl

theorem quiesce_answers (ho : s.Offers .quiesce tag p) : exec (.quiesce tag) s = .next (
    if s.quiet = true then s.enterStandby.answerOk tag .quiesce [] else s.answerNo tag .quiesce .busy) := by
  have quiet : (s.holds tag).quiet = s.quiet := rfl
  have taking : exec (.quiesce tag) s = execQuiesce tag s := rfl
  have entered : (s.holds tag).enterStandby.ok tag [] = s.enterStandby.answerOk tag .quiesce [] := by
    rw [enterStandby_eq, enterStandby_eq]
    exact ho.reply _ s.link rfl rfl .ok []
  rw [taking]
  unfold execQuiesce
  rw [ho.take, checked_cons, checked_nil, quiet, ho.refuse, entered]

theorem resume_answers (ho : s.Offers .resume tag p) : exec (.resume tag) s = .next (
    State.answerOk { s with power := { s.power with standby := false, latches := 0 } } tag .resume [0]) := by
  have taking : exec (.resume tag) s = execResume tag s := rfl
  rw [taking]
  unfold execResume
  rw [ho.take]
  exact congrArg _ (ho.reply _ s.link rfl rfl .ok [0])

/-- Settles O59: QUIESCE by what is quiet, and RESUME. -/
theorem standbyIsEnteredAndLeft : Obligations.StandbyIsEnteredAndLeft := by
  unfold Obligations.StandbyIsEnteredAndLeft
  refine ⟨fun s tag p ho => ⟨fun busy => ?_, fun quiet => ?_⟩, fun s tag p ho => resume_answers ho⟩
  · rw [quiesce_answers ho, if_neg (fun h => busy ((quiet_iff s).1 h))]
  · rw [quiesce_answers ho, if_pos ((quiet_iff s).2 quiet), enterStandby_eq]

end Sys2Proof.Machine

/-! The cash units: what a gate opened and closed makes of its unit (R105 to R107), and the sets of an open gate written out. -/

namespace Sys2Proof.Machine

/-! ### Tables of two units -/

theorem put_get {α : Type} {n : Nat} (v : Vector α n) (i : Fin n) : put v i (v.get i) = v := by
  unfold put
  rw [Vector.get_eq_getElem]
  exact Vector.set_getElem_self i.isLt

theorem unit_setUnit_eq (s : State) (u v : Fin 2) (x : CashUnit) :
    (s.setUnit u x).unit v = if v = u then x else s.unit v := get_put_read _ _ _ _

/-- The other unit is another one. -/
theorem other_ne (u : Fin 2) : 1 - u ≠ u := by
  revert u
  decide

theorem unit_setUnit_other (s : State) (u : Fin 2) (x : CashUnit) : (s.setUnit u x).unit (1 - u) = s.unit (1 - u) :=
  State.unit_setUnit_ne s (other_ne u).symm x

theorem anyGateOpen_eq (s : State) (u : Fin 2) : s.anyGateOpen = ((s.unit u).gateOpen || (s.unit (1 - u)).gateOpen) := by
  unfold State.anyGateOpen
  fin_cases u
  · rfl
  · exact Bool.or_comm _ _

/-! ### The sets of an open gate (R107) -/

variable {s t : State}

theorem coinSetOf_eq (s : State) (u : Fin 2) : s.coinSetOf u =
    bitsOf (fun i : Fin 16 => 0 < s.coinValue u i.val ∧ s.coinValue u i.val ≤ s.unitHeadroom u) := by
  unfold State.coinSetOf
  simp only [Bool.decide_and]

theorem boxFull_eq (s : State) (u : Fin 2) :
    s.boxFull u = decide (s.boxCapacity ≤ (s.unit u).boxCount ∨ (s.unit u).fullFlag = true) := by
  unfold State.boxFull
  simp only [Bool.decide_or, Bool.decide_eq_true]

theorem boxOpen_iff (s : State) (u : Fin 2) : s.boxOpen u = true ↔
    (s.unit u).boxIn = true ∧ ¬ (s.boxCapacity ≤ (s.unit u).boxCount ∨ (s.unit u).fullFlag = true) := by
  unfold State.boxOpen
  rw [boxFull_eq, Bool.and_eq_true, Bool.not_eq_true', decide_eq_false_iff_not]

theorem billSetOf_eq (s : State) (u : Fin 2) : s.billSetOf u =
    bitsOf (fun i : Fin 16 => (s.unit u).boxIn = true ∧
      ¬ (s.boxCapacity ≤ (s.unit u).boxCount ∨ (s.unit u).fullFlag = true) ∧ 0 < s.billValue u i.val) := by
  unfold State.billSetOf
  refine congrArg bitsOf (funext fun i => ?_)
  rw [Bool.eq_iff_iff, Bool.and_eq_true, boxOpen_iff, decide_eq_true_iff, decide_eq_true_iff, and_assoc]

/-- The headroom a unit serves is read of the front sessions, the credits and CREDIT_MAX (R102). -/
theorem unitHeadroom_congr (hf : t.sessions.fronts = s.sessions.fronts) (ha : t.money.accounts = s.money.accounts)
    (hs : t.store = s.store) (u : Fin 2) : t.unitHeadroom u = s.unitHeadroom u := by
  unfold State.unitHeadroom State.front State.headroom State.account State.creditMax
  rw [hf, ha, hs]

/-- So are the coins an open gate takes (R107). -/
theorem coinSetOf_congr (hf : t.sessions.fronts = s.sessions.fronts) (ha : t.money.accounts = s.money.accounts)
    (hs : t.store = s.store) (u : Fin 2) : t.coinSetOf u = s.coinSetOf u := by
  unfold State.coinSetOf State.coinValue
  rw [unitHeadroom_congr hf ha hs, hs]

/-- The bills are read of the box and the settings. -/
theorem billSetOf_congr {u : Fin 2} (hu : t.unit u = s.unit u) (hs : t.store = s.store) : t.billSetOf u = s.billSetOf u := by
  unfold State.billSetOf State.boxOpen State.boxFull State.boxCapacity State.billValue
  rw [hu, hs]

/-! ### A HELD bill given back (R106, R109) -/

/-- A HELD bill goes to RETURNING; any other escrow stays. -/
def Escrow.givenBack (now : Nat) : Escrow → Escrow
  | .held code value h => .returning code value (some h) now
  | e => e

/-- RETURN goes out for a HELD bill. -/
def Escrow.returned (u : Fin 2) : Escrow → List Sent
  | .held _ _ _ => [.giveBack u]
  | _ => []

theorem giveBackHeld_eq (s : State) (u : Fin 2) : s.giveBackHeld u = { s with
    money := { s.money with
      units := put s.money.units u { s.unit u with escrow := (s.unit u).escrow.givenBack s.now } }
    sent := s.sent ++ (s.unit u).escrow.returned u } := by
  have same : put s.money.units u (s.unit u) = s.money.units := put_get _ _
  unfold State.giveBackHeld
  cases he : (s.unit u).escrow with
  | held code value h => rfl
  | none | stacking | returning =>
    dsimp only [Escrow.givenBack, Escrow.returned]
    rw [← he, List.append_nil]
    exact (congrArg (fun units => ({ s with money := { s.money with units := units } } : State)) same).symm

/-! ### A gate closed (R106) -/

/-- A unit whose gate has closed. -/
def CashUnit.shut (now : Nat) (x : CashUnit) : CashUnit :=
  { x with gateOpen := false, coinSet := 0, billSet := 0, escrow := x.escrow.givenBack now }

/-- The challenge after a gate has closed: it stops with the last open one (R116). -/
def Challenge.afterClose (othersOpen : Bool) (c : Challenge) : Challenge :=
  if othersOpen then c else { c with running := false, pending := false }

/-- A unit's gate closed with INHIBIT sent, its HELD bill still to come. -/
def State.inhibited (s : State) (u : Fin 2) : State :=
  (s.setUnit u { s.unit u with gateOpen := false, coinSet := 0, billSet := 0 }).send (.inhibit u)

theorem inhibited_unit (s : State) (u : Fin 2) :
    (s.inhibited u).unit u = { s.unit u with gateOpen := false, coinSet := 0, billSet := 0 } := State.unit_setUnit s u _

theorem inhibited_other (s : State) (u : Fin 2) : (s.inhibited u).unit (1 - u) = s.unit (1 - u) := unit_setUnit_other s u _

theorem giveBackHeld_steps (s : State) (u : Fin 2) : s.giveBackHeld u = match (s.unit u).escrow with
    | .held code value f => { s.setUnit u { s.unit u with escrow := .returning code value (some f) s.now } with
        sent := s.sent ++ [.giveBack u] }
    | _ => s := by
  unfold State.giveBackHeld
  cases (s.unit u).escrow <;> rfl

theorem giveBackHeld_challenge (s : State) (u : Fin 2) : (s.giveBackHeld u).money.challenge = s.money.challenge := by
  rw [giveBackHeld_eq]

/-- The other gate alone can keep the challenge running. -/
theorem gateShut_inhibited (s : State) (u : Fin 2) : s.gateShut u =
    if (s.unit (1 - u)).gateOpen = true then (s.inhibited u).giveBackHeld u
    else ((s.inhibited u).giveBackHeld u).setChallenge { s.money.challenge with running := false, pending := false } := by
  have gates : ((s.inhibited u).giveBackHeld u).anyGateOpen = (s.unit (1 - u)).gateOpen := by
    rw [anyGateOpen_eq _ u, giveBackHeld_gate, giveBackHeld_gate, inhibited_unit, inhibited_other, Bool.false_or]
  have challenge : ((s.inhibited u).giveBackHeld u).money.challenge = s.money.challenge := giveBackHeld_challenge _ u
  have shut : s.gateShut u = if ((s.inhibited u).giveBackHeld u).anyGateOpen then (s.inhibited u).giveBackHeld u
      else ((s.inhibited u).giveBackHeld u).stopChallenge := rfl
  rw [shut, gates]
  unfold State.stopChallenge
  rw [challenge]

theorem gateShut_eq (s : State) (u : Fin 2) : s.gateShut u = { s with
    money := { s.money with
      units := put s.money.units u ((s.unit u).shut s.now)
      challenge := s.money.challenge.afterClose (s.unit (1 - u)).gateOpen }
    sent := s.sent ++ [.inhibit u] ++ (s.unit u).escrow.returned u } := by
  have units : put (s.inhibited u).money.units u { s.unit u with
      gateOpen := false, coinSet := 0, billSet := 0, escrow := (s.unit u).escrow.givenBack s.now } =
      put s.money.units u ((s.unit u).shut s.now) := put_put _ _ _ _
  have back : (s.inhibited u).giveBackHeld u = { s with
      money := { s.money with units := put s.money.units u ((s.unit u).shut s.now) }
      sent := s.sent ++ [.inhibit u] ++ (s.unit u).escrow.returned u } := by
    rw [giveBackHeld_eq, inhibited_unit, ← units]
    rfl
  rw [gateShut_inhibited, back]
  unfold Challenge.afterClose
  cases (s.unit (1 - u)).gateOpen <;> rfl

theorem closeGate_none (s : State) (u : Fin 2) : s.closeGate u none = if (s.unit u).gateOpen = true then s.gateShut u else s := by
  rw [closeGate_cases]

theorem closeGate_some (s : State) (u : Fin 2) (cause : GateCause) : s.closeGate u (some cause) =
    if (s.unit u).gateOpen = true then (s.closeGate u none).notify 0xC7 (le1 u.val ++ le1 cause.code) else s := by
  rw [closeGate_cases, closeGate_none]
  cases (s.unit u).gateOpen <;> rfl

/-- The same in the steps of R106. -/
theorem closeGate_steps (s : State) (u : Fin 2) : s.closeGate u none = (
    let x := s.unit u;
    if x.gateOpen = false then s
    else
      let t : State := { s.setUnit u { x with gateOpen := false, coinSet := 0, billSet := 0 } with sent := s.sent ++ [.inhibit u] };
      let back := match x.escrow with
        | .held code value f => { t.setUnit u { t.unit u with escrow := .returning code value (some f) s.now } with
            sent := t.sent ++ [.giveBack u] }
        | _ => t;
      if (s.unit (1 - u)).gateOpen = true then back
      else back.setChallenge { s.money.challenge with running := false, pending := false }) := by
  have escrow : ((s.inhibited u).unit u).escrow = (s.unit u).escrow := by rw [inhibited_unit]
  rw [closeGate_none]
  cases hg : (s.unit u).gateOpen with
  | false => exact (if_neg Bool.false_ne_true).trans (if_pos hg).symm
  | true =>
    refine Eq.trans ?_ (if_neg (by rw [hg]; decide)).symm
    rw [if_pos rfl, gateShut_inhibited, giveBackHeld_steps, escrow]
    rfl

end Sys2Proof.Machine

/-! GATE_OPEN and GATE_CLOSE (R105, R106) at their taking. -/

namespace Sys2Proof.Machine

/-! ### The restart of a timer at a cash unit -/

variable {s : State} {tag : Byte} {p : List Byte} {h : SessionHandle} {u : Fin 2}

theorem touch_fronts (s : State) (r : Fin 8) : (s.touch r).sessions.fronts = s.sessions.fronts :=
  (State.SessionsStand.touch s r).fronts

/-- A restart of a timer writes the sessions alone. -/
theorem touch_sessions (s : State) (r : Fin 8) : s.touch r = s.setSessions (s.touch r).sessions := by
  unfold State.touch
  split <;> rfl

theorem unitOfSession_touched (s : State) (tag : Byte) (h : SessionHandle) :
    ((s.touch h.record).holds tag).unitOfSession h = (s.record h.record).station.bind s.power.profile.unitOf := by
  have station : (((s.touch h.record).holds tag).record h.record).station = (s.record h.record).station :=
    (State.SessionsStand.touch s h.record).station h.record
  have power : ((s.touch h.record).holds tag).power = s.power := (State.ChangesOnly.touch_op s h.record).power
  unfold State.unitOfSession
  rw [station, power]

theorem unit_touched (s : State) (tag : Byte) (r : Fin 8) (u : Fin 2) : ((s.touch r).holds tag).unit u = s.unit u :=
  unit_congr (State.ChangesOnly.touch_op s r).money u

theorem money_touched (s : State) (tag : Byte) (r : Fin 8) : ((s.touch r).holds tag).money = s.money :=
  (State.ChangesOnly.touch_op s r).money

theorem coinSetOf_touched (s : State) (tag : Byte) (r : Fin 8) (u : Fin 2) :
    ((s.touch r).holds tag).coinSetOf u = s.coinSetOf u :=
  coinSetOf_congr (touch_fronts s r) (congrArg Money.accounts (money_touched s tag r)) (State.ChangesOnly.touch_op s r).store u

theorem billSetOf_touched (s : State) (tag : Byte) (r : Fin 8) (u : Fin 2) :
    ((s.touch r).holds tag).billSetOf u = s.billSetOf u :=
  billSetOf_congr (unit_touched s tag r u) (State.ChangesOnly.touch_op s r).store

/-! ### GATE_OPEN (R105) -/

theorem port_ready_iff (x : CashUnit) : x.port = .ready ↔ x.heard = true ∧ x.silent = false ∧ x.jammed = false := by
  unfold CashUnit.port
  cases x.heard <;> cases x.silent <;> cases x.jammed <;> decide

/-- The fields of GATE_OPEN's reply. -/
def State.gateFields (s : State) (u : Fin 2) : List Byte :=
  gateByte (s.unit u).gateOpen ++ le2 (s.unit u).coinSet.toNat ++ le2 (s.unit u).billSet.toNat ++
    optField 1 (fun b => [b]) s.pendingToken

/-- The requirements of R105, in their order, then the gate. -/
theorem gateOpen_answers (n : NamesSession s .gateOpen tag p h)
    (unit : (s.record h.record).station.bind s.power.profile.unitOf = some u) : exec (.gateOpen tag) s = .next (
      let t := (s.touch h.record).holds tag;
      if s.conds.inService = true then
        if s.conds.kiosk.bits.getLsbD 12 = false then
          if (s.unit u).port = .ready then
            (t.openGate u).ok tag ((t.openGate u).gateFields u)
          else (s.touch h.record).answerNo tag .gateOpen .unitFault
        else (s.touch h.record).answerNo tag .gateOpen .challengeFail
      else (s.touch h.record).answerNo tag .gateOpen .outOfService) := by
  have conds : ((s.touch h.record).holds tag).conds = s.conds := (State.ChangesOnly.touch_op s h.record).conds
  have refuse := n.offers.touched h.record |>.refuse
  have taking : exec (.gateOpen tag) s = execGateOpen tag s := rfl
  rw [taking]
  unfold execGateOpen
  rw [n.take (fun _ => _), unitOfSession_touched, unit]
  dsimp only
  rw [checked_cons, checked_cons, checked_cons, checked_nil, conds, unit_touched, refuse, refuse, refuse]
  simp only [Bool.not_eq_true', decide_eq_true_iff]
  rfl

theorem gateOpen_noUnit (n : NamesSession s .gateOpen tag p h)
    (none : (s.record h.record).station.bind s.power.profile.unitOf = none) :
    exec (.gateOpen tag) s = .next ((s.touch h.record).answerNo tag .gateOpen .noCashUnit) := by
  have taking : exec (.gateOpen tag) s = execGateOpen tag s := rfl
  rw [taking]
  unfold execGateOpen
  rw [n.take (fun _ => _), unitOfSession_touched, none]
  exact congrArg _ ((n.offers.touched h.record).refuse _)

/-- A gate already open is left as it is. -/
theorem openGate_open (opened : (s.unit u).gateOpen = true) : s.openGate u = s := if_pos opened

/-- A gate opened with ENABLE sent, the challenge still to come. -/
def State.enabled (s : State) (u : Fin 2) : State :=
  (s.setUnit u { s.unit u with gateOpen := true, coinSet := s.coinSetOf u, billSet := s.billSetOf u }).send
    (.enable u (s.coinSetOf u) (s.billSetOf u))

/-- The first gate to open starts the challenge (R116). -/
theorem openGate_closed (closed : (s.unit u).gateOpen = false) : s.openGate u =
    if (s.unit 0).gateOpen = false ∧ (s.unit 1).gateOpen = false then (s.enabled u).issueToken 0x3C else s.enabled u := by
  have first : (!s.anyGateOpen) = true ↔ (s.unit 0).gateOpen = false ∧ (s.unit 1).gateOpen = false := by
    unfold State.anyGateOpen
    rw [Bool.not_eq_true', Bool.or_eq_false_iff]
  unfold State.openGate
  rw [if_neg (by rw [closed]; decide)]
  exact if_congr first rfl rfl

/-- What GATE_OPEN's reply reads of a gate just opened. -/
theorem openGate_reply (closed : (s.unit u).gateOpen = false) :
    (s.openGate u).unit u = { s.unit u with gateOpen := true, coinSet := s.coinSetOf u, billSet := s.billSetOf u } ∧
    (s.openGate u).pendingToken = if (s.unit 0).gateOpen = false ∧ (s.unit 1).gateOpen = false then some 0x3C
      else if s.money.challenge.pending then some s.money.challenge.token else none := by
  have unit : (s.enabled u).unit u = { s.unit u with gateOpen := true, coinSet := s.coinSetOf u, billSet := s.billSetOf u } :=
    State.unit_setUnit s u _
  rw [openGate_closed closed]
  by_cases first : (s.unit 0).gateOpen = false ∧ (s.unit 1).gateOpen = false
  · rw [if_pos first, if_pos first]
    exact ⟨unit, rfl⟩
  · rw [if_neg first, if_neg first]
    exact ⟨unit, rfl⟩

/-- With the session's timer restarted first, as the request finds it. -/
theorem openGate_touched (tag : Byte) (r : Fin 8) (closed : (s.unit u).gateOpen = false) : ((s.touch r).holds tag).openGate u = (
    let coins := s.coinSetOf u;
    let bills := s.billSetOf u;
    let v : State := { ((s.touch r).holds tag).setUnit u { s.unit u with gateOpen := true, coinSet := coins, billSet := bills } with
      sent := s.sent ++ [.enable u coins bills] };
    if (s.unit 0).gateOpen = false ∧ (s.unit 1).gateOpen = false then
      State.notify (v.setChallenge { s.money.challenge with running := true, token := 0x3C, pending := true, since := s.now })
        0xC8 [0x3C]
    else v) := by
  have coins := coinSetOf_touched s tag r u
  have bills := billSetOf_touched s tag r u
  rw [touch_sessions s r] at coins bills ⊢
  rw [openGate_closed (s := (s.setSessions (s.touch r).sessions).holds tag) closed]
  unfold State.enabled
  rw [coins, bills]
  rfl

/-! ### GATE_CLOSE (R106) -/

theorem gateClose_answers (n : NamesSession s .gateClose tag p h) : exec (.gateClose tag) s = .next (
    match (s.record h.record).station.bind s.power.profile.unitOf with
    | none => (s.touch h.record).answerNo tag .gateClose .noCashUnit
    | some u => ((s.touch h.record).closeGate u none).answerOk tag .gateClose []) := by
  have taking : exec (.gateClose tag) s = execGateClose tag s := rfl
  rw [taking]
  unfold execGateClose
  rw [n.take (fun _ => _), unitOfSession_touched]
  cases (s.record h.record).station.bind s.power.profile.unitOf with
  | none => exact congrArg _ ((n.offers.touched h.record).refuse _)
  | some u =>
    dsimp only
    rw [closeGate_none, closeGate_none, unit_touched, unit_congr (State.ChangesOnly.touch_op s h.record).money u]
    split_ifs
    · rw [gateShut_eq, gateShut_eq]
      exact congrArg _ ((n.offers.touched h.record).reply _ (s.touch h.record).link rfl rfl .ok [])
    · exact congrArg _ ((n.offers.touched h.record).ok [])

/-- Settles O37: the operations on a gate, then each request by its requirements. -/
theorem gateOpensAndCloses : Obligations.GateOpensAndCloses := by
  unfold Obligations.GateOpensAndCloses
  refine ⟨closeGate_steps, closeGate_some, fun _ _ _ => rfl, fun s tag p h ho hr hg hc ha => ?_, fun s tag p h ho hr hg hc ha => ?_⟩
  · have n : NamesSession s .gateOpen tag p h := ⟨ho, hr, hg, hc, ha⟩
    refine ⟨gateOpen_noUnit n, fun u unit => ?_⟩
    have answer := gateOpen_answers n unit
    refine ⟨fun out => ?_, fun inn failed => ?_, fun inn passed unready => ?_, fun inn passed ready opened => ?_,
      fun inn passed ready closed => ?_⟩
    · exact answer.trans (congrArg _ (if_neg (by rw [out]; decide)))
    · exact answer.trans (congrArg _ ((if_pos inn).trans (if_neg (by rw [failed]; decide))))
    · exact answer.trans (congrArg _ ((if_pos inn).trans ((if_pos passed).trans
        (if_neg fun ready => unready ((port_ready_iff _).1 ready)))))
    · refine answer.trans (congrArg _ ((if_pos inn).trans ((if_pos passed).trans ((if_pos ((port_ready_iff _).2 ready)).trans ?_))))
      have opened' : (((s.touch h.record).holds tag).unit u).gateOpen = true := by rw [unit_touched, opened]
      have fields : ((s.touch h.record).holds tag).gateFields u = s.gateFields u := by
        unfold State.gateFields State.pendingToken
        rw [unit_touched, money_touched]
      rw [openGate_open opened', (n.offers.touched h.record).ok, fields]
      unfold State.gateFields
      rw [opened]
      rfl
    · refine answer.trans (congrArg _ ((if_pos inn).trans ((if_pos passed).trans ((if_pos ((port_ready_iff _).2 ready)).trans ?_))))
      have closed' : (((s.touch h.record).holds tag).unit u).gateOpen = false := by rw [unit_touched, closed]
      obtain ⟨unit', pending⟩ := openGate_reply closed'
      unfold State.gateFields
      rw [unit', pending, unit_touched, unit_touched, unit_touched, money_touched, coinSetOf_touched, billSetOf_touched,
        openGate_touched tag h.record closed, coinSetOf_eq, billSetOf_eq]
      rfl
  · have n : NamesSession s .gateClose tag p h := ⟨ho, hr, hg, hc, ha⟩
    have answer := gateClose_answers n
    have unmoved := unit_congr (State.ChangesOnly.touch_op s h.record).money
    refine ⟨fun none => by rw [answer, none], fun u unit => ?_⟩
    rw [unit] at answer
    dsimp only at answer
    rw [closeGate_none, unmoved] at answer
    refine ⟨fun closed => answer.trans ?_, fun opened => answer.trans ?_⟩
    · rw [if_neg (by rw [closed]; decide)]
    · rw [if_pos opened, gateShut_eq, unmoved, unmoved, (State.ChangesOnly.touch_op s h.record).money,
        (State.ChangesOnly.touch_op s h.record).sent, (State.ChangesOnly.touch_op s h.record).now]
      rfl

end Sys2Proof.Machine

/-! APPROVED (R118 to R122): an approval by what the port holds. -/

namespace Sys2Proof.Machine

variable {s : State} {a : Auth} {since : Nat} {ref : BitVec 16}

theorem handTerminal_eq (s : State) : s.handTerminal = match s.money.terminal.state, s.money.terminal.waiting with
    | .idle, a :: rest => { s.setTerminal { s.money.terminal with state := .busy a s.now, waiting := rest } with
      sent := s.sent ++ [.auth a.ref a.amount] }
    | _, _ => s := by
  unfold State.handTerminal
  dsimp only
  cases s.money.terminal.state <;> cases s.money.terminal.waiting <;> rfl

/-- An amount of the terminal's message is counted in as it came. -/
theorem tillCardIn_toNat (s : State) (amount : BitVec 32) : s.tillCardIn amount.toNat = cardIn s amount := by
  unfold State.tillCardIn amount32 cardIn
  rw [BitVec.ofNat_toNat, BitVec.setWidth_eq]

/-- The card refund record of an approval that is not for the authorisation at the port: LATE for the last ended one, else STRAY. -/
def Terminal.otherRefund (x : Terminal) (ref : BitVec 16) (amount : Nat) : CardRefund :=
  match x.lastEnded with
  | some e => if e.ref = ref then { session := e.session, order := e.order, ref := ref, amount := amount, cause := .late }
    else { session := none, order := none, ref := ref, amount := amount, cause := .stray }
  | none => { session := none, order := none, ref := ref, amount := amount, cause := .stray }

theorem otherApproval_eq (t : State) (ref : BitVec 16) (amount : BitVec 32) : t.otherApproval ref amount.toNat =
    (cardIn t amount).makeRefund (t.money.terminal.otherRefund ref amount.toNat) := by
  unfold State.otherApproval State.lateApproval Terminal.otherRefund
  rw [tillCardIn_toNat]
  cases t.money.terminal.lastEnded with
  | none => rfl
  | some e => exact (apply_ite _ _ _ _).symm

/-! ### An approval by the port's state (R120, R122) -/

variable {t : State}

/-- For the amount asked it commits the order. -/
theorem approval_right {amount : BitVec 32} {o : Order} (port : t.money.terminal.state = .busy a since) (named : a.ref = ref)
    (asked : amount.toNat = a.amount) (order : t.order? a.order = some o) : t.approval ref amount.toNat = (
      let r := a.session.record;
      let v := amount.toNat;
      let paid := (cardIn (portFree t) amount).setAccount r { t.account r with cardPaid := (t.account r).cardPaid + v };
      let done := State.notify (paid.commitOrder a.order o v) 0xC4 (a.order.bytes ++ o.session.bytes ++ [3, 0]);
      State.handTerminal ((done.touchHandle o.session).tasksJoined.closingExitOf (some o.session))) := by
  have counted : t.portIdle.tillCardIn a.amount = cardIn (portFree t) amount := by
    rw [← asked, tillCardIn_toNat]
    rfl
  unfold State.approval State.approvedRight
  rw [port]
  dsimp only
  rw [if_pos named, if_pos asked, counted]
  have order' : ∀ x, ((cardIn (portFree t) amount).setAccount a.session.record x).order? a.order = some o := fun _ => order
  rw [order']
  dsimp only
  rw [orderNotice_bare, ← asked]
  rfl

/-- For another amount it is returned and the authorisation ends. -/
theorem approval_wrong {amount : BitVec 32} (port : t.money.terminal.state = .busy a since) (named : a.ref = ref)
    (other : amount.toNat ≠ a.amount) : t.approval ref amount.toNat = (
      let back : CardRefund :=
        { session := some a.session, order := some a.order, ref := ref, amount := amount.toNat, cause := .mismatch };
      State.handTerminal (((cardIn (portLeaves t a) amount).makeRefund back).endWithCondition a .mismatch 2)) := by
  unfold State.approval State.approvedWrong
  rw [port]
  dsimp only
  rw [if_pos named, if_neg other, tillCardIn_toNat, named]
  rfl

/-- For an authorisation whose cancel was asked it is late, and the authorisation ends. -/
theorem approval_cancelling (amount : BitVec 32) (port : t.money.terminal.state = .cancelling ref (some a) since) :
    t.approval ref amount.toNat = (
      let back : CardRefund :=
        { session := some a.session, order := some a.order, ref := ref, amount := amount.toNat, cause := .late };
      State.handTerminal (State.endUnapproved (portLeaves ((cardIn t amount).makeRefund back) a) a .cancelled)) := by
  unfold State.approval State.lateApproval
  rw [port]
  dsimp only
  rw [if_pos rfl, tillCardIn_toNat]
  rfl

/-- In CANCELLING behind the authorisation's end it frees the port. -/
theorem approval_ended (amount : BitVec 32) (port : t.money.terminal.state = .cancelling ref none since) :
    t.approval ref amount.toNat =
      State.handTerminal (portFree ((cardIn t amount).makeRefund (t.money.terminal.otherRefund ref amount.toNat))) := by
  unfold State.approval
  rw [port]
  dsimp only
  rw [if_pos rfl, otherApproval_eq]
  rfl

/-- A reference that is not the port's touches neither. -/
theorem approval_other (amount : BitVec 32) (notBusy : ∀ (a : Auth) (since : Nat), t.money.terminal.state = .busy a since → a.ref ≠ ref)
    (notCancelling : ∀ (a : Option Auth) (since : Nat), t.money.terminal.state ≠ .cancelling ref a since) :
    t.approval ref amount.toNat = (cardIn t amount).makeRefund (t.money.terminal.otherRefund ref amount.toNat) := by
  rw [← otherApproval_eq]
  unfold State.approval
  split
  · next a since port => exact if_neg (notBusy a since port)
  · next r a since port =>
    have another : r ≠ ref := fun same => notCancelling a since (same ▸ port)
    exact if_neg another
  · rfl

/-- Settles O43: the hand-out of the terminal, then an approval by the port it finds. -/
theorem approvalsAreCountedIn : Obligations.ApprovalsAreCountedIn := by
  unfold Obligations.ApprovalsAreCountedIn
  refine ⟨handTerminal_eq, fun s ref amount code hs => ?_⟩
  have answer : exec (.approved ref amount code) s = .next ((terminalHeard s).approval ref amount.toNat) :=
    congrArg _ (terminalMessage_running hs _)
  rw [answer]
  refine ⟨fun a since port named => ⟨fun asked o order => ?_, fun other => ?_⟩, fun a since port => ?_, fun since port => ?_,
    fun notBusy notCancelling => ?_⟩
  · exact congrArg _ (approval_right port named asked order)
  · exact congrArg _ (approval_wrong port named other)
  · exact congrArg _ (approval_cancelling amount port)
  · exact congrArg _ (approval_ended amount port)
  · exact congrArg _ (approval_other amount notBusy notCancelling)

end Sys2Proof.Machine

/-! The messages of a cash unit (R103), and its box (R115). -/

namespace Sys2Proof.Machine

variable {s : State} {u : Fin 2}

/-! ### A message heard (R103) -/

/-- A unit that is not used is not heard, nor is any before start-up has ended. -/
theorem unitMessage_unheard (off : s.power.starting = true ∨ s.power.profile.usesUnit u = false) (act : State → State) :
    s.unitMessage u act = s := by
  rcases off with starting | unused
  · exact heard_starting starting _
  · exact ite_eq_left_iff.2 (fun _ => if_neg (by rw [unused]; decide))

theorem unitMessage_heard (on : s.power.starting = false) (used : s.power.profile.usesUnit u = true) (act : State → State) :
    s.unitMessage u act = act (heardFrom s u) := (heard_running on _).trans (if_pos used)

theorem heardFrom_unit (s : State) (u : Fin 2) :
    (heardFrom s u).unit u = { s.unit u with heard := true, silent := false, lastHeard := s.now } := State.unit_setUnit s u _

theorem heardFrom_other (s : State) (u : Fin 2) : (heardFrom s u).unit (1 - u) = s.unit (1 - u) := unit_setUnit_other s u _

/-! ### The sets of an open gate made anew (R107) -/

theorem withSets_eq (s : State) (u : Fin 2) : withSets s u (s.unit u) =
    if (s.unit u).gateOpen = true then { s.unit u with coinSet := s.coinSetOf u, billSet := s.billSetOf u } else s.unit u := by
  rw [coinSetOf_eq, billSetOf_eq]
  rfl

theorem refreshGate_eq (s : State) (u : Fin 2) : s.refreshGate u = (
    let x := s.unit u;
    let y := withSets s u x;
    if x.gateOpen = true ∧ (y.coinSet ≠ x.coinSet ∨ y.billSet ≠ x.billSet) then
      { s.setUnit u y with sent := s.sent ++ [.enable u y.coinSet y.billSet] }
    else s) := by
  unfold State.refreshGate
  dsimp only
  rw [withSets_eq]
  by_cases opened : (s.unit u).gateOpen = true
  · rw [if_pos opened]
    exact if_congr (and_congr_right fun _ => or_congr ne_comm ne_comm) rfl rfl
  · rw [if_neg (fun h => opened h.1), if_neg (fun h => opened h.1)]

/-- Sets that come out as they were leave the unit as it was. -/
theorem withSets_same {x : CashUnit} (same : ¬ (x.gateOpen = true ∧
    ((withSets s u x).coinSet ≠ x.coinSet ∨ (withSets s u x).billSet ≠ x.billSet))) : withSets s u x = x := by
  by_cases opened : x.gateOpen = true
  · have sets : (withSets s u x).coinSet = x.coinSet ∧ (withSets s u x).billSet = x.billSet := by
      by_contra h
      exact same ⟨opened, not_and_or.1 h⟩
    have written : withSets s u x = { x with coinSet := (withSets s u x).coinSet, billSet := (withSets s u x).billSet } := by
      unfold withSets
      rw [if_pos opened]
    rw [written, sets.1, sets.2]
  · exact if_neg opened

/-- What a unit's sets made anew leave of the unit and of the other one. -/
theorem refreshGate_unit (s : State) (u : Fin 2) : (s.refreshGate u).unit u = withSets s u (s.unit u) := by
  rw [refreshGate_eq]
  dsimp only
  split_ifs with changed
  · exact State.unit_setUnit s u _
  · exact (withSets_same changed).symm

theorem refreshGate_other (s : State) {u v : Fin 2} (h : v ≠ u) : (s.refreshGate u).unit v = s.unit v := by
  rw [refreshGate_eq]
  dsimp only
  split_ifs
  · exact State.unit_setUnit_ne s h.symm _
  · rfl

theorem refreshGate_sent (s : State) (u : Fin 2) : (s.refreshGate u).sent = s.sent ++ (
    let x := s.unit u;
    let y := withSets s u x;
    if x.gateOpen = true ∧ (y.coinSet ≠ x.coinSet ∨ y.billSet ≠ x.billSet) then [.enable u y.coinSet y.billSet] else []) := by
  rw [refreshGate_eq]
  dsimp only
  split_ifs
  · rfl
  · exact (List.append_nil _).symm

/-! ### The box level (R115) -/

theorem boxBit_quiet (u : Fin 2) : (if u = 0 then (3 : Fin 16) else 4) ∈ [(3 : Fin 16), 4, 7, 8, 9, 10, 11, 13] := by
  revert u
  decide

theorem evalBox_eq (s : State) (u : Fin 2) : s.evalBox u = s.reportLevel (if u = 0 then 3 else 4)
    (decide (s.boxCapacity ≤ (s.unit u).boxCount ∨ (s.unit u).fullFlag = true)) := by
  unfold State.evalBox
  rw [reportLevelQuiet_eq s (boxBit_quiet u), boxFull_eq]

/-- A bit resolved without a lockout leaves the set's bits. -/
theorem resolveKiosk_bits (g : Trigger) (s : State) (i : Fin 16) :
    (State.resolveKiosk id g s i).conds.kiosk.bits = s.conds.kiosk.bits := by
  rw [resolveKiosk_eq s id i g]
  dsimp only [id]
  split_ifs <;> rfl

theorem reportLevelQuiet_bits (s : State) (i : Fin 16) (present : Bool) : (s.reportLevelQuiet i present).conds.kiosk.bits =
    if present = true then setBit s.conds.kiosk.bits i else clearBit s.conds.kiosk.bits i := by
  unfold State.reportLevelQuiet State.reportLevelWith
  cases present with
  | false => rfl
  | true =>
    rw [if_pos rfl, if_pos rfl]
    split_ifs with set
    · exact (setBit_of_getLsbD set).symm
    · exact resolveKiosk_bits _ _ i

theorem evalBox_bits (s : State) (u : Fin 2) : (s.evalBox u).conds.kiosk.bits =
    if s.boxCapacity ≤ (s.unit u).boxCount ∨ (s.unit u).fullFlag = true then
      setBit s.conds.kiosk.bits (if u = 0 then 3 else 4)
    else clearBit s.conds.kiosk.bits (if u = 0 then 3 else 4) := by
  unfold State.evalBox
  rw [reportLevelQuiet_bits, boxFull_eq]
  exact if_congr decide_eq_true_iff rfl rfl

/-! ### The messages of the box (R115) -/

/-- A unit heard with a new record, and the sets of its open gate made anew. -/
def State.boxChanged (s : State) (u : Fin 2) (y : CashUnit) : State := ((heardFrom s u).setUnit u y).refreshGate u

theorem boxChanged_unit (s : State) (u : Fin 2) (y : CashUnit) : (s.boxChanged u y).unit u = withSets s u y := by
  unfold State.boxChanged
  rw [refreshGate_unit, State.unit_setUnit]
  rfl

theorem boxChanged_other (s : State) (u : Fin 2) (y : CashUnit) : (s.boxChanged u y).unit (1 - u) = s.unit (1 - u) := by
  unfold State.boxChanged
  rw [refreshGate_other _ (other_ne u), unit_setUnit_other, heardFrom_other]

theorem boxChanged_sent (s : State) (u : Fin 2) (y : CashUnit) : (s.boxChanged u y).sent = s.sent ++ (
    let z := withSets s u y;
    if y.gateOpen = true ∧ (z.coinSet ≠ y.coinSet ∨ z.billSet ≠ y.billSet) then [.enable u z.coinSet z.billSet] else []) := by
  unfold State.boxChanged
  rw [refreshGate_sent, State.unit_setUnit]
  rfl

theorem boxChanged_op (s : State) (u : Fin 2) (y : CashUnit) : s.ChangesOnly (s.boxChanged u y) [.money, .sent] :=
  (((State.ChangesOnly.setUnit_op s u _).mono (by decide)).setUnit u y (by decide)).refreshGate u (by decide)

theorem withSets_box (s : State) (u : Fin 2) (y : CashUnit) :
    (withSets s u y).boxCount = y.boxCount ∧ (withSets s u y).fullFlag = y.fullFlag := by
  unfold withSets
  split_ifs
  · exact ⟨rfl, rfl⟩
  · exact ⟨rfl, rfl⟩

theorem boxChanged_evalBox_bits (s : State) (u : Fin 2) (y : CashUnit) : ((s.boxChanged u y).evalBox u).conds.kiosk.bits =
    if s.boxCapacity ≤ y.boxCount ∨ y.fullFlag = true then setBit s.conds.kiosk.bits (if u = 0 then 3 else 4)
    else clearBit s.conds.kiosk.bits (if u = 0 then 3 else 4) := by
  have frame := boxChanged_op s u y
  have capacity : (s.boxChanged u y).boxCapacity = s.boxCapacity := by
    unfold State.boxCapacity
    rw [frame.store]
  rw [evalBox_bits, boxChanged_unit, (withSets_box s u y).1, (withSets_box s u y).2, capacity, frame.conds]

/-- What a message of the box comes to (R107, R115), where its new record `y` keeps gate and sets: the unit, what is sent and the kiosk
bits of `v`. -/
structure BoxReported (s : State) (u : Fin 2) (y : CashUnit) (bits : BitVec 16) (v : State) : Prop where
  unit : v.unit u = withSets s u y
  other : v.unit (1 - u) = s.unit (1 - u)
  sent : v.sent = s.sent ++ (
    let z := withSets s u y;
    if y.gateOpen = true ∧ (z.coinSet ≠ y.coinSet ∨ z.billSet ≠ y.billSet) then [.enable u z.coinSet z.billSet] else [])
  bits : v.conds.kiosk.bits = bits
  frame : s.ChangesOnly v [.money, .sent, .conds, .link]

theorem boxReported_changed (s : State) (u : Fin 2) (y : CashUnit) :
    BoxReported s u y s.conds.kiosk.bits (s.boxChanged u y) :=
  ⟨boxChanged_unit s u y, boxChanged_other s u y, boxChanged_sent s u y, by rw [(boxChanged_op s u y).conds],
    (boxChanged_op s u y).mono (by decide)⟩

theorem boxReported_evaluated (s : State) (u : Fin 2) (y : CashUnit) :
    BoxReported s u y (if s.boxCapacity ≤ y.boxCount ∨ y.fullFlag = true then
      setBit s.conds.kiosk.bits (if u = 0 then 3 else 4) else clearBit s.conds.kiosk.bits (if u = 0 then 3 else 4))
      ((s.boxChanged u y).evalBox u) := by
  have report := State.ChangesOnly.evalBox_op (s.boxChanged u y) u
  have unit := unit_congr report.money
  exact ⟨(unit u).trans (boxChanged_unit s u y), (unit _).trans (boxChanged_other s u y), report.sent.trans (boxChanged_sent s u y),
    boxChanged_evalBox_bits s u y, ((boxChanged_op s u y).mono (by decide)).after report (by decide)⟩

/-! ### The messages by what they change -/

section Heard

variable (on : s.power.starting = false) (used : s.power.profile.usesUnit u = true)
include on used

theorem cashHeartbeat_answers : exec (.cashHeartbeat u) s = .next (heardFrom s u) :=
  congrArg Host.Outcome.next (unitMessage_heard on used id)

theorem boxFull_answers :
    exec (.boxFull u) s = .next ((s.boxChanged u { (heardFrom s u).unit u with fullFlag := true }).evalBox u) :=
  congrArg Host.Outcome.next (unitMessage_heard on used _)

theorem boxOut_answers : exec (.boxOut u) s = .next (s.boxChanged u { (heardFrom s u).unit u with boxIn := false }) :=
  congrArg Host.Outcome.next (unitMessage_heard on used _)

theorem boxIn_answers : exec (.boxIn u) s = .next ((s.boxChanged u (
    if s.conds.mode = .service then { (heardFrom s u).unit u with boxIn := true, boxCount := 0, fullFlag := false }
    else { (heardFrom s u).unit u with boxIn := true })).evalBox u) :=
  congrArg Host.Outcome.next (unitMessage_heard on used _)

end Heard

/-- Settles O42: the sets and the level by their equations, then each message. -/
theorem boxesAndHeartbeats : Obligations.BoxesAndHeartbeats := by
  unfold Obligations.BoxesAndHeartbeats
  refine ⟨fun s u => ?_, refreshGate_eq, fun _ => rfl, evalBox_eq, fun s u code off c hc => ?_, fun s u starting => ?_,
    fun s u on used => ?_⟩
  · unfold State.unitHeadroom
    cases s.front (unitStation u) <;> rfl
  · simp only [List.mem_cons, List.not_mem_nil, or_false] at hc
    rcases hc with rfl | rfl | rfl | rfl | rfl | rfl | rfl | rfl | rfl <;> exact congrArg _ (unitMessage_unheard off _)
  · exact ⟨congrArg _ (heard_starting starting _), congrArg _ (heard_starting starting _)⟩
  · refine ⟨cashHeartbeat_answers on used, ?_⟩
    rintro c y (⟨rfl, rfl⟩ | ⟨rfl, rfl⟩ | ⟨rfl, mode, rfl⟩ | ⟨rfl, mode, rfl⟩)
    · obtain ⟨unit, other, sent, bits, frame⟩ := boxReported_evaluated s u { (heardFrom s u).unit u with fullFlag := true }
      exact ⟨_, boxFull_answers on used, unit, other, sent, bits.trans (if_neg (by simp)).symm, frame⟩
    · obtain ⟨unit, other, sent, bits, frame⟩ := boxReported_changed s u { (heardFrom s u).unit u with boxIn := false }
      exact ⟨_, boxOut_answers on used, unit, other, sent, bits.trans (if_pos rfl).symm, frame.mono (by decide)⟩
    · obtain ⟨unit, other, sent, bits, frame⟩ := boxReported_evaluated s u { (heardFrom s u).unit u with boxIn := true }
      have answer := boxIn_answers on used
      rw [if_neg (by rw [mode]; decide)] at answer
      exact ⟨_, answer, unit, other, sent, bits.trans (if_neg (by simp)).symm, frame⟩
    · obtain ⟨unit, other, sent, bits, frame⟩ :=
        boxReported_evaluated s u { (heardFrom s u).unit u with boxIn := true, boxCount := 0, fullFlag := false }
      have answer := boxIn_answers on used
      rw [if_pos mode] at answer
      exact ⟨_, answer, unit, other, sent, bits.trans (if_neg (by simp)).symm, frame⟩

end Sys2Proof.Machine

/-! A jammed unit (R103, R112, R114): its jam flag, its gate and its escrow, and the commands that jam it. -/

namespace Sys2Proof.Machine

variable {s t : State} {u : Fin 2}

/-! ### K5 and K6 raised -/

theorem raiseKioskQuiet_bits (s : State) (i : Fin 16) (detail : List Byte) :
    (s.raiseKioskQuiet i detail).conds.kiosk.bits = setBit s.conds.kiosk.bits i := by
  unfold State.raiseKioskQuiet State.raiseKioskWith
  split_ifs with set
  · exact (setBit_of_getLsbD set).symm
  · exact resolveKiosk_bits _ _ i

/-! ### A gate that closes for a jam -/

/-- A unit whose gate is closed, open before or not, and whose HELD bill is given back. -/
def CashUnit.givenUp (now : Nat) (x : CashUnit) : CashUnit :=
  { x with
    gateOpen := false, escrow := x.escrow.givenBack now
    coinSet := if x.gateOpen then 0 else x.coinSet
    billSet := if x.gateOpen then 0 else x.billSet }

theorem givenUp_open {x : CashUnit} (opened : x.gateOpen = true) (now : Nat) : x.givenUp now = x.shut now := by
  simp [CashUnit.givenUp, CashUnit.shut, opened]

theorem givenUp_closed {x : CashUnit} (closed : x.gateOpen = false) (now : Nat) :
    x.givenUp now = { x with escrow := x.escrow.givenBack now } := by
  simp [CashUnit.givenUp, closed]

theorem giveBackHeld_kept {e : Escrow} {now : Nat} (kept : (s.unit u).escrow = e.givenBack now) : s.giveBackHeld u = s := by
  unfold State.giveBackHeld
  rw [kept]
  cases e <;> rfl

/-- Whether it closes now or was closed, what is HELD goes back once. -/
theorem closeGate_giveBackHeld (s : State) (u : Fin 2) (cause : GateCause) : ∃ l : Link,
    (s.closeGate u (some cause)).giveBackHeld u = { s with
      link := l
      money := { s.money with
        units := put s.money.units u ((s.unit u).givenUp s.now)
        challenge := if (s.unit u).gateOpen = true ∧ (s.unit (1 - u)).gateOpen = false then
          { s.money.challenge with running := false, pending := false } else s.money.challenge }
      sent := s.sent ++ (if (s.unit u).gateOpen then [.inhibit u] else []) ++ (s.unit u).escrow.returned u } := by
  rw [closeGate_some, closeGate_none]
  cases opened : (s.unit u).gateOpen with
  | true =>
    have challenge : (if (s.unit (1 - u)).gateOpen = false then
        { s.money.challenge with running := false, pending := false } else s.money.challenge) =
        s.money.challenge.afterClose (s.unit (1 - u)).gateOpen := by
      cases (s.unit (1 - u)).gateOpen <;> rfl
    have unit : ((s.gateShut u).unit u) = (s.unit u).shut s.now := by
      rw [gateShut_eq]
      exact get_put_same _ _ _
    rw [if_pos rfl, if_pos rfl, giveBackHeld_kept (e := (s.unit u).escrow) (now := s.now)]
    · rw [gateShut_eq, givenUp_open opened]
      simp only [true_and, if_true, challenge]
      exact ⟨_, rfl⟩
    · exact congrArg CashUnit.escrow unit
  | false =>
    rw [if_neg Bool.false_ne_true, giveBackHeld_eq, givenUp_closed opened]
    simp only [Bool.false_eq_true, false_and, if_false, List.append_nil]
    exact ⟨_, rfl⟩

/-! ### The unit jammed (R112, R114) -/

theorem givenBack_session (e : Escrow) (now : Nat) : (e.givenBack now).session = billOwner e := by
  cases e <;> rfl

theorem givenBack_lateStack (e : Escrow) (now : Nat) (old : Option LateStack) : (e.givenBack now).lateStack old = e.lateStack old := by
  cases e <;> rfl

/-- A unit's jam flag set and K5 or K6 raised. -/
def State.jamRaised (s : State) (u : Fin 2) (cause : Nat) : State :=
  (s.setUnit u { s.unit u with jammed := true }).raiseKioskQuiet (if u = 0 then 5 else 6) (le1 cause)

/-- Then its gate closed and its HELD bill given back. -/
def State.jamBack (s : State) (u : Fin 2) (cause : Nat) : State :=
  ((s.jamRaised u cause).closeGate u (some .jam)).giveBackHeld u

/-- Then its escrow given up: all of a jam but the test of money in flight. -/
def State.jammed (s : State) (u : Fin 2) (cause : Nat) : State :=
  (s.jamBack u cause).setUnit u { (s.jamBack u cause).unit u with
    escrow := .none, late := ((s.jamBack u cause).unit u).escrow.lateStack ((s.jamBack u cause).unit u).late }

theorem jamRaised_op (s : State) (u : Fin 2) (cause : Nat) : s.ChangesOnly (s.jamRaised u cause) [.money, .conds, .link] :=
  ((State.ChangesOnly.setUnit_op s u _).mono (by decide)).raiseKioskQuiet _ _ (by decide)

theorem jamBack_op (s : State) (u : Fin 2) (cause : Nat) :
    (s.jamRaised u cause).ChangesOnly (s.jamBack u cause) [.money, .sent, .link] :=
  (State.ChangesOnly.closeGate_op _ u _).giveBackHeld u (by decide)

theorem jammed_op (s : State) (u : Fin 2) (cause : Nat) : s.ChangesOnly (s.jammed u cause) [.link, .money, .sent, .conds] :=
  (((jamRaised_op s u cause).mono (by decide)).after (jamBack_op s u cause) (by decide)).setUnit u _ (by decide)

theorem jamRaised_unit (s : State) (u : Fin 2) (cause : Nat) : (s.jamRaised u cause).unit u = { s.unit u with jammed := true } :=
  (unit_congr (State.ChangesOnly.raiseKioskQuiet_op _ _ _).money u).trans (State.unit_setUnit s u _)

theorem jamRaised_other (s : State) (u : Fin 2) (cause : Nat) : (s.jamRaised u cause).unit (1 - u) = s.unit (1 - u) :=
  (unit_congr (State.ChangesOnly.raiseKioskQuiet_op _ _ _).money _).trans (unit_setUnit_other s u _)

theorem jamRaised_challenge (s : State) (u : Fin 2) (cause : Nat) : (s.jamRaised u cause).money.challenge = s.money.challenge := by
  unfold State.jamRaised
  rw [(State.ChangesOnly.raiseKioskQuiet_op _ _ _).money]
  rfl

theorem jamBack_unit (s : State) (u : Fin 2) (cause : Nat) :
    (s.jamBack u cause).unit u = CashUnit.givenUp s.now { s.unit u with jammed := true } := by
  obtain ⟨l, back⟩ := closeGate_giveBackHeld (s.jamRaised u cause) u .jam
  unfold State.jamBack
  rw [back, ← jamRaised_unit s u cause, ← (jamRaised_op s u cause).now]
  exact get_put_same _ _ _

theorem jammed_unitJammed (s : State) (u : Fin 2) (cause : Nat) : UnitJammed s (s.jammed u cause) u := by
  obtain ⟨l, back⟩ := closeGate_giveBackHeld (s.jamRaised u cause) u .jam
  have bits : (s.jamRaised u cause).conds.kiosk.bits = setBit s.conds.kiosk.bits (if u = 0 then 5 else 6) := raiseKioskQuiet_bits _ _ _
  refine ⟨?_, ?_, ?_, ?_, ?_, jammed_op s u cause⟩
  · refine (State.unit_setUnit _ u _).trans ?_
    rw [jamBack_unit]
    simp only [CashUnit.givenUp, givenBack_lateStack]
    rfl
  · refine (unit_setUnit_other _ u _).trans ?_
    unfold State.jamBack
    rw [back, ← jamRaised_other s u cause]
    exact get_put_ne _ (other_ne u).symm _
  · show (s.jamBack u cause).sent = _
    unfold State.jamBack
    rw [back, jamRaised_unit, (jamRaised_op s u cause).sent]
    rfl
  · show (s.jamBack u cause).conds.kiosk.bits = _
    rw [(jamBack_op s u cause).conds, bits]
  · show (s.jamBack u cause).money.challenge = _
    unfold State.jamBack
    rw [back, jamRaised_unit, jamRaised_other, jamRaised_challenge]

/-- A jam is that, and then the test for the session of the escrow given up. -/
theorem jamUnit_eq (s : State) (u : Fin 2) (cause : Nat) :
    s.jamUnit u cause = (s.jammed u cause).closingExitOf (billOwner (s.unit u).escrow) := by
  have owner : ((s.jamBack u cause).unit u).escrow.session = billOwner (s.unit u).escrow := by
    rw [jamBack_unit]
    exact givenBack_session _ _
  rw [← owner]
  rfl

/-! ### What jams a unit -/

theorem jammed_by_message (on : s.power.starting = false) (used : s.power.profile.usesUnit u = true) :
    exec (.jam u) s = .next (((heardFrom s u).jammed u 0).closingExitOf (billOwner (s.unit u).escrow)) := by
  have taken : exec (.jam u) s = .next ((heardFrom s u).jamUnit u 0) := congrArg Host.Outcome.next (unitMessage_heard on used _)
  rw [taken, jamUnit_eq, heardFrom_unit]

/-- A unit heard whose station's front session has its idle timer restarted, as a bill does it (R109). -/
def State.billFrom (s : State) (u : Fin 2) : State :=
  match s.front (unitStation u) with
  | some h => (heardFrom s u).touch h.record
  | none => heardFrom s u

theorem billFrom_op (s : State) (u : Fin 2) : (heardFrom s u).ChangesOnly (s.billFrom u) [.sessions] := by
  unfold State.billFrom
  split
  · exact State.ChangesOnly.touch_op _ _
  · exact .refl _ _

theorem billFrom_unit (s : State) (u : Fin 2) : (s.billFrom u).unit u = (heardFrom s u).unit u :=
  unit_congr (billFrom_op s u).money u

/-- A bill, by the escrow it finds (R109, R114). -/
theorem billHeld_answers (on : s.power.starting = false) (used : s.power.profile.usesUnit u = true) (code : Byte) :
    exec (.billHeld u code) s = .next (if (s.unit u).escrow = .none then (s.billFrom u).billHeld u code
      else ((s.billFrom u).jamUnit u 3).send (.giveBack u)) := by
  have taken : exec (.billHeld u code) s = .next (if ((s.billFrom u).unit u).escrow = .none then (s.billFrom u).billHeld u code
      else ((s.billFrom u).jamUnit u 3).send (.giveBack u)) := congrArg Host.Outcome.next (unitMessage_heard on used _)
  rw [taken, billFrom_unit, heardFrom_unit]

theorem jammed_by_bill (on : s.power.starting = false) (used : s.power.profile.usesUnit u = true) (code : Byte)
    (busy : (s.unit u).escrow ≠ .none) : exec (.billHeld u code) s = .next (State.send
      (((s.billFrom u).jammed u 3).closingExitOf (billOwner (s.unit u).escrow)) (.giveBack u)) := by
  rw [billHeld_answers on used, if_neg busy, jamUnit_eq, billFrom_unit, heardFrom_unit]

theorem cashUnitSilence_answers (on : s.power.starting = false) : exec (.cashUnitSilence u) s = .next (
    if (s.unit u).heard = true ∧ (s.unit u).silent = false then
      ((s.setUnit u { s.unit u with silent := true }).jammed u 1).closingExitOf (billOwner (s.unit u).escrow)
    else s) := by
  have taken : exec (.cashUnitSilence u) s = .next (if (s.unit u).heard = true ∧ (s.unit u).silent = false then
      (s.setUnit u { s.unit u with silent := true }).jamUnit u 1 else s) := congrArg Host.Outcome.next (heard_running on _)
  rw [taken, jamUnit_eq, State.unit_setUnit]

theorem escrowTimeout_answers (on : s.power.starting = false) : exec (.escrowTimeout u) s = .next (
    if (s.unit u).escrow.code ∈ [2, 3] then (s.jammed u 2).closingExitOf (billOwner (s.unit u).escrow) else s) := by
  have taken : exec (.escrowTimeout u) s = .next (match (s.unit u).escrow with
      | .stacking _ _ _ _ => s.jamUnit u 2
      | .returning _ _ _ _ => s.jamUnit u 2
      | _ => s) := congrArg Host.Outcome.next (heard_running on _)
  rw [taken, jamUnit_eq]
  cases (s.unit u).escrow <;> rfl

/-- Settles O41: each cause of a jam comes to the unit jammed and the test of money in flight. -/
theorem jammedUnitsGiveUpTheirEscrow : Obligations.JammedUnitsGiveUpTheirEscrow := by
  unfold Obligations.JammedUnitsGiveUpTheirEscrow
  intro s u on
  refine ⟨fun used => ⟨⟨_, jammed_unitJammed _ u 0, jammed_by_message on used⟩,
    fun code busy => ⟨_, jammed_unitJammed (s.billFrom u) u 3, jammed_by_bill on used code busy⟩⟩, fun quiet => ?_,
    fun heard loud => ⟨_, jammed_unitJammed _ u 1, ?_⟩, fun still => ?_, fun late => ⟨_, jammed_unitJammed s u 2, ?_⟩⟩
  · rw [cashUnitSilence_answers on, if_neg]
    rintro ⟨heard, loud⟩
    rcases quiet with unheard | silent
    · rw [heard] at unheard
      cases unheard
    · rw [loud] at silent
      cases silent
  · rw [cashUnitSilence_answers on, if_pos ⟨heard, loud⟩]
  · rw [escrowTimeout_answers on, if_neg]
    simp only [List.mem_cons, List.not_mem_nil, or_false] at still ⊢
    omega
  · rw [escrowTimeout_answers on, if_pos late]

end Sys2Proof.Machine

/-! Coins and bills by the escrow they find (R108, R109, R111, R113). -/

namespace Sys2Proof.Machine

variable {s : State} {u : Fin 2}

/-! ### Cash counted in (R108, R111, R113) -/

theorem creditCash_eq (s : State) (h : SessionHandle) (u : Fin 2) (kind : CreditKind) (v : Nat) :
    s.creditCash h u kind v = cashIn s u h kind.code v := rfl

theorem tillOverage_eq (s : State) (v : Nat) : s.tillOverage v = cashOver s v := rfl

theorem cashToSlip_eq (s : State) (h : Option SessionHandle) (v : Nat) :
    (s.tillCashIn v).issueSlip h v .lateBill = cashToSlip s h v := rfl

/-- Cash counted in leaves the gates, the escrows and the terminal. -/
theorem cashIn_till (s : State) (u : Fin 2) (h : SessionHandle) (kind v : Nat) : s.TillKept (cashIn s u h kind v) := by
  unfold cashIn State.refreshGates
  refine State.TillKept.trans ?_ ((State.TillKept.refreshGate _ 0).trans (State.TillKept.refreshGate _ 1))
  have touched (t : State) (payload : List Byte) : ((t.touch h.record).notify 0xC6 payload).money = t.money :=
    (State.ChangesOnly.notify_op _ _ _).money.trans (State.ChangesOnly.touch_op _ _).money
  exact .of_units (by rw [touched]) (by rw [touched])

/-- COIN (R108). -/
theorem coin_answers (on : s.power.starting = false) (used : s.power.profile.usesUnit u = true) (code : Byte) :
    exec (.coin u code) s = .next (
      let x := (heardFrom s u).unit u;
      let t := (heardFrom s u).setUnit u { x with coins := x.coins + 1 };
      let v := s.coinValue u code.toNat;
      if v = 0 then t
      else match s.front (unitStation u) with
        | some h => cashIn t u h 0 v
        | none => cashOver t v) :=
  congrArg Host.Outcome.next (unitMessage_heard on used _)

/-! ### A bill that finds the escrow NONE (R109) -/

theorem billTakable_iff (s : State) (u : Fin 2) (v : Nat) : billTakable s u v = true ↔
    ((s.unit u).gateOpen = true ∧ 0 < v ∧ s.boxOpen u = true) ∧ s.front (unitStation u) ≠ none := by
  unfold billTakable
  rw [decide_eq_true_iff, boxOpen_iff]
  simp only [not_or, Nat.not_le, Bool.not_eq_true, and_assoc]

theorem testBill_eq (s : State) (u : Fin 2) (v : Nat) : s.testBill u v = match s.front (unitStation u) with
    | some h => if billPasses s u v then .passes h else if billTakable s u v then .overLimit h else .fails
    | none => .fails := by
  have takable := billTakable_iff s u v
  unfold State.testBill billPasses
  cases front : s.front (unitStation u) with
  | none => exact ite_self _
  | some h =>
    by_cases able : (s.unit u).gateOpen = true ∧ 0 < v ∧ s.boxOpen u = true
    · have taken : billTakable s u v = true := takable.2 ⟨able, by rw [front]; simp⟩
      rw [if_pos able, taken]
      simp
    · have refused : billTakable s u v = false := Bool.eq_false_iff.2 (fun h => able (takable.1 h).1)
      rw [if_neg able, refused]
      rfl

theorem billHeld_eq (w : State) (u : Fin 2) (code : Byte) : w.billHeld u code = (
    let v := w.billValue u code.toNat;
    match w.front (unitStation u) with
    | some h => if billPasses w u v then w.setUnit u { w.unit u with escrow := .held code v h }
      else if billTakable w u v then (w.returnBill u code v (some h)).raiseSession h 7 (le1 u.val ++ le4 v)
      else w.returnBill u code v (some h)
    | none => w.returnBill u code v none) := by
  unfold State.billHeld
  dsimp only
  rw [testBill_eq]
  cases w.front (unitStation u) with
  | none => rfl
  | some h =>
    dsimp only
    cases billPasses w u (w.billValue u code.toNat) <;> cases billTakable w u (w.billValue u code.toNat) <;> rfl

theorem billFrom_front (s : State) (u : Fin 2) : (s.billFrom u).sessions.fronts = s.sessions.fronts := by
  unfold State.billFrom
  split
  · exact touch_fronts _ _
  · rfl

/-- The tests of R109 read the unit's gate and box, the front session, its credit and the settings. -/
theorem billTakable_congr {s t : State} {u : Fin 2} (gate : (t.unit u).gateOpen = (s.unit u).gateOpen)
    (box : (t.unit u).boxIn = (s.unit u).boxIn ∧ (t.unit u).boxCount = (s.unit u).boxCount ∧ (t.unit u).fullFlag = (s.unit u).fullFlag)
    (fronts : t.sessions.fronts = s.sessions.fronts) (store : t.store = s.store) (v : Nat) :
    billTakable t u v = billTakable s u v := by
  obtain ⟨boxIn, count, full⟩ := box
  unfold billTakable State.boxCapacity State.front
  rw [gate, boxIn, count, full, fronts, store]

theorem billPasses_congr {s t : State} {u : Fin 2} (gate : (t.unit u).gateOpen = (s.unit u).gateOpen)
    (box : (t.unit u).boxIn = (s.unit u).boxIn ∧ (t.unit u).boxCount = (s.unit u).boxCount ∧ (t.unit u).fullFlag = (s.unit u).fullFlag)
    (fronts : t.sessions.fronts = s.sessions.fronts) (store : t.store = s.store) (accounts : t.money.accounts = s.money.accounts)
    (v : Nat) : billPasses t u v = billPasses s u v := by
  unfold billPasses
  rw [billTakable_congr gate box fronts store, unitHeadroom_congr fronts accounts store]

theorem billTakable_billFrom (s : State) (u : Fin 2) (v : Nat) : billTakable (s.billFrom u) u v = billTakable s u v := by
  have unit := (billFrom_unit s u).trans (heardFrom_unit s u)
  exact billTakable_congr (by rw [unit]) (by rw [unit]; exact ⟨rfl, rfl, rfl⟩) (billFrom_front s u) (billFrom_op s u).store v

theorem billPasses_billFrom (s : State) (u : Fin 2) (v : Nat) : billPasses (s.billFrom u) u v = billPasses s u v := by
  have unit := (billFrom_unit s u).trans (heardFrom_unit s u)
  have accounts : (s.billFrom u).money.accounts = s.money.accounts := by
    rw [(billFrom_op s u).money]
    rfl
  exact billPasses_congr (by rw [unit]) (by rw [unit]; exact ⟨rfl, rfl, rfl⟩) (billFrom_front s u) (billFrom_op s u).store accounts v

/-- RETURN for a bill just heard. -/
theorem returnBill_billFrom (s : State) (u : Fin 2) (code : Byte) (v : Nat) (h : Option SessionHandle) :
    (s.billFrom u).returnBill u code v h = { (s.billFrom u).setUnit u { (heardFrom s u).unit u with
      escrow := .returning code v h s.now } with sent := s.sent ++ [.giveBack u] } := by
  have now : (s.billFrom u).now = s.now := (billFrom_op s u).now
  have sent : (s.billFrom u).sent = s.sent := (billFrom_op s u).sent
  unfold State.returnBill
  rw [billFrom_unit, now, ← sent]
  rfl

/-- A bill that finds the escrow NONE, by the front session and the tests of R109. -/
theorem billHeld_free (s : State) (u : Fin 2) (code : Byte) : (s.billFrom u).billHeld u code = (
    let t := heardFrom s u;
    let x := t.unit u;
    let front := s.front (unitStation u);
    let v := s.billValue u code.toNat;
    let back : State → State := fun w =>
      { w.setUnit u { x with escrow := .returning code v front s.now } with sent := s.sent ++ [.giveBack u] };
    match front with
    | none => back t
    | some h =>
      let t1 := t.touch h.record;
      if billPasses s u v then t1.setUnit u { x with escrow := .held code v h }
      else if billTakable s u v then (back t1).raiseSession h 7 (le1 u.val ++ le4 v)
      else back t1) := by
  have value : (s.billFrom u).billValue u code.toNat = s.billValue u code.toNat := by
    unfold State.billValue
    rw [(billFrom_op s u).store]
    rfl
  have front : (s.billFrom u).front (unitStation u) = s.front (unitStation u) :=
    congrArg (fun x : Vector (Option SessionHandle) 2 => x.get _) (billFrom_front s u)
  rw [billHeld_eq, value, front]
  simp only [billPasses_billFrom, billTakable_billFrom, billFrom_unit, returnBill_billFrom]
  unfold State.billFrom
  cases s.front (unitStation u) <;> rfl

/-! ### The end of an escrow (R111) -/

theorem escrow_session_eq (e : Escrow) : e.session = billOwner e := by
  cases e <;> rfl

theorem endEscrow_eq (s : State) (u : Fin 2) : s.endEscrow u =
    (s.setUnit u { s.unit u with escrow := .none }).closingExitOf (billOwner (s.unit u).escrow) := by
  rw [← escrow_session_eq]
  rfl

theorem lateStacked_eq (s : State) (u : Fin 2) (y : LateStack) : s.lateStacked u y = (
    let t := s.setUnit u { s.unit u with late := none };
    match y.session.filter s.current with
    | some h => cashIn t u h 2 y.value
    | none => if s.money.slips.length < 16 then cashToSlip t y.session y.value else cashOver t y.value) := by
  have late (t : State) (current : t.current = s.current) (slips : t.money.slips = s.money.slips) :
      (match y.session.filter t.current with
        | some h => t.creditCash h u .lateBill y.value
        | none => if t.slipRoom then (t.tillCashIn y.value).issueSlip y.session y.value .lateBill else t.tillOverage y.value) =
      match y.session.filter s.current with
        | some h => cashIn t u h 2 y.value
        | none => if s.money.slips.length < 16 then cashToSlip t y.session y.value else cashOver t y.value := by
    have room : t.slipRoom = true ↔ s.money.slips.length < 16 := by
      rw [← slips]
      exact decide_eq_true_iff
    rw [current]
    cases y.session.filter s.current with
    | some h => rfl
    | none => exact if_congr room rfl rfl
  exact late _ rfl rfl

/-! ### BILL_STACKED and BILL_RETURNED (R111) -/

theorem stackedBill_eq (w : State) (u : Fin 2) : w.stackedBill u = (
    let without : State → State := fun t => t.setUnit u { t.unit u with escrow := .none };
    match (w.unit u).escrow with
    | .stacking _ v h _ => (without (cashIn w u h 1 v)).closingExitOf (some h)
    | .held _ v h => (without (cashOver w v)).closingExitOf (some h)
    | .returning _ v h _ => (without (cashOver w v)).closingExitOf h
    | .none => match (w.unit u).late with
      | none => w
      | some y =>
        let t := w.setUnit u { w.unit u with late := none };
        match y.session.filter w.current with
        | some h => cashIn t u h 2 y.value
        | none => if w.money.slips.length < 16 then cashToSlip t y.session y.value else cashOver t y.value) := by
  have overage (v : Nat) : ((cashOver w v).unit u).escrow = (w.unit u).escrow := rfl
  unfold State.stackedBill
  cases held : (w.unit u).escrow with
  | none =>
    cases (w.unit u).late with
    | none => rfl
    | some y => exact lateStacked_eq w u y
  | held code v h =>
    refine (endEscrow_eq _ u).trans ?_
    rw [tillOverage_eq, overage, held]
    rfl
  | stacking code v h since =>
    refine (endEscrow_eq _ u).trans ?_
    rw [creditCash_eq, (cashIn_till w u h _ v).escrow, held]
    rfl
  | returning code v h since =>
    refine (endEscrow_eq _ u).trans ?_
    rw [tillOverage_eq, overage, held]
    rfl

/-- A stacked bill counted, with its place in the box (R104, R115). -/
def State.billCounted (s : State) (u : Fin 2) : State :=
  let x := (heardFrom s u).unit u
  (heardFrom s u).setUnit u { x with bills := x.bills + 1, boxCount := min 65535 (x.boxCount + 1) }

theorem billCounted_unit (s : State) (u : Fin 2) : ((s.billCounted u).unit u).escrow = ((heardFrom s u).unit u).escrow ∧
    ((s.billCounted u).unit u).late = ((heardFrom s u).unit u).late := by
  unfold State.billCounted
  dsimp only
  rw [State.unit_setUnit]
  exact ⟨rfl, rfl⟩

/-- BILL_STACKED counts the bill, accounts for it, and evaluates the box. -/
theorem billStacked_answers (on : s.power.starting = false) (used : s.power.profile.usesUnit u = true) :
    exec (.billStacked u) s = .next ((((s.billCounted u).stackedBill u).refreshGate u).evalBox u) :=
  congrArg Host.Outcome.next (unitMessage_heard on used _)

theorem billReturned_answers (on : s.power.starting = false) (used : s.power.profile.usesUnit u = true) :
    exec (.billReturned u) s = .next (
      if ((heardFrom s u).unit u).escrow = .none then heardFrom s u else (heardFrom s u).endEscrow u) :=
  congrArg Host.Outcome.next (unitMessage_heard on used _)

/-- Settles O40: each message by the front session, the escrow and the late stack it finds. -/
theorem coinsAndBillsAreAccountedFor : Obligations.CoinsAndBillsAreAccountedFor := by
  unfold Obligations.CoinsAndBillsAreAccountedFor
  intro s u on used
  obtain ⟨escrow, late⟩ := billCounted_unit s u
  refine ⟨coin_answers on used, fun code none => ?_, ?_, ?_⟩
  · have free : (s.unit u).escrow = .none := by rwa [heardFrom_unit] at none
    exact (billHeld_answers on used code).trans (congrArg Host.Outcome.next ((if_pos free).trans (billHeld_free s u code)))
  · refine (billStacked_answers on used).trans (congrArg (fun w => Host.Outcome.next (State.evalBox (State.refreshGate w u) u))
      ((stackedBill_eq _ u).trans ?_))
    rw [escrow, late]
    rfl
  · rw [billReturned_answers on used, endEscrow_eq]
    cases ((heardFrom s u).unit u).escrow <;> rfl

end Sys2Proof.Machine

/-! The challenge (R116, R117): HELD bills released at a correct answer (R110). -/

namespace Sys2Proof.Machine

variable {s t : State} {u : Fin 2}

/-! ### A session's condition that does not suspend -/

/-- Only S5 and S6 resolve to SUSPEND (R165), so any other raise changes the conditions alone. -/
theorem raiseSession_quiet (s : State) (h : SessionHandle) {i : Fin 8} (hi : i ∉ [5, 6]) (detail : List Byte) :
    s.ChangesOnly (s.raiseSession h i detail) [.conds, .link] := by
  have table (m : Mode) : sessionTable i m ≠ .suspend := by
    rw [sessionTable_eq]
    simp only [List.mem_cons, List.not_mem_nil, or_false, not_or] at hi
    rw [if_neg (by rintro (six | ⟨five, -⟩); exacts [hi.2 six, hi.1 five])]
    decide
  have resolved (w : State) : w.sessionResolved h.record i ≠ .suspend := by
    unfold State.sessionResolved CondSet.resolved
    split_ifs
    · decide
    · decide
    · exact table _
  rw [raiseSession_eq]
  dsimp only
  split_ifs
  · exact .refl s _
  · obtain ⟨w, frame, -, eq⟩ := resolveSession_cases (s.setSessionSet h.record { s.sessionSet h.record with
      bits := setBit (s.sessionSet h.record).bits i }) State.suspend (.raised detail) h.record i
    rw [eq, if_neg (fun suspends => resolved _ suspends.1)]
    exact ((State.ChangesOnly.setSessionSet_op s _ _).mono (by decide)).trans frame

/-- A raise takes back no bit of any session's set. -/
theorem raiseSession_bits_mono (s : State) (h : SessionHandle) (i : Fin 8) (detail : List Byte) (r : Fin 8) {j : Nat}
    (set : (s.sessionSet r).bits.getLsbD j = true) : ((s.raiseSession h i detail).sessionSet r).bits.getLsbD j = true := by
  by_cases current : s.current h = true
  · by_cases same : r = h.record
    · subst same
      rw [raiseSession_bits current, getLsbD_setBit, set, Bool.or_true]
    · rwa [raiseSession_sessionSet_ne same]
  · rw [raiseSession_eq]
    dsimp only
    rwa [if_pos (.inl (Bool.eq_false_iff.2 current))]

/-! ### A HELD bill released (R110) -/

/-- The unit with its HELD bill released: STACKING where all tests of R109 pass, else RETURNING. -/
def State.released (s : State) (u : Fin 2) : CashUnit :=
  match (s.unit u).escrow with
  | .held code x f => { s.unit u with escrow :=
      (if billPasses s u x then .stacking code x f s.now else .returning code x (some f) s.now) }
  | _ => s.unit u

/-- What the unit is sent. -/
def State.verdict (s : State) (u : Fin 2) : List Sent :=
  match (s.unit u).escrow with
  | .held _ x _ => if billPasses s u x then [.stack u] else [.giveBack u]
  | _ => []

theorem releaseHeld_of_free (free : ∀ code x f, (s.unit u).escrow ≠ .held code x f) :
    s.releaseHeld u = s ∧ s.released u = s.unit u ∧ s.verdict u = [] := by
  unfold State.releaseHeld State.released State.verdict
  cases held : (s.unit u).escrow with
  | held code x f => exact absurd held (free code x f)
  | none | stacking | returning => exact ⟨rfl, rfl, rfl⟩

theorem releaseHeld_of_held {code : Byte} {x : Nat} {f : SessionHandle} (held : (s.unit u).escrow = .held code x f) :
    s.releaseHeld u =
      if billPasses s u x then (s.setUnit u (s.released u)).send (.stack u)
      else
        let back := (s.setUnit u (s.released u)).send (.giveBack u)
        match s.front (unitStation u) with
        | some g => if billTakable s u x then back.raiseSession g 7 (le1 u.val ++ le4 x) else back
        | none => back := by
  have front (none : s.front (unitStation u) = none) : billPasses s u x = false := by
    unfold billPasses billTakable
    simp [none]
  unfold State.releaseHeld State.released
  rw [held]
  dsimp only
  rw [testBill_eq]
  cases h : s.front (unitStation u) with
  | none =>
    rw [front h]
    rfl
  | some g => cases billPasses s u x <;> cases billTakable s u x <;> rfl

/-- What a release comes to: the unit, what it is sent, and CREDIT_LIMIT where the headroom test alone failed. -/
structure HeldReleased (s : State) (u : Fin 2) (w : State) : Prop where
  money : w.money = { s.money with units := put s.money.units u (s.released u) }
  sent : w.sent = s.sent ++ s.verdict u
  frame : s.ChangesOnly w [.link, .money, .sent, .conds]
  bits : ∀ (r : Fin 8) (j : Nat), (s.sessionSet r).bits.getLsbD j = true → (w.sessionSet r).bits.getLsbD j = true
  limit : ∀ (code : Byte) (x : Nat) (f g : SessionHandle), (s.unit u).escrow = .held code x f →
    s.front (unitStation u) = some g → s.current g = true → billTakable s u x = true → billPasses s u x = false →
    (w.sessionSet g.record).bits.getLsbD 7 = true

/-- A release that raises nothing. -/
theorem heldReleased_sent {y : Sent} (verdict : s.verdict u = [y])
    (unlimited : ∀ (code : Byte) (x : Nat) (f g : SessionHandle), (s.unit u).escrow = .held code x f →
      s.front (unitStation u) = some g → billTakable s u x = true → billPasses s u x = true) :
    HeldReleased s u ((s.setUnit u (s.released u)).send y) := by
  refine ⟨rfl, by rw [verdict]; rfl, ((State.ChangesOnly.setUnit_op s u _).mono (by decide)).send y (by decide),
    fun r j set => set, fun code x f g held front _ takable refused => ?_⟩
  rw [unlimited code x f g held front takable] at refused
  cases refused

theorem releaseHeld_released (s : State) (u : Fin 2) : HeldReleased s u (s.releaseHeld u) := by
  by_cases held : ∃ code x f, (s.unit u).escrow = .held code x f
  · obtain ⟨code, x, f, held⟩ := held
    have same {code' : Byte} {x' : Nat} {f' : SessionHandle} (h : (s.unit u).escrow = .held code' x' f') : x' = x := by
      rw [held] at h
      cases h
      rfl
    have verdict : s.verdict u = if billPasses s u x then [.stack u] else [.giveBack u] := by
      unfold State.verdict
      rw [held]
    rw [releaseHeld_of_held held]
    dsimp only
    by_cases passes : billPasses s u x = true
    · rw [if_pos passes] at verdict
      rw [if_pos passes]
      exact heldReleased_sent verdict (fun _ _ _ _ h _ _ => by rwa [same h])
    · rw [if_neg passes] at verdict
      rw [if_neg passes]
      split
      · next g front =>
        by_cases takable : billTakable s u x = true
        · have sent : s.ChangesOnly ((s.setUnit u (s.released u)).send (.giveBack u)) [.link, .money, .sent, .conds] :=
            ((State.ChangesOnly.setUnit_op s u _).mono (by decide)).send _ (by decide)
          have quiet := raiseSession_quiet ((s.setUnit u (s.released u)).send (.giveBack u)) g (i := 7) (by decide) (le1 u.val ++ le4 x)
          rw [if_pos takable]
          refine ⟨quiet.money, quiet.sent.trans (by rw [verdict]; rfl), sent.after quiet (by decide),
            fun r j set => raiseSession_bits_mono _ g 7 _ r set, fun _ _ _ g' _ front' current _ _ => ?_⟩
          rw [front] at front'
          cases front'
          have now : ((s.setUnit u (s.released u)).send (.giveBack u)).current g = true := current
          rw [raiseSession_bits now, getLsbD_setBit]
          rfl
        · rw [if_neg takable]
          exact heldReleased_sent verdict (fun _ _ _ _ h _ taken => absurd (by rwa [same h] at taken) takable)
      · next front =>
        exact heldReleased_sent verdict (fun _ _ _ g _ front' _ => by rw [front] at front'; cases front')
  · have free : ∀ code x f, (s.unit u).escrow ≠ .held code x f := fun code x f h => held ⟨code, x, f, h⟩
    obtain ⟨eq, unit, verdict⟩ := releaseHeld_of_free free
    rw [eq]
    refine ⟨?_, by rw [verdict, List.append_nil], .refl s _, fun r j set => set, fun code x f _ h => absurd h (free code x f)⟩
    rw [unit]
    exact congrArg (fun units => { s.money with units := units }) (put_get s.money.units u).symm

/-- The other unit stands as it stood before, and so do the tests of its bills. -/
theorem HeldReleased.other {w : State} (h : HeldReleased s u w) : w.unit (1 - u) = s.unit (1 - u) ∧
    (∀ x, billTakable w (1 - u) x = billTakable s (1 - u) x) ∧ ∀ x, billPasses w (1 - u) x = billPasses s (1 - u) x := by
  have unit : w.unit (1 - u) = s.unit (1 - u) := by
    unfold State.unit
    rw [h.money]
    exact get_put_ne _ (other_ne u).symm _
  have fronts : w.sessions.fronts = s.sessions.fronts := by rw [h.frame.sessions]
  have box : (w.unit (1 - u)).boxIn = (s.unit (1 - u)).boxIn ∧ (w.unit (1 - u)).boxCount = (s.unit (1 - u)).boxCount ∧
      (w.unit (1 - u)).fullFlag = (s.unit (1 - u)).fullFlag := by
    rw [unit]
    exact ⟨rfl, rfl, rfl⟩
  exact ⟨unit, billTakable_congr (by rw [unit]) box fronts h.frame.store,
    billPasses_congr (by rw [unit]) box fronts h.frame.store (by rw [h.money])⟩

/-- What it is sent and comes to. -/
theorem HeldReleased.other_released {w : State} (h : HeldReleased s u w) :
    w.released (1 - u) = s.released (1 - u) ∧ w.verdict (1 - u) = s.verdict (1 - u) := by
  obtain ⟨unit, -, passes⟩ := h.other
  unfold State.released State.verdict
  rw [unit, h.frame.now]
  simp only [passes]
  exact ⟨trivial, trivial⟩

/-- What both releases come to, one after the other. -/
structure BothReleased (s v : State) : Prop where
  money : v.money = { s.money with units := v.money.units }
  units : ∀ u, v.unit u = s.released u
  sent : v.sent = s.sent ++ s.verdict 0 ++ s.verdict 1
  limit : ∀ (u : Fin 2) (code : Byte) (x : Nat) (f g : SessionHandle), (s.unit u).escrow = .held code x f →
    s.front (unitStation u) = some g → s.current g = true → billTakable s u x = true → billPasses s u x = false →
    (v.sessionSet g.record).bits.getLsbD 7 = true
  frame : s.ChangesOnly v [.link, .money, .sent, .conds]

theorem bothReleased (s : State) : BothReleased s ((s.releaseHeld 0).releaseHeld 1) := by
  have first := releaseHeld_released s 0
  have second := releaseHeld_released (s.releaseHeld 0) 1
  obtain ⟨unit, takable, passes⟩ := first.other
  obtain ⟨released, verdict⟩ := first.other_released
  generalize s.releaseHeld 0 = t at first second unit takable passes released verdict
  have sessions := first.frame.sessions
  have now (g : SessionHandle) : t.current g = s.current g := by
    unfold State.current
    rw [record_congr sessions]
  refine ⟨?_, ?_, ?_, ?_, first.frame.after second.frame (by decide)⟩
  · rw [second.money, first.money]
  · have kept : (t.releaseHeld 1).unit 0 = t.unit 0 := by
      unfold State.unit
      rw [second.money]
      exact get_put_ne _ (by decide) _
    have made : t.unit 0 = s.released 0 := by
      unfold State.unit
      rw [first.money]
      exact get_put_same _ _ _
    have last : (t.releaseHeld 1).unit 1 = s.released 1 := by
      unfold State.unit
      rw [second.money]
      exact (get_put_same _ _ _).trans released
    exact Fin.forall_fin_two.2 ⟨kept.trans made, last⟩
  · rw [second.sent, first.sent]
    exact congrArg _ verdict
  · refine Fin.forall_fin_two.2 ⟨fun code x f g held front current taken refused => ?_,
      fun code x f g held front current taken refused => ?_⟩
    · exact second.bits _ _ (first.limit code x f g held front current taken refused)
    · exact second.limit code x f g ((congrArg CashUnit.escrow unit).trans held)
        ((congrArg (fun y : Sessions => y.fronts.get (unitStation 1).index) sessions).trans front)
        ((now g).trans current) ((takable x).trans taken) ((passes x).trans refused)

end Sys2Proof.Machine

/-! The third error of the challenge (R117): the gates closed, CHALLENGE_FAIL and the lockout it may bring. -/

namespace Sys2Proof.Machine

variable {s t : State}

/-! ### The challenge under what closes gates and ends authorisations (R106, R117) -/

/-- The challenge and every kiosk bit but SPOOL_PRESSURE (K13), which follows the spool. -/
structure State.QuietKept (s t : State) : Prop where
  challenge : t.money.challenge = s.money.challenge
  bits : ∀ i : Fin 16, i ≠ 13 → t.conds.kiosk.bits.getLsbD i.val = s.conds.kiosk.bits.getLsbD i.val

namespace State.QuietKept

variable {v : State}

theorem refl (s : State) : s.QuietKept s := ⟨rfl, fun _ _ => rfl⟩

theorem trans (h : s.QuietKept t) (k : t.QuietKept v) : s.QuietKept v :=
  ⟨k.challenge.trans h.challenge, fun i hi => (k.bits i hi).trans (h.bits i hi)⟩

theorem of_blocks (money : t.money = s.money) (conds : t.conds = s.conds) : s.QuietKept t :=
  ⟨by rw [money], fun i _ => by rw [conds]⟩

theorem of_only {L : List Block} (h : s.ChangesOnly t L) (money : Block.money ∉ L := by decide)
    (conds : Block.conds ∉ L := by decide) : s.QuietKept t :=
  of_blocks (h.money money) (h.conds conds)

theorem refreshGate (s : State) (u : Fin 2) : s.QuietKept (s.refreshGate u) := by
  rw [refreshGate_eq]
  dsimp only
  split_ifs
  · exact ⟨rfl, fun _ _ => rfl⟩
  · exact refl s

theorem addCredit (s : State) (r : Fin 8) (x : Nat) : s.QuietKept (s.addCredit r x) :=
  have written : s.QuietKept (s.setAccount r { s.account r with credit := (s.account r).credit + x }) := ⟨rfl, fun _ _ => rfl⟩
  (written.trans (refreshGate _ 0)).trans (refreshGate _ 1)

theorem evalPressure (s : State) : s.QuietKept s.evalPressure := by
  refine ⟨by rw [(State.ChangesOnly.evalPressure_op s).money], fun i hi => ?_⟩
  have other : decide (i.val = (13 : Fin 16).val) = false := decide_eq_false (fun h => hi (Fin.ext h))
  unfold State.evalPressure
  rw [reportLevelQuiet_bits]
  split_ifs
  · rw [getLsbD_setBit, other, Bool.false_or]
  · rw [getLsbD_clearBit, decide_not, other, Bool.not_false, Bool.true_and]

theorem freeRaster (s : State) (h : OrderHandle) (l : Fin 16) : s.QuietKept (s.freeRaster h l) := by
  unfold State.freeRaster
  split
  · exact refl s
  · refine trans ?_ (evalPressure _)
    have answered := (State.ChangesOnly.refl s [.link]).each (s.spool.writes.filter (fun w => w.isOf h l))
      (fun t w => t.refuse w.tag .noRaster) (fun v w => State.ChangesOnly.refuse_op v _ _)
    have granted (t : State) (sp : Spool) : (t.setSpool sp).grantSpool.money = t.money ∧ (t.setSpool sp).grantSpool.conds = t.conds :=
      ⟨(State.ChangesOnly.grantSpool_op _).money, (State.ChangesOnly.grantSpool_op _).conds⟩
    exact of_blocks ((granted _ _).1.trans answered.money) ((granted _ _).2.trans answered.conds)

theorem cancelOrder (s : State) (h : OrderHandle) (o : Order) : s.QuietKept (s.cancelOrder h o) := by
  have freed : s.QuietKept (s.each o.used (fun t x => t.freeRaster h x.1)) :=
    each_keeps (P := s.QuietKept) (fun t x k => k.trans (freeRaster t h x.1)) (refl s) o.used
  have fallen (t : State) := (State.ChangesOnly.refl t [.catalogue]).each o.used (fun t x => t.refFalls x.2.image)
    (fun v x => State.ChangesOnly.refFalls_op v x.2.image)
  exact freed.trans ((of_only (fallen _)).trans ((of_only (State.ChangesOnly.clearUncommitted_op _ o.session h)).trans
    (of_only (State.ChangesOnly.setOrderRecord_op _ h.record _))))

theorem goIdle (s : State) (r : Fin 8) (slip : Option (Nat × BitVec 16)) : s.QuietKept (s.goIdle r slip) := by
  rw [goIdle_eq_idled]
  exact ⟨rfl, fun _ _ => rfl⟩

theorem settle (s : State) (r : Fin 8) : s.QuietKept (s.settle r) := by
  have slip (x : Option SessionHandle) (amount : Nat) (cause : SlipCause) : s.QuietKept (s.issueSlip x amount cause) :=
    ⟨rfl, fun _ _ => rfl⟩
  rw [settle_eq]
  dsimp only
  split_ifs
  · exact goIdle s r none
  · exact (slip _ _ _).trans (goIdle _ r _)
  · exact of_blocks rfl rfl
  · exact of_blocks rfl rfl

theorem closingExitOf (s : State) (h : Option SessionHandle) : s.QuietKept (s.closingExitOf h) := by
  cases h with
  | none => exact refl s
  | some h =>
    rw [closingExitOf_some]
    split_ifs
    · rw [leaveClosing_eq]
      dsimp only
      split_ifs
      · exact trans (of_blocks (by rfl) (by rfl)) (settle _ h.record)
      · exact of_blocks rfl rfl
    · exact refl s

theorem endUnapproved (s : State) (a : Auth) (cause : OrderCause) : s.QuietKept (s.endUnapproved a cause) := by
  unfold State.endUnapproved
  split
  · exact refl s
  · next o _ =>
    dsimp only
    have paid : s.QuietKept ((s.addCredit o.session.record o.paidCredit).touchHandle o.session) :=
      (addCredit s _ _).trans (of_only (State.ChangesOnly.touchHandle_op _ _))
    refine trans (paid.trans ?_) (closingExitOf _ (some o.session))
    split_ifs
    · exact (cancelOrder _ a.order o).trans (of_only (State.ChangesOnly.orderNotice_op _ _ _ _ _ _))
    · exact (of_only (State.ChangesOnly.setOrder_op _ _ _)).trans (of_only (State.ChangesOnly.orderNotice_op _ _ _ _ _ _))

end State.QuietKept

/-! ### Gates already closed -/

/-- Every gate CLOSED. -/
def State.Shut (s : State) : Prop := ∀ u, (s.unit u).gateOpen = false

theorem closeGate_of_shut (shut : s.Shut) (u : Fin 2) (cause : Option GateCause) : s.closeGate u cause = s := by
  rw [closeGate_cases, if_neg (by rw [shut u]; decide)]

theorem closeStationGate_of_shut (shut : s.Shut) (st : Option Station) (cause : Option GateCause) :
    s.closeStationGate st cause = s := by
  unfold State.closeStationGate
  split
  · exact closeGate_of_shut shut _ _
  · rfl

theorem closeGates_of_shut (shut : s.Shut) (cause : GateCause) : s.closeGates cause = s := by
  unfold State.closeGates
  rw [closeGate_of_shut shut, closeGate_of_shut shut]

theorem suspendFor_money_of_shut (shut : s.Shut) (r : Fin 8) (cause : SessionCause) (gate : GateCause) :
    (s.suspendFor r cause gate).money = s.money := by
  rw [suspendFor_eq]
  dsimp only
  split_ifs
  · refine (congrArg State.money (closeStationGate_of_shut ?_ _ _)).trans rfl
    exact shut
  · rfl

theorem suspendAll_money_of_shut (shut : s.Shut) (rs : List (Fin 8)) : (s.suspendAll rs).money = s.money :=
  each_keeps (P := fun t => t.money = s.money)
    (fun _ r kept => (suspendFor_money_of_shut (fun u => (congrArg CashUnit.gateOpen (unit_congr kept u)).trans (shut u)) r _ _).trans
      kept) rfl rs

/-- A lockout that finds every gate closed ends authorisations and suspends sessions alone. -/
theorem lockout_quiet (shut : s.Shut) : s.QuietKept s.lockout := by
  have suspended := suspendAll_money_of_shut (s := s.setConds { s.conds with inService := false }) shut (allFin 8)
  have closed := closeGates_of_shut (s := (s.setConds { s.conds with inService := false }).suspendAll (allFin 8))
    (fun u => (congrArg CashUnit.gateOpen (unit_congr suspended u)).trans (shut u)) .lockout
  have out : s.QuietKept s.lockedOut := by
    refine ⟨?_, fun i _ => by rw [lockedOut_conds]⟩
    unfold State.lockedOut
    rw [closed, suspended]
    rfl
  have locked : s.QuietKept s.lockedWith := by
    refine out.trans ?_
    unfold State.lockedWith
    exact ⟨rfl, fun _ _ => rfl⟩
  rw [lockout_eq_lockedWith]
  exact each_keeps (P := s.QuietKept) (fun t a kept => kept.trans (.endUnapproved t a .lockout)) locked _

/-! ### The gates closed together -/

theorem closeGate_challenge (s : State) (u : Fin 2) (cause : GateCause) : (s.closeGate u (some cause)).money.challenge =
    if (s.unit u).gateOpen = true then s.money.challenge.afterClose (s.unit (1 - u)).gateOpen else s.money.challenge := by
  rw [closeGate_cases]
  split_ifs
  · rw [gateShut_eq]
    rfl
  · rfl

/-- The challenge stops with the last gate and keeps its count. -/
theorem closeGates_challenge (s : State) (cause : GateCause) : (s.closeGates cause).money.challenge =
    if (s.unit 0).gateOpen = true ∨ (s.unit 1).gateOpen = true then { s.money.challenge with running := false, pending := false }
    else s.money.challenge := by
  have first : ((s.closeGate 0 (some cause)).unit 0).gateOpen = false := by
    rw [closeGate_gate]
    rfl
  have second : ((s.closeGate 0 (some cause)).unit 1).gateOpen = (s.unit 1).gateOpen := by
    rw [closeGate_gate]
    rfl
  unfold State.closeGates
  rw [closeGate_challenge, second, closeGate_challenge]
  have other : ((s.closeGate 0 (some cause)).unit (1 - 1)).gateOpen = false := first
  have next : (s.unit (1 - 0)).gateOpen = (s.unit 1).gateOpen := rfl
  rw [other, next]
  unfold Challenge.afterClose
  cases (s.unit 0).gateOpen <;> cases (s.unit 1).gateOpen <;> rfl

/-! ### CHALLENGE_FAIL raised (R117) -/

theorem resolveKiosk_cases (s : State) (lock : State → State) (g : Trigger) (i : Fin 16) : ∃ w, w.money = s.money ∧
    w.conds.kiosk.bits = s.conds.kiosk.bits ∧ State.resolveKiosk lock g s i =
      if s.kioskResolved i = .lockout ∧ s.conds.kiosk.recorded.get i ≠ .lockout then lock w else w := by
  refine ⟨_, ?_, ?_, resolveKiosk_eq s lock i g⟩
  · split_ifs <;> rfl
  · split_ifs <;> rfl

/-- What a raise comes to where every gate is closed. -/
theorem raiseKiosk_of_shut (shut : s.Shut) (i : Fin 16) (detail : List Byte) :
    (s.raiseKiosk i detail).money.challenge = s.money.challenge ∧ (s.raiseKiosk i detail).Shut ∧
    (∀ j : Fin 16, j ≠ 13 → (s.raiseKiosk i detail).conds.kiosk.bits.getLsbD j.val =
      (decide (j = i) || s.conds.kiosk.bits.getLsbD j.val)) := by
  have index (j : Fin 16) : decide (j = i) = decide (j.val = i.val) := decide_eq_decide.2 Fin.ext_iff
  rw [raiseKiosk_eq]
  split_ifs with set
  · refine ⟨rfl, shut, fun j _ => ?_⟩
    by_cases same : j = i
    · rw [same, set, Bool.or_true]
    · rw [decide_eq_false same, Bool.false_or]
  · obtain ⟨w, money, bits, eq⟩ := resolveKiosk_cases { s with conds := { s.conds with kiosk := { s.conds.kiosk with
      bits := setBit s.conds.kiosk.bits i } } } State.lockout (.raised detail) i
    have closed : w.Shut := fun u => (congrArg CashUnit.gateOpen (unit_congr money u)).trans (shut u)
    have now (j : Fin 16) : w.conds.kiosk.bits.getLsbD j.val = (decide (j = i) || s.conds.kiosk.bits.getLsbD j.val) := by
      rw [bits, index]
      exact getLsbD_setBit _ i j.val
    have challenge : w.money.challenge = s.money.challenge := congrArg Money.challenge money
    rw [eq]
    split_ifs
    · obtain ⟨-, gates, -⟩ := lockout_effects w
      have quiet := lockout_quiet closed
      exact ⟨quiet.challenge.trans challenge, gates, fun j hj => (quiet.bits j hj).trans (now j)⟩
    · exact ⟨challenge, closed, fun j _ => now j⟩

/-- CHALLENGE_FAIL locks out in customer mode, where its mask bit is set and its bit was clear. -/
theorem raiseKiosk_locksOut (customer : s.conds.mode = .customer) (mask : s.conds.kiosk.mask.getLsbD 12 = true)
    (clear : s.conds.kiosk.bits.getLsbD 12 = false) (unset : s.conds.kiosk.recorded.get 12 = .unset) (detail : List Byte) :
    (s.raiseKiosk 12 detail).conds.inService = false := by
  have resolved : State.kioskResolved { s with conds := { s.conds with kiosk := { s.conds.kiosk with
      bits := setBit s.conds.kiosk.bits 12 } } } 12 = .lockout := by
    have set : (setBit s.conds.kiosk.bits 12).getLsbD (12 : Fin 16).val = true := by
      rw [getLsbD_setBit]
      rfl
    unfold State.kioskResolved CondSet.resolved
    rw [if_neg (by rw [set]; decide), if_neg (by rw [show ((12 : Fin 16).val) = 12 from rfl, mask]; decide), customer]
    rfl
  rw [raiseKiosk_eq, if_neg (by rw [show ((12 : Fin 16).val) = 12 from rfl, clear]; decide)]
  obtain ⟨w, -, -, eq⟩ := resolveKiosk_cases { s with conds := { s.conds with kiosk := { s.conds.kiosk with
    bits := setBit s.conds.kiosk.bits 12 } } } State.lockout (.raised detail) 12
  rw [eq, if_pos ⟨resolved, fun recorded => absurd (unset.symm.trans recorded) (by decide)⟩]
  exact (lockout_effects w).1

/-! ### The errors of the challenge (R117) -/

theorem challengeError_of_ne (few : s.money.challenge.errors ≠ 2) :
    s.challengeError = s.setChallenge { s.money.challenge with errors := min 3 (s.money.challenge.errors + 1) } := by
  unfold State.challengeError
  exact if_neg few

/-- The gates close before the condition is raised (log 9). -/
theorem challengeError_of_two (two : s.money.challenge.errors = 2) : s.challengeError =
    ((s.setChallenge { s.money.challenge with errors := 3 }).closeGates .challengeFail).raiseKiosk 12 [] := by
  have three : min 3 (s.money.challenge.errors + 1) = 3 := by rw [two]; rfl
  have failed : s.challengeError = ((s.setChallenge { s.money.challenge with
      errors := min 3 (s.money.challenge.errors + 1) }).closeGates .challengeFail).raiseKiosk 12 [] := if_pos two
  rw [failed, three]

theorem challengeFailed (two : s.money.challenge.errors = 2) : ChallengeFailed s s.challengeError := by
  have frame := State.ChangesOnly.challengeError_op s
  have conds : ((s.setChallenge { s.money.challenge with errors := 3 }).closeGates .challengeFail).conds = s.conds :=
    (State.ChangesOnly.closeGates_op _ _).conds
  have challenge := closeGates_challenge (s.setChallenge { s.money.challenge with errors := 3 }) .challengeFail
  have shut : ((s.setChallenge { s.money.challenge with errors := 3 }).closeGates .challengeFail).Shut := closeGates_gate _ _
  rw [challengeError_of_two two] at frame ⊢
  generalize (s.setChallenge { s.money.challenge with errors := 3 }).closeGates .challengeFail = t at frame conds challenge shut ⊢
  obtain ⟨kept, gates, bits⟩ := raiseKiosk_of_shut shut 12 []
  refine ⟨?_, gates, fun opened => ?_, fun i hi => ?_, fun customer mask clear unset => ?_, frame.mono (by decide)⟩
  · rw [kept, challenge]
    split_ifs <;> rfl
  · rw [kept, challenge.trans (if_pos opened)]
    exact ⟨rfl, rfl⟩
  · rw [bits i hi, conds]
  · rw [← conds] at customer mask clear unset
    exact raiseKiosk_locksOut customer mask clear unset []

/-- The failure of a state that differs in the link and the challenge alone. -/
theorem challengeFailed_before {v : State} (failed : ChallengeFailed t v) (units : t.money.units = s.money.units)
    (frame : s.ChangesOnly t [.link, .money]) : ChallengeFailed s v := by
  have unit (u : Fin 2) : t.unit u = s.unit u := by
    unfold State.unit
    rw [units]
  have conds := frame.conds
  obtain ⟨errors, gates, stopped, bits, service, after⟩ := failed
  rw [conds] at bits service
  rw [unit, unit] at stopped
  exact ⟨errors, gates, stopped, bits, service, (frame.mono (by decide)).after after (by decide)⟩

/-! ### CHALLENGE_ANSWER and CHALLENGE_ISSUE -/

section Answer

variable {tag : Byte} {p : List Byte}

theorem challengeAnswer_answers (ho : s.Offers .challengeAnswer tag p) : exec (.challengeAnswer tag) s = .next (
    let c := s.money.challenge
    if c.pending = false then (s.holds tag).ok tag (le1 2 ++ le1 c.errors)
    else if p.getD 0 0 = c.token ∧ (p.getD 1 0).toNat + c.token.toNat = 255 then
      let v := (((s.setChallenge { c with pending := false, errors := c.errors - 1 }).holds tag).releaseHeld 0).releaseHeld 1
      v.ok tag (le1 0 ++ le1 v.money.challenge.errors)
    else
      let v := ((s.setChallenge { c with pending := false }).holds tag).challengeError
      v.ok tag (le1 1 ++ le1 v.money.challenge.errors)) := by
  have right : (p.getD 0 0 = s.money.challenge.token ∧ (p.getD 1 0).toNat = 255 - s.money.challenge.token.toNat) ↔
      (p.getD 0 0 = s.money.challenge.token ∧ (p.getD 1 0).toNat + s.money.challenge.token.toNat = 255) := by
    have token := s.money.challenge.token.isLt
    exact and_congr_right fun _ => ⟨fun _ => by omega, fun _ => by omega⟩
  have taking : exec (.challengeAnswer tag) s = .next ((s.holds tag).answerChallenge tag (p.getD 0 0) (p.getD 1 0)) :=
    congrArg Host.Outcome.next (ho.take _)
  rw [taking]
  refine congrArg Host.Outcome.next ?_
  unfold State.answerChallenge
  exact if_congr Iff.rfl rfl (if_congr right rfl rfl)

theorem challengeIssue_answers (s : State) : exec .challengeIssue s = .next (
    if s.money.challenge.running = false then s
    else if s.money.challenge.pending = true then (s.issueToken (nextToken s.money.challenge.token)).challengeError
    else s.issueToken (nextToken s.money.challenge.token)) := rfl

end Answer

/-- Settles O38: the answer by what is pending and what is right, the issue by what is pending, and the third error by what the
closed gates leave to a lockout. -/
theorem challengeIsAnsweredAndIssued : Obligations.ChallengeIsAnsweredAndIssued := by
  unfold Obligations.ChallengeIsAnsweredAndIssued
  refine ⟨fun s tag p ho => ⟨fun idle => ?_, fun pending right => ?_, fun pending wrong few => ?_, fun pending wrong two => ?_⟩,
    fun s => ⟨fun stopped => ?_, fun running few => ?_, fun running pending two => ?_⟩⟩
  · rw [challengeAnswer_answers ho]
    exact congrArg Host.Outcome.next ((if_pos idle).trans (ho.ok _))
  · rw [challengeAnswer_answers ho]
    dsimp only
    rw [if_neg (by rw [pending]; decide), if_pos right]
    have both := bothReleased ((s.setChallenge { s.money.challenge with pending := false, errors := s.money.challenge.errors - 1 }).holds tag)
    refine ⟨_, ?_, both.money, both.units, both.sent, both.limit, ?_⟩
    · rw [both.money]
      rfl
    · have before : s.ChangesOnly ((s.setChallenge { s.money.challenge with
          pending := false, errors := s.money.challenge.errors - 1 }).holds tag) [.link, .money, .sent, .conds] :=
        ((State.ChangesOnly.setChallenge_op s _).mono (by decide)).holds tag (by decide)
      exact before.after both.frame (by decide)
  · rw [challengeAnswer_answers ho]
    dsimp only
    rw [if_neg (by rw [pending]; decide), if_neg wrong, challengeError_of_ne (by exact few)]
    refine congrArg Host.Outcome.next ?_
    have offered : (s.setChallenge { s.money.challenge with pending := false, errors := min 3 (s.money.challenge.errors + 1) }).Offers
      .challengeAnswer tag p := ho
    exact offered.ok _
  · rw [challengeAnswer_answers ho]
    dsimp only
    rw [if_neg (by rw [pending]; decide), if_neg wrong]
    have failed := challengeFailed_before (s := s)
      (challengeFailed (s := (s.setChallenge { s.money.challenge with pending := false }).holds tag) two) rfl
      (((State.ChangesOnly.setChallenge_op s _).mono (by decide)).holds tag (by decide))
    exact ⟨_, by rw [failed.errors], failed⟩
  · rw [challengeIssue_answers]
    exact congrArg Host.Outcome.next (if_pos stopped)
  · rw [challengeIssue_answers, if_neg (by rw [running]; decide)]
    refine congrArg Host.Outcome.next ?_
    cases pending : s.money.challenge.pending with
    | false => rfl
    | true =>
      have two : (s.issueToken (nextToken s.money.challenge.token)).money.challenge.errors ≠ 2 :=
        few.resolve_left (by rw [pending]; decide)
      exact (challengeError_of_ne two).trans rfl
  · rw [challengeIssue_answers, if_neg (by rw [running]; decide), if_pos pending]
    exact ⟨_, rfl, challengeFailed_before (challengeFailed (s := s.issueToken _) two) rfl
      ((State.ChangesOnly.issueToken_op s _).mono (by decide))⟩

end Sys2Proof.Machine

/-! Money moves without loss (R125): each operation on the till, the credits and the orders by what it moves, and the events built of
them. -/

namespace Sys2Proof.Machine

variable {s t : State}

/-! ### The sums -/

/-- A sum over a table after one item was replaced. -/
theorem sum_put {α : Type} {n : Nat} (f : α → BitVec 32) (v : Vector α n) (i : Fin n) (x : α) :
    ((allFin n).map (fun j => f ((put v i x).get j))).sum = ((allFin n).map (fun j => f (v.get j))).sum - f (v.get i) + f x := by
  have sum (g : Fin n → BitVec 32) : ((allFin n).map g).sum = ∑ j, g j := (Fin.sum_univ_def g).symm
  have written : (fun j => f ((put v i x).get j)) = Function.update (fun j => f (v.get j)) i (f x) := by
    funext j
    rw [get_put_read, Function.update_apply]
    exact apply_ite f _ _ _
  rw [sum, sum, written, Finset.sum_update_of_mem (Finset.mem_univ i),
    ← Finset.add_sum_erase (Finset.univ) (fun j => f (v.get j)) (Finset.mem_univ i), Finset.sdiff_singleton_eq_erase]
  abel

/-- What the counters of the till hold of the money that came in. -/
def Till.balance (x : Till) : BitVec 32 :=
  x.cashIn + x.cardIn - x.earned - x.slipsIssued - x.cardRefundsIssued - x.overage

/-- The money an order record holds. -/
def OrderRecord.money (x : OrderRecord) : BitVec 32 :=
  match x.body with
  | some o => orderMoney o
  | none => 0

/-- The sum of the credits. -/
def credits (v : Vector Account 8) : BitVec 32 := ((allFin 8).map (fun r => BitVec.ofNat 32 (v.get r).credit)).sum

/-- The sum of the orders' money. -/
def ordersMoney (v : Vector OrderRecord 16) : BitVec 32 := ((allFin 16).map (fun k => (v.get k).money)).sum

theorem unaccounted_eq (s : State) :
    unaccounted s = s.money.till.balance - credits s.money.accounts - ordersMoney s.orders.records := by
  have written : unaccounted s = s.money.till.cashIn + s.money.till.cardIn - credits s.money.accounts - ordersMoney s.orders.records -
      s.money.till.earned - s.money.till.slipsIssued - s.money.till.cardRefundsIssued - s.money.till.overage := rfl
  rw [written, Till.balance]
  abel

theorem credits_put (v : Vector Account 8) (r : Fin 8) (x : Account) :
    credits (put v r x) = credits v - BitVec.ofNat 32 (v.get r).credit + BitVec.ofNat 32 x.credit :=
  sum_put (fun a : Account => BitVec.ofNat 32 a.credit) v r x

theorem ordersMoney_put (v : Vector OrderRecord 16) (k : Fin 16) (x : OrderRecord) :
    ordersMoney (put v k x) = ordersMoney v - (v.get k).money + x.money :=
  sum_put OrderRecord.money v k x

/-! ### The operations (R94, R97, R125) -/

theorem unaccounted_congr (till : t.money.till = s.money.till) (accounts : t.money.accounts = s.money.accounts)
    (orders : t.orders = s.orders) : unaccounted t = unaccounted s := by
  rw [unaccounted_eq, unaccounted_eq, till, accounts, orders]

/-- What writes neither the money nor the orders. -/
theorem unaccounted_of_only {L : List Block} (h : s.ChangesOnly t L) (money : Block.money ∉ L := by decide)
    (orders : Block.orders ∉ L := by decide) : unaccounted t = unaccounted s :=
  unaccounted_congr (by rw [h.money money]) (by rw [h.money money]) (h.orders orders)

theorem unaccounted_of_till (accounts : t.money.accounts = s.money.accounts) (orders : t.orders = s.orders) :
    unaccounted t = unaccounted s + (t.money.till.balance - s.money.till.balance) := by
  rw [unaccounted_eq, unaccounted_eq, accounts, orders]
  abel

theorem unaccounted_setTill (s : State) (x : Till) :
    unaccounted (s.setTill x) = unaccounted s + (x.balance - s.money.till.balance) :=
  unaccounted_of_till rfl rfl

theorem unaccounted_setAccount (s : State) (r : Fin 8) (x : Account) : unaccounted (s.setAccount r x) =
    unaccounted s + BitVec.ofNat 32 (s.account r).credit - BitVec.ofNat 32 x.credit := by
  have accounts : (s.setAccount r x).money.accounts = put s.money.accounts r x := rfl
  rw [unaccounted_eq, unaccounted_eq, accounts, credits_put]
  unfold State.account
  simp only [State.setAccount, State.setMoney]
  abel

theorem unaccounted_setOrderRecord (s : State) (k : Fin 16) (x : OrderRecord) :
    unaccounted (s.setOrderRecord k x) = unaccounted s + (s.orderRecord k).money - x.money := by
  have orders : (s.setOrderRecord k x).orders.records = put s.orders.records k x := rfl
  rw [unaccounted_eq, unaccounted_eq, orders, ordersMoney_put]
  unfold State.orderRecord
  simp only [State.setOrderRecord, State.setOrders]
  abel

theorem unaccounted_setOrder (s : State) (k : Fin 16) (o : Order) :
    unaccounted (s.setOrder k o) = unaccounted s + (s.orderRecord k).money - orderMoney o :=
  unaccounted_setOrderRecord s k _

theorem unaccounted_tillCashIn (s : State) (v : Nat) : unaccounted (s.tillCashIn v) = unaccounted s + BitVec.ofNat 32 v := by
  rw [State.tillCashIn, unaccounted_setTill]
  simp only [Till.balance, amount32]
  abel

theorem unaccounted_tillCardIn (s : State) (v : Nat) : unaccounted (s.tillCardIn v) = unaccounted s + BitVec.ofNat 32 v := by
  rw [State.tillCardIn, unaccounted_setTill]
  simp only [Till.balance, amount32]
  abel

theorem unaccounted_tillEarned (s : State) (v : Nat) : unaccounted (s.tillEarned v) = unaccounted s - BitVec.ofNat 32 v := by
  rw [State.tillEarned, unaccounted_setTill]
  simp only [Till.balance, amount32]
  abel

theorem unaccounted_tillOverage (s : State) (v : Nat) : unaccounted (s.tillOverage v) = unaccounted s := by
  rw [State.tillOverage, unaccounted_setTill]
  simp only [Till.balance, amount32]
  abel

theorem unaccounted_issueSlip (s : State) (h : Option SessionHandle) (amount : Nat) (cause : SlipCause) :
    unaccounted (s.issueSlip h amount cause) = unaccounted s - BitVec.ofNat 32 amount := by
  have till : (s.issueSlip h amount cause).money.till.balance =
      { s.money.till with slipsIssued := s.money.till.slipsIssued + amount32 amount }.balance := rfl
  rw [unaccounted_of_till (s := s) (t := s.issueSlip h amount cause) rfl rfl, till]
  simp only [Till.balance, amount32]
  abel

theorem unaccounted_makeRefund (s : State) (x : CardRefund) :
    unaccounted (s.makeRefund x) = unaccounted s - BitVec.ofNat 32 x.amount := by
  have till : (s.makeRefund x).money.till.balance = s.money.till.balance - BitVec.ofNat 32 x.amount := by
    rw [makeRefund_eq]
    simp only [State.notify, State.setLink]
    split_ifs
    · simp only [Till.balance]
      abel
    · simp only [Till.balance]
      abel
  rw [unaccounted_of_till (t := s.makeRefund x) (by rw [makeRefund_eq]; rfl) (State.ChangesOnly.makeRefund_op s x).orders, till]
  abel

/-! ### The credit of a session, its settlement (R29, R30) -/

theorem unaccounted_refreshGate (s : State) (u : Fin 2) : unaccounted (s.refreshGate u) = unaccounted s := by
  rw [refreshGate_eq]
  dsimp only
  split_ifs
  · exact unaccounted_congr rfl rfl rfl
  · rfl

theorem unaccounted_refreshGates (s : State) : unaccounted s.refreshGates = unaccounted s :=
  (unaccounted_refreshGate _ 1).trans (unaccounted_refreshGate _ 0)

theorem unaccounted_setCredit (s : State) (r : Fin 8) (c : Nat) : unaccounted (s.setCredit r c) =
    unaccounted s + BitVec.ofNat 32 (s.account r).credit - BitVec.ofNat 32 c := by
  unfold State.setCredit
  rw [unaccounted_refreshGates, unaccounted_setAccount]

theorem unaccounted_addCredit (s : State) (r : Fin 8) (v : Nat) :
    unaccounted (s.addCredit r v) = unaccounted s - BitVec.ofNat 32 v := by
  unfold State.addCredit
  rw [unaccounted_setCredit, BitVec.ofNat_add]
  abel

theorem unaccounted_goIdle (s : State) (r : Fin 8) (slip : Option (Nat × BitVec 16)) :
    unaccounted (s.goIdle r slip) = unaccounted s + BitVec.ofNat 32 (s.account r).credit := by
  have emptied := unaccounted_setAccount s r { s.account r with credit := 0 }
  rw [goIdle_eq_idled]
  refine (unaccounted_congr ?_ ?_ ?_).trans (emptied.trans (sub_zero _)) <;> rfl

theorem unaccounted_slipAndIdle (s : State) (r : Fin 8) : unaccounted (s.slipAndIdle r) = unaccounted s := by
  unfold State.slipAndIdle
  dsimp only
  rw [unaccounted_goIdle, unaccounted_issueSlip]
  exact sub_add_cancel _ _

theorem unaccounted_settle (s : State) (r : Fin 8) : unaccounted (s.settle r) = unaccounted s := by
  rw [settle_eq]
  dsimp only
  split_ifs with broke
  · rw [unaccounted_goIdle, broke]
    exact add_zero _
  · exact unaccounted_slipAndIdle s r
  · exact unaccounted_congr rfl rfl rfl
  · exact unaccounted_congr rfl rfl rfl

theorem unaccounted_settleHead (s : State) : unaccounted s.settleHead = unaccounted s := by
  cases queue : s.sessions.settling with
  | nil => rw [settleHead_of_nil queue]
  | cons r rest =>
    rw [settleHead_of_cons queue, unaccounted_slipAndIdle]
    exact unaccounted_congr rfl rfl rfl

theorem unaccounted_leaveClosing (s : State) (r : Fin 8) : unaccounted (s.leaveClosing r) = unaccounted s := by
  rw [leaveClosing_eq]
  dsimp only
  split_ifs
  · refine (unaccounted_settle _ r).trans (unaccounted_congr ?_ ?_ ?_) <;> rfl
  · exact unaccounted_congr rfl rfl rfl

theorem unaccounted_closingExitOf (s : State) (h : Option SessionHandle) : unaccounted (s.closingExitOf h) = unaccounted s := by
  cases h with
  | none => rfl
  | some h =>
    rw [closingExitOf_some]
    split_ifs
    · exact unaccounted_leaveClosing s h.record
    · rfl

theorem unaccounted_orderLeft (s : State) (x : SessionHandle) (h : OrderHandle) (earned refunded : Nat) :
    unaccounted (s.orderLeft x h earned refunded) = unaccounted s := by
  rw [orderLeft_eq]
  dsimp only
  split_ifs
  · rfl
  · exact (unaccounted_settle _ _).trans (unaccounted_of_only (State.ChangesOnly.setRecord_op s _ _))
  · exact unaccounted_of_only (State.ChangesOnly.setRecord_op s _ _)

/-! ### Cash (R108, R111 to R114) -/

theorem unaccounted_cashIn (s : State) (u : Fin 2) (h : SessionHandle) (kind v : Nat) :
    unaccounted (cashIn s u h kind v) = unaccounted s := by
  let a := s.account h.record
  have credited : unaccounted ((s.tillCashIn v).setAccount h.record { a with credit := a.credit + v, cashPaid := a.cashPaid + v }) =
      unaccounted s := by
    have before : (s.tillCashIn v).account h.record = a := rfl
    rw [unaccounted_setAccount, unaccounted_tillCashIn, before, BitVec.ofNat_add]
    abel
  have touched (t : State) (payload : List Byte) : unaccounted ((t.touch h.record).notify 0xC6 payload) = unaccounted t :=
    (unaccounted_of_only (State.ChangesOnly.notify_op _ _ _)).trans (unaccounted_of_only (State.ChangesOnly.touch_op _ _))
  unfold cashIn
  rw [unaccounted_refreshGates, touched]
  exact credited

theorem unaccounted_setUnit (s : State) (u : Fin 2) (x : CashUnit) : unaccounted (s.setUnit u x) = unaccounted s :=
  unaccounted_congr rfl rfl rfl

theorem unaccounted_send (s : State) (x : Sent) : unaccounted (s.send x) = unaccounted s := unaccounted_congr rfl rfl rfl

theorem unaccounted_giveBackHeld (s : State) (u : Fin 2) : unaccounted (s.giveBackHeld u) = unaccounted s := by
  unfold State.giveBackHeld
  split
  · exact (unaccounted_send _ _).trans (unaccounted_setUnit s u _)
  · rfl

theorem unaccounted_closeGate (s : State) (u : Fin 2) (cause : GateCause) : unaccounted (s.closeGate u (some cause)) = unaccounted s := by
  rw [closeGate_cases]
  split_ifs
  · rw [gateShut_eq]
    exact unaccounted_congr rfl rfl rfl
  · rfl

theorem unaccounted_jamUnit (s : State) (u : Fin 2) (cause : Nat) : unaccounted (s.jamUnit u cause) = unaccounted s := by
  rw [jamUnit_eq, unaccounted_closingExitOf]
  unfold State.jammed State.jamBack State.jamRaised
  rw [unaccounted_setUnit, unaccounted_giveBackHeld, unaccounted_closeGate,
    unaccounted_of_only (State.ChangesOnly.raiseKioskQuiet_op _ _ _), unaccounted_setUnit]

theorem unaccounted_endEscrow (s : State) (u : Fin 2) : unaccounted (s.endEscrow u) = unaccounted s := by
  rw [endEscrow_eq, unaccounted_closingExitOf, unaccounted_setUnit]

theorem unaccounted_returnBill (s : State) (u : Fin 2) (code : Byte) (v : Nat) (h : Option SessionHandle) :
    unaccounted (s.returnBill u code v h) = unaccounted s :=
  (unaccounted_send _ _).trans (unaccounted_setUnit s u _)

theorem unaccounted_billHeld (s : State) (u : Fin 2) (code : Byte) : unaccounted (s.billHeld u code) = unaccounted s := by
  unfold State.billHeld
  dsimp only
  split
  · exact unaccounted_setUnit s u _
  · exact (unaccounted_of_only (raiseSession_quiet _ _ (by decide) _)).trans (unaccounted_returnBill s u _ _ _)
  · exact unaccounted_returnBill s u _ _ _

theorem unaccounted_lateStacked (s : State) (u : Fin 2) (x : LateStack) : unaccounted (s.lateStacked u x) = unaccounted s := by
  have without := unaccounted_setUnit s u { s.unit u with late := none }
  unfold State.lateStacked
  dsimp only
  split
  · next h _ =>
    rw [creditCash_eq, unaccounted_cashIn, without]
  · split_ifs
    · rw [unaccounted_issueSlip, unaccounted_tillCashIn, without]
      exact add_sub_cancel_right _ _
    · rw [unaccounted_tillOverage, without]

theorem unaccounted_stackedBill (s : State) (u : Fin 2) : unaccounted (s.stackedBill u) = unaccounted s := by
  unfold State.stackedBill
  split
  · rw [unaccounted_endEscrow, creditCash_eq, unaccounted_cashIn]
  · rw [unaccounted_endEscrow, unaccounted_tillOverage]
  · rw [unaccounted_endEscrow, unaccounted_tillOverage]
  · split
    · exact unaccounted_lateStacked s u _
    · rfl

/-! ### The events of the cash units and the takings of the logs -/

theorem unaccounted_heard {act : State → State} (kept : unaccounted (act s) = unaccounted s) :
    unaccounted (s.heard act) = unaccounted s := by
  unfold State.heard
  split_ifs
  · rfl
  · exact kept

theorem unaccounted_unitMessage {act : State → State} (kept : ∀ t, unaccounted (act t) = unaccounted t) (s : State) (u : Fin 2) :
    unaccounted (s.unitMessage u act) = unaccounted s := by
  refine unaccounted_heard ?_
  split_ifs
  · exact (kept _).trans (unaccounted_setUnit s u _)
  · rfl

theorem unaccounted_reply (s : State) (tag : Byte) (e : Status) (fields : List Byte) :
    unaccounted (s.replyWith tag e fields) = unaccounted s := unaccounted_congr rfl rfl rfl

theorem unaccounted_take {act : State → List Byte → State} (kept : ∀ t p, unaccounted (act t p) = unaccounted t) (s : State)
    (c : RequestCode) (tag : Byte) : unaccounted (s.take c tag act) = unaccounted s := by
  have taken : unaccounted (s.setLink (s.link.markTaken tag)) = unaccounted s := unaccounted_congr rfl rfl rfl
  unfold State.take
  split
  · rfl
  · split
    · rfl
    · dsimp only
      split_ifs
      · exact (unaccounted_reply _ tag .standby []).trans taken
      · exact (kept _ _).trans taken
      · rfl

theorem unaccounted_evalBox (s : State) (u : Fin 2) : unaccounted (s.evalBox u) = unaccounted s :=
  unaccounted_of_only (State.ChangesOnly.evalBox_op s u)

/-- A box changed: the unit's record, the sets of its gate and the level. -/
theorem unaccounted_box (s : State) (u : Fin 2) (x : CashUnit) :
    unaccounted (((s.setUnit u x).refreshGate u).evalBox u) = unaccounted s := by
  rw [unaccounted_evalBox, unaccounted_refreshGate, unaccounted_setUnit]

theorem unaccounted_coin (s : State) (u : Fin 2) (code : Byte) : ∃ t, exec (.coin u code) s = .next t ∧ unaccounted t = unaccounted s := by
  refine ⟨_, rfl, unaccounted_unitMessage (fun t => ?_) s u⟩
  have counted := unaccounted_setUnit t u { t.unit u with coins := (t.unit u).coins + 1 }
  dsimp only
  split_ifs
  · exact counted
  · split
    · rw [creditCash_eq, unaccounted_cashIn, counted]
    · rw [unaccounted_tillOverage, counted]

theorem unaccounted_bill (s : State) (u : Fin 2) (code : Byte) :
    ∃ t, exec (.billHeld u code) s = .next t ∧ unaccounted t = unaccounted s := by
  refine ⟨_, rfl, unaccounted_unitMessage (fun t => ?_) s u⟩
  have touched : unaccounted (match t.front (unitStation u) with | some h => t.touch h.record | none => t) = unaccounted t := by
    split
    · exact unaccounted_of_only (State.ChangesOnly.touch_op t _)
    · rfl
  dsimp only
  split_ifs
  · exact (unaccounted_billHeld _ u code).trans touched
  · exact (unaccounted_send _ _).trans ((unaccounted_jamUnit _ u 3).trans touched)

theorem unaccounted_stacked (s : State) (u : Fin 2) : ∃ t, exec (.billStacked u) s = .next t ∧ unaccounted t = unaccounted s := by
  refine ⟨_, rfl, unaccounted_unitMessage (fun t => ?_) s u⟩
  dsimp only
  rw [unaccounted_evalBox, unaccounted_refreshGate, unaccounted_stackedBill, unaccounted_setUnit]

theorem unaccounted_returned (s : State) (u : Fin 2) : ∃ t, exec (.billReturned u) s = .next t ∧ unaccounted t = unaccounted s := by
  refine ⟨_, rfl, unaccounted_unitMessage (fun t => ?_) s u⟩
  split_ifs
  · rfl
  · exact unaccounted_endEscrow t u

theorem unaccounted_silence (s : State) (u : Fin 2) : ∃ t, exec (.cashUnitSilence u) s = .next t ∧ unaccounted t = unaccounted s := by
  refine ⟨_, rfl, unaccounted_heard ?_⟩
  dsimp only
  split_ifs
  · exact (unaccounted_jamUnit _ u 1).trans (unaccounted_setUnit s u _)
  · rfl

theorem unaccounted_escrowTimeout (s : State) (u : Fin 2) :
    ∃ t, exec (.escrowTimeout u) s = .next t ∧ unaccounted t = unaccounted s := by
  refine ⟨_, rfl, unaccounted_heard ?_⟩
  split
  · exact unaccounted_jamUnit s u 2
  · exact unaccounted_jamUnit s u 2
  · rfl

theorem unaccounted_slipTake (s : State) (tag : Byte) : ∃ t, exec (.slipTake tag) s = .next t ∧ unaccounted t = unaccounted s := by
  refine ⟨_, rfl, unaccounted_take (fun t p => ?_) s _ tag⟩
  split
  · exact unaccounted_reply t tag _ _
  · exact (unaccounted_reply _ tag _ _).trans ((unaccounted_settleHead _).trans (unaccounted_congr rfl rfl rfl))

theorem unaccounted_refundTake (s : State) (tag : Byte) : ∃ t, exec (.refundTake tag) s = .next t ∧ unaccounted t = unaccounted s := by
  refine ⟨_, rfl, unaccounted_take (fun t p => ?_) s _ tag⟩
  split
  · exact unaccounted_reply t tag _ _
  · exact (unaccounted_reply _ tag _ _).trans (unaccounted_congr rfl rfl rfl)

/-- All of them. -/
theorem unaccounted_cashEvents (s : State) (u : Fin 2) (code tag : Byte) :
    ∀ c ∈ [Instr.coin u code, .billHeld u code, .billStacked u, .billReturned u, .jam u, .boxFull u, .boxOut u, .boxIn u,
      .cashHeartbeat u, .cashUnitSilence u, .escrowTimeout u, .slipTake tag, .refundTake tag],
    ∃ t, exec c s = .next t ∧ unaccounted t = unaccounted s := by
  simp only [List.forall_mem_cons, List.not_mem_nil, false_imp_iff, implies_true, and_true]
  exact ⟨unaccounted_coin s u code, unaccounted_bill s u code, unaccounted_stacked s u, unaccounted_returned s u,
    ⟨_, rfl, unaccounted_unitMessage (fun t => unaccounted_jamUnit t u 0) s u⟩,
    ⟨_, rfl, unaccounted_unitMessage (fun t => unaccounted_box t u _) s u⟩,
    ⟨_, rfl, unaccounted_unitMessage (fun t => (unaccounted_refreshGate _ u).trans (unaccounted_setUnit t u _)) s u⟩,
    ⟨_, rfl, unaccounted_unitMessage (fun t => unaccounted_box t u _) s u⟩,
    ⟨_, rfl, unaccounted_unitMessage (fun _ => rfl) s u⟩,
    unaccounted_silence s u, unaccounted_escrowTimeout s u, unaccounted_slipTake s tag, unaccounted_refundTake s tag⟩

end Sys2Proof.Machine

/-! Money moves without loss (R125): the start, and the orders by their events. -/

namespace Sys2Proof.Machine

variable {s t : State} {h : OrderHandle} {o : Order}

/-! ### Where nothing has moved -/

theorem unaccounted_zero (till : s.money.till = Till.zero) (credit : ∀ r, (s.account r).credit = 0)
    (orders : ∀ k o, (s.orderRecord k).body = some o → o.state ∉ [.authorising, .committed]) : unaccounted s = 0 := by
  have noCredit : credits s.money.accounts = 0 := by
    refine List.sum_eq_zero (fun x hx => ?_)
    obtain ⟨r, -, rfl⟩ := List.mem_map.1 hx
    exact congrArg (BitVec.ofNat 32) (credit r)
  have noOrder : ordersMoney s.orders.records = 0 := by
    refine List.sum_eq_zero (fun x hx => ?_)
    obtain ⟨k, -, rfl⟩ := List.mem_map.1 hx
    unfold OrderRecord.money
    split
    · next o body => exact if_neg (orders k o body)
    · rfl
  rw [unaccounted_eq, till, noCredit, noOrder]
  rfl

/-! ### The money of an order -/

/-- The record of an order in use holds the order's money. -/
theorem orderRecord_money (used : s.order? h = some o) : (s.orderRecord h.record).money = orderMoney o := by
  unfold State.order? at used
  split_ifs at used
  unfold OrderRecord.money
  rw [used]

theorem order?_of_orders (orders : t.orders = s.orders) (used : s.order? h = some o) : t.order? h = some o := by
  unfold State.order?
  rw [orderRecord_congr orders]
  exact used

theorem orderMoney_quoted (quoted : o.state = .quoted) : orderMoney o = 0 := by
  unfold orderMoney
  rw [quoted]
  rfl

theorem orderMoney_authorising (authorising : o.state = .authorising) (card : o.paidCard = 0) (refunded : o.refunded = 0) :
    orderMoney o = BitVec.ofNat 32 o.paidCredit := by
  unfold orderMoney
  rw [authorising, card, refunded]
  exact sub_zero _

theorem orderMoney_of_committed (committed : o.state = .committed) :
    orderMoney o = BitVec.ofNat 32 (o.paidCredit + o.paidCard) - BitVec.ofNat 32 o.refunded := by
  unfold orderMoney
  rw [committed]
  rfl

/-- An order just committed holds what was paid. -/
theorem orderMoney_committed (o : Order) (card : Nat) : orderMoney (o.committed card) = BitVec.ofNat 32 (o.paidCredit + card) :=
  (orderMoney_of_committed rfl).trans (sub_zero _)

/-- An order in use replaced. -/
theorem unaccounted_moved (used : s.order? h = some o) (o' : Order) :
    unaccounted (s.setOrder h.record o') = unaccounted s + orderMoney o - orderMoney o' := by
  rw [unaccounted_setOrder, orderRecord_money used]

/-- An order in use ended. -/
theorem unaccounted_freed (used : s.order? h = some o) :
    unaccounted (s.setOrderRecord h.record { gen := h.gen, body := none }) = unaccounted s + orderMoney o := by
  rw [unaccounted_setOrderRecord, orderRecord_money used]
  exact sub_zero _

/-! ### The events of an order (R87 to R97) -/

theorem unaccounted_commitOrder (used : s.order? h = some o) (o' : Order) (card : Nat) :
    unaccounted (s.commitOrder h o' card) = unaccounted s + orderMoney o - BitVec.ofNat 32 (o'.paidCredit + card) := by
  have money := (State.ChangesOnly.commitOrder_op s h o' card).money
  rw [unaccounted_congr (s := s.setOrder h.record (o'.committed card)) (by rw [money]; rfl) (by rw [money]; rfl)
    (commitOrder_orders s h o' card), unaccounted_moved used, orderMoney_committed]

theorem unaccounted_cancelOrder (used : s.order? h = some o) : unaccounted (s.cancelOrder h o) = unaccounted s + orderMoney o := by
  have cleared := State.ChangesOnly.clearUncommitted_op (s.linesReleased h o) o.session h
  have released := linesReleased_op s h o
  rw [cancelOrder_released, unaccounted_freed (order?_of_orders (cleared.orders.trans released.orders) used),
    unaccounted_of_only cleared, unaccounted_of_only released]

/-- The paid credit of a quoted order set aside. -/
theorem unaccounted_setAside {r : Fin 8} {c : Nat} (enough : c ≤ (s.account r).credit) :
    unaccounted (s.setCredit r ((s.account r).credit - c)) = unaccounted s + BitVec.ofNat 32 c := by
  have parts : BitVec.ofNat 32 (s.account r).credit = BitVec.ofNat 32 ((s.account r).credit - c) + BitVec.ofNat 32 c := by
    rw [← BitVec.ofNat_add, Nat.sub_add_cancel enough]
  rw [unaccounted_setCredit, parts]
  abel

theorem unaccounted_endUnapproved (used : s.order? h = some o) (authorising : o.state = .authorising) (card : o.paidCard = 0)
    (refunded : o.refunded = 0) {a : Auth} (named : a.order = h) (cause : OrderCause) :
    unaccounted (s.endUnapproved a cause) = unaccounted s := by
  subst named
  have paid : unaccounted ((s.addCredit o.session.record o.paidCredit).touchHandle o.session) =
      unaccounted s - BitVec.ofNat 32 o.paidCredit := by
    rw [unaccounted_of_only (State.ChangesOnly.touchHandle_op _ _), unaccounted_addCredit]
  have still : ((s.addCredit o.session.record o.paidCredit).touchHandle o.session).order? a.order = some o :=
    order?_of_orders ((State.ChangesOnly.touchHandle_op _ _).orders.trans (State.ChangesOnly.addCredit_op _ _ _).orders) used
  have money := orderMoney_authorising authorising card refunded
  rw [endUnapproved_eq, used]
  dsimp only
  rw [unaccounted_closingExitOf]
  split_ifs
  · rw [unaccounted_of_only (State.ChangesOnly.notify_op _ _ _), unaccounted_cancelOrder still, paid, money]
    exact sub_add_cancel _ _
  · rw [unaccounted_of_only (State.ChangesOnly.notify_op _ _ _), unaccounted_moved still, paid, money, orderMoney_quoted rfl]
    abel

/-- What is refunded splits into a credit part and a card part. -/
theorem refund_parts (o : Order) (base : Nat) : ∃ credit card : Nat, (o.refund base).2 = (credit + card, credit, card) ∧
    (o.refund base).1.state = o.state ∧ (o.refund base).1.paidCredit = o.paidCredit ∧ (o.refund base).1.paidCard = o.paidCard ∧
    (o.refund base).1.refunded = o.refunded + (credit + card) := by
  unfold Order.refund
  dsimp only
  have split (inc left : Nat) : inc = min inc left + (inc - min inc left) := by omega
  refine ⟨_, _, Prod.ext (split _ _) rfl, rfl, rfl, rfl, ?_⟩
  rw [← split]

theorem unaccounted_refundCopies (used : s.order? h = some o) (committed : o.state = .committed) (base : Nat) :
    unaccounted (s.refundCopies h o base).1 = unaccounted s := by
  obtain ⟨credit, card, amounts, state, paidCredit, paidCard, refunded⟩ := refund_parts o base
  have moved : orderMoney (o.refund base).1 = orderMoney o - BitVec.ofNat 32 credit - BitVec.ofNat 32 card := by
    rw [orderMoney_of_committed (state.trans committed), orderMoney_of_committed committed, paidCredit, paidCard, refunded]
    simp only [BitVec.ofNat_add]
    abel
  have credited : unaccounted ((s.setOrder h.record (o.refund base).1).addCredit o.session.record credit) =
      unaccounted s + BitVec.ofNat 32 card := by
    rw [unaccounted_addCredit, unaccounted_moved used, moved]
    abel
  have copies : (s.refundCopies h o base).1 = (
      let v := (s.setOrder h.record (o.refund base).1).addCredit o.session.record (o.refund base).2.2.1
      if 0 < (o.refund base).2.2.2 then v.makeRefund { session := some o.session, order := some h, ref := o.termRef.getD 0
                                                       amount := (o.refund base).2.2.2, cause := .refund } else v) := rfl
  rw [copies, amounts]
  dsimp only
  split_ifs with due
  · rw [unaccounted_makeRefund, credited]
    exact add_sub_cancel_right _ _
  · obtain rfl : card = 0 := by omega
    exact credited.trans (add_zero _)

theorem unaccounted_finishOrder (used : s.order? h = some o) (committed : o.state = .committed)
    (collected : o.collected = o.paidCredit + o.paidCard) (within : o.refunded ≤ o.collected) :
    unaccounted (s.finishOrder h o) = unaccounted s := by
  have money : orderMoney o = BitVec.ofNat 32 (o.collected - o.refunded) := by
    have parts : BitVec.ofNat 32 o.collected = BitVec.ofNat 32 (o.collected - o.refunded) + BitVec.ofNat 32 o.refunded := by
      rw [← BitVec.ofNat_add, Nat.sub_add_cancel within]
    rw [orderMoney_of_committed committed, ← collected, parts]
    exact add_sub_cancel_right _ _
  have notice (fields : List Byte) := State.ChangesOnly.orderNotice_op (s.tillEarned (o.collected - o.refunded)) h o.session
    finishedCode .finished fields
  unfold State.finishOrder
  dsimp only
  rw [unaccounted_freed (order?_of_orders ((State.ChangesOnly.orderLeft_op _ _ _ _ _).orders.trans (notice _).orders) used),
    unaccounted_orderLeft, unaccounted_of_only (notice _), unaccounted_tillEarned, money]
  exact sub_add_cancel _ _

/-- Settles O45: the sum of R125 under each operation, and from these under each event. -/
theorem moneyMovesWithoutLoss : Obligations.MoneyMovesWithoutLoss := by
  unfold Obligations.MoneyMovesWithoutLoss
  refine ⟨fun s => unaccounted_zero, fun s t u code tag c hc next => ?_, unaccounted_settle, unaccounted_closingExitOf, fun s x => ?_,
    fun s h o used => ⟨fun quoted c ref enough => ?_, fun authorising card refunded => ⟨fun amount => ?_, fun a cause named => ?_⟩,
      fun committed => ⟨unaccounted_refundCopies used committed, unaccounted_finishOrder used committed⟩⟩⟩
  · obtain ⟨w, eq, kept⟩ := unaccounted_cashEvents s u code tag c hc
    rw [eq] at next
    cases next
    exact kept
  · rw [unaccounted_makeRefund, unaccounted_tillCardIn]
    exact add_sub_cancel_right _ _
  · have still : (s.setCredit o.session.record ((s.account o.session.record).credit - c)).order? h = some o :=
      order?_of_orders (State.ChangesOnly.setCredit_op _ _ _).orders used
    have free := orderMoney_quoted quoted
    refine ⟨?_, fun card refunded => ?_⟩
    · rw [unaccounted_commitOrder still, unaccounted_setAside enough, free]
      exact (congrArg (· - _) (add_zero _)).trans (add_sub_cancel_right _ _)
    · have held : orderMoney { o with state := .authorising, paidCredit := c, termRef := ref } = BitVec.ofNat 32 c :=
        orderMoney_authorising rfl card refunded
      rw [unaccounted_moved still, unaccounted_setAside enough, free, held]
      exact (congrArg (· - _) (add_zero _)).trans (add_sub_cancel_right _ _)
  · have still : (s.tillCardIn amount).order? h = some o := used
    rw [unaccounted_commitOrder still, unaccounted_tillCardIn, orderMoney_authorising authorising card refunded, BitVec.ofNat_add]
    abel
  · exact unaccounted_endUnapproved used authorising card refunded named cause

end Sys2Proof.Machine

/-! The spool at every step (R129, R130): its memory canonical, its blocks counted. -/

namespace Sys2Proof.Machine

/-- Every step keeps a property of the spool that every command keeps: a step on an empty queue does not reach the spool. -/
theorem step_keeps_spool {P : Spool → Prop} {s t : State} (keep : ∀ u v, Keeps u v → P u.spool → P v.spool)
    (next : step s = .next t) (hs : P s.spool) : P t.spool := by
  refine step_keeps (P := fun u => P u.spool) (fun u v only k => ?_) keep next hs
  rw [only.spool]
  exact k

/-- Settles O3: every command keeps the canonical form, by `Keeps.memory`. -/
theorem stepKeepsTheSpoolMemoryCanonical : Obligations.StepKeepsTheSpoolMemoryCanonical := by
  unfold Obligations.StepKeepsTheSpoolMemoryCanonical
  exact fun _ _ canonical next =>
    step_keeps_spool (P := fun x => Memory.wf x.mem = true) (fun _ _ k => k.memory) next canonical

/-- Settles O5: every command keeps the count of blocks, by `Keeps.blocks`. -/
theorem stepKeepsTheBlocksCounted : Obligations.StepKeepsTheBlocksCounted := by
  unfold Obligations.StepKeepsTheBlocksCounted
  exact fun _ _ counted next => step_keeps_spool (P := Spool.BlocksCounted) (fun _ _ k => k.blocks) next counted

end Sys2Proof.Machine

/-! The operations of the Spool Unit (R129 to R131, R135, R138): the pressure, a raster found, freed and opened. -/

namespace Sys2Proof.Machine

variable {s t : State} {h : OrderHandle} {o : Order} {k : Fin 16} {l : Line} {x : Raster}

/-! ### Raster records and the pressure -/

theorem raster?_congr (same : t.spool = s.spool) (h : OrderHandle) (k : Fin 16) : t.raster? h k = s.raster? h k := by
  unfold State.raster?
  rw [same]

theorem shareOf_congr (same : t.spool = s.spool) (y : SessionHandle) : t.shareOf y = s.shareOf y := by
  unfold State.shareOf
  rw [same]

/-- The record found for a line is that line's. -/
theorem raster?_names (found : s.raster? h k = some x) : x.order = h ∧ x.line = k :=
  by simpa using List.find?_some found

/-- K13 never locks out, so its level report is the plain one (R138). -/
theorem evalPressure_eq (s : State) : s.evalPressure = s.reportLevel 13 (decide (s.spool.free.length < s.spoolReserve)) :=
  reportLevelQuiet_eq s (by decide) _

theorem evalPressure_spool (s : State) : s.evalPressure.spool = s.spool := (State.ChangesOnly.evalPressure_op s).spool

theorem setLineRaster_of_line (order : s.order? h = some o) (line : o.lines.get k = some l) (r : RasterState) :
    s.setLineRaster h k r = s.setOrder h.record { o with lines := put o.lines k (some { l with raster := r }) } := by
  unfold State.setLineRaster
  simp only [order, line]
  rfl

/-! ### Freeing (R135) -/

theorem freeRaster_none (gone : s.raster? h k = none) : s.freeRaster h k = s := by
  unfold State.freeRaster
  rw [gone]

/-- The transfer of a write that goes stops: the port is idle again. -/
theorem release_writer_if (y : Spool) (served : Bool) : (if served = true then y.release .writer else y) =
    { y with granted := if y.granted = some .writer ∧ served = true then none else y.granted } := by
  unfold Spool.release
  cases served with
  | false => simp
  | true =>
    by_cases writer : y.granted = some .writer
    · simp [writer]
    · simp [writer]

theorem freeRaster_some (found : s.raster? h k = some x) : s.freeRaster h k = (
    let mine : Write → Bool := fun w => w.order = h ∧ w.line = k;
    let answered := (s.spool.writes.filter mine).foldl (fun t w => t.refuse w.tag .noRaster) s;
    State.evalPressure (State.grantSpool { answered with spool := { s.spool with
      free := s.spool.free ++ x.blocks
      rasters := s.spool.rasters.eraseP (fun y => y.order = h ∧ y.line = k)
      writes := s.spool.writes.filter (fun w => !mine w)
      granted := if s.spool.granted = some .writer ∧ s.spool.writes.head?.any mine then none else s.spool.granted } })) := by
  unfold State.freeRaster
  rw [found]
  dsimp only
  rw [release_writer_if]
  rfl

/-- The arbiter writes who is granted, and nothing else of the spool. -/
theorem arbitrate_grant (y : Spool) : ∃ g l, y.arbitrate = { y with granted := g, last := l } := by
  unfold Spool.arbitrate
  split
  · split
    · exact ⟨_, _, rfl⟩
    · exact ⟨y.granted, y.last, rfl⟩
  · exact ⟨y.granted, y.last, rfl⟩

theorem freeRaster_free (found : s.raster? h k = some x) : (s.freeRaster h k).spool.free = s.spool.free ++ x.blocks := by
  rw [freeRaster_some found]
  dsimp only
  rw [evalPressure_spool]
  obtain ⟨g, last, granted⟩ := arbitrate_grant _
  exact congrArg Spool.free granted

/-! ### A raster opened (R129, R131, R132) -/

/-- The blocks of a new record leave the head of the free list. -/
def Spool.opened (q : Spool) (h : OrderHandle) (k : Fin 16) (z : Size) (y : SessionHandle) : Spool :=
  { q with free := q.free.drop z.blocks, rasters := q.rasters ++ [Raster.opened h k z (q.free.take z.blocks) y] }

/-- The line of the new record becomes WRITING. -/
theorem openRaster_eq (order : s.order? h = some o) (line : o.lines.get k = some l) (z : Size) (y : SessionHandle) :
    s.openRaster h k z y = ((s.setSpool (s.spool.opened h k z y)).setOrder h.record
      { o with lines := put o.lines k (some { l with raster := .writing }) }).evalPressure :=
  congrArg State.evalPressure (setLineRaster_of_line (s := s.setSpool (s.spool.opened h k z y)) order line .writing)

theorem openRaster_spool (s : State) (h : OrderHandle) (k : Fin 16) (z : Size) (y : SessionHandle) :
    (s.openRaster h k z y).spool = s.spool.opened h k z y := by
  unfold State.openRaster
  dsimp only
  rw [evalPressure_spool, (State.ChangesOnly.setLineRaster_op _ _ _ _).spool]
  rfl

/-- The new record is charged to its session. -/
theorem shareOf_openRaster (z : Size) (y : SessionHandle) (room : z.blocks ≤ s.spool.free.length) :
    (s.openRaster h k z y).shareOf y = s.shareOf y + z.blocks := by
  have taken : min z.blocks s.spool.free.length = z.blocks := min_eq_left room
  unfold State.shareOf
  rw [openRaster_spool]
  simp [Spool.opened, Raster.opened, taken]

end Sys2Proof.Machine

/-! RASTER_OPEN, RASTER_DATA and RASTER_ABORT (R132, R133, R135): the checks they share, each said once, then what each does. -/

namespace Sys2Proof.Machine

variable {s : State} {c : RequestCode} {tag : Byte} {p : List Byte} {h : OrderHandle} {o : Order} {i : Instr}

/-! ### What a raster request finds at its taking -/

theorem taken_spool (s : State) (tag : Byte) (y : SessionHandle) : ((s.touchHandle y).holds tag).spool = s.spool :=
  (State.ChangesOnly.touchHandle_op s y).spool

theorem taken_spoolShare (s : State) (tag : Byte) (y : SessionHandle) :
    ((s.touchHandle y).holds tag).spoolShare = s.spoolShare :=
  congrArg (fun w : Store => w.working.a6.get 0) (State.ChangesOnly.touchHandle_op s y).store

theorem taken_order? (n : NamesOrder s c tag p h o) (y : SessionHandle) : ((s.touchHandle y).holds tag).order? h = some o :=
  order?_of_orders (State.ChangesOnly.touchHandle_op s y).orders n.order

theorem taken_raster? (s : State) (tag : Byte) (y : SessionHandle) (h : OrderHandle) (k : Fin 16) :
    ((s.touchHandle y).holds tag).raster? h k = s.raster? h k :=
  raster?_congr (taken_spool s tag y) h k

/-! ### The line and the record -/

/-- A raster request's part behind the line index of its payload. -/
def State.withRasterLine (s : State) (tag : Byte) (p : List Byte) (o : Order) (act : Fin 16 → Line → State) : State :=
  match o.rasterLine p 2 with
  | .error e => s.refuse tag e
  | .ok (k, l) => act k l

theorem withRasterLine_error {e : Status} (act : Fin 16 → Line → State) (bad : o.rasterLine p 2 = .error e) :
    s.withRasterLine tag p o act = s.refuse tag e := by
  unfold State.withRasterLine
  rw [bad]

theorem withRasterLine_ok {k : Fin 16} {l : Line} (act : Fin 16 → Line → State) (used : o.rasterLine p 2 = .ok (k, l)) :
    s.withRasterLine tag p o act = act k l := by
  unfold State.withRasterLine
  rw [used]

/-- A raster request's part behind the record of its line. -/
def State.withRaster (s : State) (tag : Byte) (h : OrderHandle) (k : Fin 16) (act : Raster → State) : State :=
  match s.raster? h k with
  | none => s.refuse tag .noRaster
  | some x => act x

theorem withRaster_none {k : Fin 16} (act : Raster → State) (none : s.raster? h k = none) :
    s.withRaster tag h k act = s.refuse tag .noRaster := by
  unfold State.withRaster
  rw [none]

theorem withRaster_some {k : Fin 16} {x : Raster} (act : Raster → State) (found : s.raster? h k = some x) :
    s.withRaster tag h k act = act x := by
  unfold State.withRaster
  rw [found]

/-- The checks every raster request shares, the order's state and the line, and what stands behind them. -/
theorem rasterRequest_checked (n : NamesOrder s c tag p h o) {act : Fin 16 → Line → State}
    (answer : exec i s = .next (
      let t := s.touchHandle o.session
      if o.state ∈ ([.editing, .quoted] : List OrderState) then (t.holds tag).withRasterLine tag p o act
      else t.answerNo tag c .badState)) :
    (let no : Status → Prop := fun e => exec i s = .next ((s.touchHandle o.session).answerNo tag c e)
    (o.state ∉ ([.editing, .quoted] : List OrderState) → no .badState) ∧
    (o.state ∈ ([.editing, .quoted] : List OrderState) → 16 ≤ byteAt p 2 → no .badValue) ∧
    (∀ k : Fin 16, o.state ∈ ([.editing, .quoted] : List OrderState) → byteAt p 2 = k.val →
      (o.lines.get k = none → no .noLine) ∧ (∀ l, o.lines.get k = some l → exec i s = .next (act k l)))) := by
  refine ⟨fun hs => ?_, fun hs beyond => ?_, fun k hs hk => ⟨fun unused => ?_, fun l used => ?_⟩⟩
  · rw [if_neg hs] at answer
    exact answer
  · rw [if_pos hs, withRasterLine_error _ (rasterLine_of_noIndex beyond)] at answer
    exact answer.trans (congrArg _ (n.refuse _))
  · rw [if_pos hs, withRasterLine_error _ (rasterLine_of_none hk unused)] at answer
    exact answer.trans (congrArg _ (n.refuse _))
  · rw [if_pos hs, withRasterLine_ok _ (rasterLine_of_line hk used)] at answer
    exact answer

/-- RASTER_DATA and RASTER_ABORT ask for the line's record as well (R133, R135). -/
theorem rasterRequest_record (n : NamesOrder s c tag p h o) {k : Fin 16} {act : Line → Raster → State}
    (answer : ∀ l, o.lines.get k = some l →
      exec i s = .next (((s.touchHandle o.session).holds tag).withRaster tag h k (act l))) :
    (o.lines.get k ≠ none → s.raster? h k = none →
      exec i s = .next ((s.touchHandle o.session).answerNo tag c .noRaster)) ∧
    (∀ l x, o.lines.get k = some l → s.raster? h k = some x → exec i s = .next (act l x)) := by
  refine ⟨fun used gone => ?_, fun l x used found => ?_⟩
  · obtain ⟨l, hl⟩ := Option.ne_none_iff_exists'.1 used
    rw [answer l hl, withRaster_none _ ((taken_raster? _ _ _ _ _).trans gone), n.refuse]
  · rw [answer l used, withRaster_some _ ((taken_raster? _ _ _ _ _).trans found)]

/-! ### RASTER_OPEN (R132) -/

/-- RASTER_OPEN at the line it names. -/
def State.openLine (s : State) (tag : Byte) (h : OrderHandle) (o : Order) (k : Fin 16) (l : Line) : State :=
  s.checked tag
    [(decide (l.raster ≠ .writing ∧ l.raster ≠ .complete), .rasterExists),
     (decide (l.raster ≠ .orphaned), .orphanLine),
     (decide (l.size.blocks ≤ s.spool.free.length), .noSpool),
     (decide (s.shareOf o.session + l.size.blocks ≤ s.spoolShare), .shareExceeded)]
    ((s.openRaster h k l.size o.session).ok tag (le4 l.size.rasterBytes ++ le1 l.size.blocks ++
      le2 (s.openRaster h k l.size o.session).spool.free.length ++ le2 ((s.openRaster h k l.size o.session).shareOf o.session)))

variable {k : Fin 16} {l : Line}

theorem openLine_rasterExists (held : l.raster ∈ ([.writing, .complete] : List RasterState)) :
    s.openLine tag h o k l = s.refuse tag .rasterExists := by
  have bad : ¬ (l.raster ≠ .writing ∧ l.raster ≠ .complete) := fun ⟨w, f⟩ => by simp [w, f] at held
  unfold State.openLine
  rw [checked_cons, decide_eq_false bad]
  rfl

theorem openLine_orphanLine (orphaned : l.raster = .orphaned) : s.openLine tag h o k l = s.refuse tag .orphanLine := by
  unfold State.openLine
  rw [orphaned]
  rfl

/-- A line without a raster goes on to the blocks and the share. -/
theorem openLine_of_none (bare : l.raster = .none) : s.openLine tag h o k l =
    if l.size.blocks ≤ s.spool.free.length then
      if s.shareOf o.session + l.size.blocks ≤ s.spoolShare then
        (s.openRaster h k l.size o.session).ok tag (le4 l.size.rasterBytes ++ le1 l.size.blocks ++
          le2 (s.spool.free.length - l.size.blocks) ++ le2 (s.shareOf o.session + l.size.blocks))
      else s.refuse tag .shareExceeded
    else s.refuse tag .noSpool := by
  have free : (s.openRaster h k l.size o.session).spool.free.length = s.spool.free.length - l.size.blocks := by
    rw [openRaster_spool]
    exact List.length_drop
  unfold State.openLine
  rw [bare, free]
  simp only [checked_cons, checked_nil, decide_eq_true_iff]
  by_cases room : l.size.blocks ≤ s.spool.free.length
  · simp [room, shareOf_openRaster (h := h) (k := k) l.size o.session room]
  · simp [room]

theorem rasterOpen_answers (n : NamesOrder s .rasterOpen tag p h o) : exec (.rasterOpen tag) s = .next (
    let t := s.touchHandle o.session
    if o.state ∈ ([.editing, .quoted] : List OrderState) then
      (t.holds tag).withRasterLine tag p o ((t.holds tag).openLine tag h o)
    else t.answerNo tag .rasterOpen .badState) := by
  have taking : exec (.rasterOpen tag) s = .next (s.take .rasterOpen tag (fun t p => t.withOrder .rasterOpen tag p 0 (fun t h o =>
    t.checked tag [(o.editable, .badState)] (t.withRasterLine tag p o (t.openLine tag h o))))) := rfl
  rw [taking, n.edit_answers (by decide) (fun p t h o => t.withRasterLine tag p o (t.openLine tag h o))]

/-! ### RASTER_DATA (R133) -/

/-- RASTER_DATA at the record of its line: the offset and the range, then the write accepted. -/
def State.dataOnRaster (s : State) (tag : Byte) (p : List Byte) (x : Raster) : State :=
  s.checked tag
    [(decide (num4At p 3 = x.accepted), .badOffset), (decide (x.accepted + (p.drop 7).length ≤ x.length), .badRange)]
    (s.acceptWrite tag x (p.drop 7))

theorem dataOnRaster_eq (s : State) (tag : Byte) (p : List Byte) (x : Raster) : s.dataOnRaster tag p x =
    if num4At p 3 = x.accepted then
      if x.accepted + (p.drop 7).length ≤ x.size.rasterBytes then s.acceptWrite tag x (p.drop 7)
      else s.refuse tag .badRange
    else s.refuse tag .badOffset := by
  unfold State.dataOnRaster Raster.length
  simp only [checked_cons, checked_nil, decide_eq_true_iff]

/-- What RASTER_DATA does at its taking. -/
def State.rasterData (s : State) (tag : Byte) (p : List Byte) : State :=
  s.checked tag [(decide ((p.drop 7).length ≤ 4088), .badValue)]
    (s.withOrder .rasterData tag p 0 (fun t h o => t.checked tag [(o.editable, .badState)]
      (t.withRasterLine tag p o (fun k _ => t.withRaster tag h k (t.dataOnRaster tag p)))))

theorem exec_rasterData (tag : Byte) (s : State) :
    exec (.rasterData tag) s = .next (s.take .rasterData tag (fun t p => t.rasterData tag p)) := rfl

theorem rasterData_tooLong (ho : s.Offers .rasterData tag p) (long : 4088 < (p.drop 7).length) :
    exec (.rasterData tag) s = .next (s.answerNo tag .rasterData .badValue) := by
  rw [exec_rasterData, ho.take]
  unfold State.rasterData
  rw [checked_cons, if_neg (by rw [decide_eq_true_iff]; omega), ho.refuse]

theorem rasterData_answers (n : NamesOrder s .rasterData tag p h o) (fits : (p.drop 7).length ≤ 4088) :
    exec (.rasterData tag) s = .next (
      let t := s.touchHandle o.session
      if o.state ∈ ([.editing, .quoted] : List OrderState) then
        (t.holds tag).withRasterLine tag p o (fun k _ =>
          (t.holds tag).withRaster tag h k ((t.holds tag).dataOnRaster tag p))
      else t.answerNo tag .rasterData .badState) := by
  rw [exec_rasterData, n.offers.take]
  unfold State.rasterData
  rw [checked_cons, if_pos (decide_eq_true fits), checked_nil, n.withOrder_taken (by decide), checked_cons, checked_nil, n.refuse]
  exact congrArg _ (if_congr editable_iff rfl rfl)

/-- The write accepted joins the queue behind the record's count of what was accepted. -/
theorem acceptWrite_eq {x : Raster} (found : s.raster? h k = some x) (data : List Byte) : s.acceptWrite tag x data =
    State.grantSpool { s with spool := { s.spool with
      rasters := s.spool.rasters.map (fun y => if y.order = h ∧ y.line = k
        then { y with accepted := y.accepted + data.length } else y)
      writes := s.spool.writes ++ [{ tag := tag, order := h, line := k, offset := x.accepted, data := data }] } } := by
  obtain ⟨rfl, rfl⟩ := raster?_names found
  rfl

/-! ### RASTER_ABORT (R135) -/

/-- RASTER_ABORT at the record of its line. -/
def State.abortLine (s : State) (tag : Byte) (h : OrderHandle) (k : Fin 16) (l : Line) : State :=
  (s.abortRaster h k l.image).ok tag (le2 (s.abortRaster h k l.image).spool.free.length)

theorem abortLine_eq {x : Raster} (order : s.order? h = some o) (line : o.lines.get k = some l)
    (found : s.raster? h k = some x) : s.abortLine tag h k l = (
      let raster : RasterState := if s.catalogue.entry? l.image = none then .orphaned else .none
      ((s.freeRaster h k).setOrder h.record { o with lines := put o.lines k (some { l with raster := raster }) }).ok tag
        (le2 (s.spool.free.length + x.blocks.length))) := by
  have freed := State.ChangesOnly.freeRaster_op s h k
  have after : (s.freeRaster h k).afterFreeing l.image = if s.catalogue.entry? l.image = none then .orphaned else .none := by
    unfold State.afterFreeing
    rw [freed.catalogue]
    cases s.catalogue.entry? l.image <;> rfl
  have aborted : s.abortRaster h k l.image = (s.freeRaster h k).setOrder h.record { o with
      lines := put o.lines k (some { l with
        raster := if s.catalogue.entry? l.image = none then .orphaned else .none }) } := by
    unfold State.abortRaster
    dsimp only
    rw [after, setLineRaster_of_line (order?_of_orders freed.orders order) line]
  have free : (s.freeRaster h k).spool.free.length = s.spool.free.length + x.blocks.length := by
    rw [freeRaster_free found, List.length_append]
  unfold State.abortLine
  rw [aborted, (State.ChangesOnly.setOrder_op _ _ _).spool, free]

theorem rasterAbort_answers (n : NamesOrder s .rasterAbort tag p h o) : exec (.rasterAbort tag) s = .next (
    let t := s.touchHandle o.session
    if o.state ∈ ([.editing, .quoted] : List OrderState) then
      (t.holds tag).withRasterLine tag p o (fun k l =>
        (t.holds tag).withRaster tag h k (fun _ => (t.holds tag).abortLine tag h k l))
    else t.answerNo tag .rasterAbort .badState) := by
  have taking : exec (.rasterAbort tag) s = .next (s.take .rasterAbort tag (fun t p =>
    t.withOrder .rasterAbort tag p 0 (fun t h o => t.checked tag [(o.editable, .badState)]
      (t.withRasterLine tag p o (fun k l => t.withRaster tag h k (fun _ => t.abortLine tag h k l)))))) := rfl
  rw [taking, n.edit_answers (by decide) (fun p t h o =>
    t.withRasterLine tag p o (fun k l => t.withRaster tag h k (fun _ => t.abortLine tag h k l)))]

/-! ### The statement -/

/-- Settles O46: the checks the three requests share, then each by the line or the record it finds, and the freeing. -/
theorem rastersAreOpenedWrittenAndAborted : Obligations.RastersAreOpenedWrittenAndAborted := by
  unfold Obligations.RastersAreOpenedWrittenAndAborted
  refine ⟨evalPressure_eq, fun s tag p h o n => ?_, fun s tag p ho long => rasterData_tooLong ho long,
    fun s tag p h o n fits => ?_, fun s tag p h o n => ?_, fun s h k gone => freeRaster_none gone,
    fun s h k x found => freeRaster_some found⟩
  · intro t no share free
    obtain ⟨uneditable, beyond, named⟩ := rasterRequest_checked n (rasterOpen_answers n)
    have taken := taken_spool s tag o.session
    refine ⟨uneditable, beyond, fun k hs hk => ⟨(named k hs hk).1, fun l used => ?_⟩⟩
    have answer := (named k hs hk).2 l used
    refine ⟨fun held => ?_, fun orphaned => ?_, fun bare full => ?_, fun bare room above => ?_, fun bare room within => ?_⟩
    · rw [openLine_rasterExists held] at answer
      exact answer.trans (congrArg _ (n.refuse _))
    · rw [openLine_orphanLine orphaned] at answer
      exact answer.trans (congrArg _ (n.refuse _))
    all_goals rw [openLine_of_none bare, shareOf_congr taken, taken, taken_spoolShare] at answer
    · rw [if_neg (Nat.not_le.2 full)] at answer
      exact answer.trans (congrArg _ (n.refuse _))
    · have beyondShare : ¬ s.shareOf o.session + l.size.blocks ≤ s.spoolShare := Nat.not_le.2 above
      rw [if_pos room, if_neg beyondShare] at answer
      exact answer.trans (congrArg _ (n.refuse _))
    · have withinShare : s.shareOf o.session + l.size.blocks ≤ s.spoolShare := within
      rw [if_pos room, if_pos withinShare, openRaster_eq (taken_order? n _) used, taken] at answer
      exact answer
  · intro t no data
    obtain ⟨uneditable, beyond, named⟩ := rasterRequest_checked n (rasterData_answers n fits)
    refine ⟨uneditable, beyond, fun k hs hk => ?_⟩
    obtain ⟨noRaster, record⟩ := rasterRequest_record n (act := fun _ => (t.holds tag).dataOnRaster tag p) (named k hs hk).2
    refine ⟨(named k hs hk).1, noRaster, fun x line found => ?_⟩
    obtain ⟨l, used⟩ := Option.ne_none_iff_exists'.1 line
    have answer := record l x used found
    rw [dataOnRaster_eq] at answer
    refine ⟨fun off => ?_, fun follows above => ?_, fun follows within => ?_⟩
    · rw [if_neg off] at answer
      exact answer.trans (congrArg _ (n.refuse _))
    · rw [if_pos follows, if_neg (Nat.not_le.2 above)] at answer
      exact answer.trans (congrArg _ (n.refuse _))
    · rw [if_pos follows, if_pos within, acceptWrite_eq ((taken_raster? s tag o.session h k).trans found), taken_spool] at answer
      exact answer
  · intro t no
    obtain ⟨uneditable, beyond, named⟩ := rasterRequest_checked n (rasterAbort_answers n)
    refine ⟨uneditable, beyond, fun k hs hk => ?_⟩
    obtain ⟨noRaster, record⟩ := rasterRequest_record n (act := fun l _ => (t.holds tag).abortLine tag h k l) (named k hs hk).2
    refine ⟨(named k hs hk).1, noRaster, fun l x used found => ?_⟩
    rw [record l x used found, abortLine_eq (taken_order? n _) used ((taken_raster? s tag o.session h k).trans found),
      taken_catalogue, taken_spool]

end Sys2Proof.Machine

/-! The spool port (R134, R137, R150): who is granted, the ends of writes and of read transfers, and the bytes that the printer
link takes. -/

namespace Sys2Proof.Machine

variable {s : State}

/-! ### The grant (R137) -/

/-- The cycle is the list of the requesters, turned so that it starts behind the one last granted. -/
theorem cycle_eq (x : Spool) : x.cycle = (
    let order : List Requester := [.writer, .reader 0, .reader 1, .reader 2];
    let from' := match x.last with
      | .writer => 1
      | .reader q => q.val + 2;
    order.drop from' ++ order.take from') := by
  unfold Spool.cycle
  cases x.last with
  | writer => rfl
  | reader q => fin_cases q <;> rfl

/-- The writer waits with its queue, a reader with the raster it is started on. -/
theorem waits_eq (x : Spool) : x.waits = fun r => match r with
    | .writer => decide (x.writes ≠ [])
    | .reader q => (x.readers.get q).job.isSome && (x.readers.get q).asks := by
  funext r
  cases r with
  | writer => cases h : x.writes <;> simp [Spool.waits, h]
  | reader q => rfl

/-- A port that serves a requester goes on with it. -/
theorem grantSpool_busy (busy : s.spool.granted ≠ none) : s.grantSpool = s := by
  unfold State.grantSpool Spool.arbitrate
  rw [if_neg busy]
  rfl

theorem grantSpool_idle (idle : s.spool.granted = none) : s.grantSpool = match s.spool.cycle.find? s.spool.waits with
    | some r => { s with spool := { s.spool with granted := some r, last := r } }
    | none => s := by
  unfold State.grantSpool Spool.arbitrate
  rw [if_pos idle]
  cases s.spool.cycle.find? s.spool.waits <;> rfl

theorem grantSpool_eq (s : State) : s.grantSpool = (
    let asks : Requester → Bool := fun r => match r with
      | .writer => decide (s.spool.writes ≠ [])
      | .reader q => (s.reader q).job.isSome && (s.reader q).asks;
    let order : List Requester := [.writer, .reader 0, .reader 1, .reader 2];
    let from' := match s.spool.last with
      | .writer => 1
      | .reader q => q.val + 2;
    if s.spool.granted ≠ none then s
    else match (order.drop from' ++ order.take from').find? asks with
      | some r => { s with spool := { s.spool with granted := some r, last := r } }
      | none => s) := by
  by_cases idle : s.spool.granted = none
  · rw [grantSpool_idle idle, cycle_eq, waits_eq]
    exact (if_neg (not_not_intro idle)).symm
  · rw [grantSpool_busy idle]
    exact (if_pos idle).symm

/-! ### WRITE_END (R134) -/

theorem writeEnds_idle (idle : s.spool.granted ≠ some .writer ∨ s.spool.writes = []) : s.writeEnds = s := by
  unfold State.writeEnds
  split
  · next granted writes =>
    rcases idle with other | empty
    · exact absurd granted other
    · rw [writes] at empty
      cases empty
  · rfl

variable {w : Write} {rest : List Write}

/-- The write served has left the queue and the port. -/
def State.writeServed (s : State) (rest : List Write) : State :=
  s.setSpool { s.spool with writes := rest, granted := none }

theorem writeEnds_gone (granted : s.spool.granted = some .writer) (writes : s.spool.writes = w :: rest)
    (gone : s.raster? w.order w.line = none) : s.writeEnds = (s.writeServed rest).grantSpool := by
  have unfound : (s.setSpool { s.spool with writes := rest, granted := none }).raster? w.order w.line = none := gone
  unfold State.writeEnds
  rw [granted, writes]
  dsimp only
  rw [unfound]
  rfl

theorem writeEnds_stored {x : Raster} (granted : s.spool.granted = some .writer) (writes : s.spool.writes = w :: rest)
    (found : s.raster? w.order w.line = some x) : s.writeEnds = (
      let written := x.written + w.data.length;
      let complete := x.complete || decide (written = x.size.rasterBytes);
      let u : State := (s.writeServed rest).setSpool { (s.writeServed rest).spool with
        rasters := s.spool.rasters.map (fun y => if y.order = w.order ∧ y.line = w.line
          then { y with
            written := y.written + w.data.length
            complete := y.complete || decide (y.written + w.data.length = y.size.rasterBytes) }
          else y)
        mem := Memory.storeRaster s.spool.mem x.blocks w.offset w.data };
      State.grantSpool (State.ok (if complete then u.setLineRaster w.order w.line .complete else u) w.tag
        (le4 written ++ le1 (if complete then 2 else 1)))) := by
  have record : (s.setSpool { s.spool with writes := rest, granted := none }).raster? w.order w.line = some x := found
  have code (y : Raster) : y.state.code = if y.complete then 2 else 1 := by
    unfold Raster.state
    cases y.complete <;> rfl
  unfold State.writeEnds
  rw [granted, writes]
  dsimp only
  rw [record]
  dsimp only
  rw [code]
  rfl

/-! ### READ_TRANSFER_END (R137) -/

theorem readTransferEnds_idle {q : Fin 3} (idle : s.spool.granted ≠ some (.reader q) ∨ (s.reader q).job = none) :
    s.readTransferEnds q = s := by
  unfold State.readTransferEnds
  dsimp only
  split
  · next q' h k granted job =>
    rcases idle with other | stopped
    · refine if_neg (fun same => other ?_)
      rw [granted, same]
    · rw [job] at stopped
      cases stopped
  · rfl

theorem readTransferEnds_sent {q : Fin 3} {h : OrderHandle} {k : Fin 16} {x : Raster}
    (granted : s.spool.granted = some (.reader q)) (job : (s.reader q).job = some (h, k)) (found : s.raster? h k = some x) :
    s.readTransferEnds q = (
      let n := min 4096 (x.size.rasterBytes - (s.reader q).next);
      State.grantSpool { s with
        spool := { s.spool with
          readers := put s.spool.readers q { s.reader q with next := (s.reader q).next + n, asks := false, untaken := n }
          granted := none }
        sent := s.sent ++ [.raster q (Memory.readRaster s.spool.mem x.blocks (s.reader q).next n)] }) := by
  unfold State.readTransferEnds
  dsimp only
  rw [granted, job]
  dsimp only
  rw [if_pos rfl, found]
  rfl

/-! ### RASTER_BYTES_TAKEN (R150) -/

section BytesTaken

variable {q : Fin 3} {count : Nat}

theorem bytesTaken_nothing (idle : (s.port q).state ≠ .feeding ∨ (s.reader q).job = none ∨ count = 0 ∨
    (s.reader q).untaken = 0) : s.bytesTaken q count = s := by
  unfold State.bytesTaken
  dsimp only
  split
  · rfl
  · next h k job =>
    refine if_pos ?_
    rcases idle with other | stopped | zero | zero
    · exact Or.inl other
    · rw [job] at stopped
      cases stopped
    · exact Or.inr (by rw [zero, Nat.zero_min])
    · exact Or.inr (by rw [zero, Nat.min_zero])

variable {h : OrderHandle} {k : Fin 16} {x : Raster}

/-- A FEEDING port restarts its feed limit at each byte taken. -/
def State.fed (s : State) (q : Fin 3) : State := s.setPort q { s.port q with limitSince := s.now }

/-- The raster's last byte taken: END goes out, and the port prints (R150). -/
def State.feedEnds (s : State) (q : Fin 3) : State :=
  let ended := ((s.fed q).send (.rasterEnd q)).stopReader q
  ended.setPort q { ended.port q with state := .printing }

theorem rasterBytesTaken_answers (feeding : (s.port q).state = .feeding) (job : (s.reader q).job = some (h, k))
    (found : s.raster? h k = some x) (several : 0 < count) (waiting : 0 < (s.reader q).untaken) :
    exec (.rasterBytesTaken q count) s = .next (
      if count < (s.reader q).untaken then
        (s.fed q).setReader q { s.reader q with untaken := (s.reader q).untaken - count }
      else if x.size.rasterBytes ≤ (s.reader q).next then s.feedEnds q
      else ((s.fed q).setReader q { s.reader q with untaken := 0, asks := true }).grantSpool) := by
  refine congrArg Host.Outcome.next (?_ : s.bytesTaken q count = _)
  have taking : ¬ ((s.port q).state ≠ .feeding ∨ min count (s.reader q).untaken = 0) := by
    rintro (other | zero)
    · exact other feeding
    · omega
  unfold State.bytesTaken
  dsimp only
  rw [job]
  dsimp only
  rw [if_neg taking, found]
  by_cases part : count < (s.reader q).untaken
  · rw [min_eq_left part.le, if_pos part, if_pos part]
    rfl
  · rw [min_eq_right (Nat.le_of_not_lt part), if_neg (lt_irrefl _), if_neg part]
    rfl

/-- A reader stopped stands as after power-on, and the spool keeps all but its readers and the grant (R137). -/
theorem stopReader_spool (s : State) (q : Fin 3) : ∃ g l, (s.stopReader q).spool =
    { s.spool with readers := put s.spool.readers q Reader.stopped, granted := g, last := l } := by
  have released (y : Spool) : ∃ g, y.release (.reader q) = { y with granted := g } := by
    unfold Spool.release
    split
    · exact ⟨none, rfl⟩
    · exact ⟨y.granted, rfl⟩
  obtain ⟨g, idle⟩ := released { s.spool with readers := put s.spool.readers q Reader.stopped }
  obtain ⟨g', l, granted⟩ := arbitrate_grant { s.spool with readers := put s.spool.readers q Reader.stopped, granted := g }
  exact ⟨g', l, (congrArg Spool.arbitrate idle).trans granted⟩

theorem feedEnds_spool (s : State) (q : Fin 3) : ∃ g l, (s.feedEnds q).spool =
    { s.spool with readers := put s.spool.readers q Reader.stopped, granted := g, last := l } :=
  stopReader_spool ((s.fed q).send (.rasterEnd q)) q

/-- What END sent and the reader stopped leave of the ports. -/
theorem fedOut_port (s : State) (q j : Fin 3) : (((s.fed q).send (.rasterEnd q)).stopReader q).port j = (s.fed q).port j :=
  port_congr (State.ChangesOnly.stopReader_op ((s.fed q).send (.rasterEnd q)) q).prints j

theorem feedEnds_port (s : State) (q : Fin 3) :
    (s.feedEnds q).port q = { s.port q with state := .printing, limitSince := s.now } := by
  have fed : (s.fed q).port q = { s.port q with limitSince := s.now } := State.port_setPort _ _ _
  unfold State.feedEnds
  dsimp only
  rw [State.port_setPort, fedOut_port, fed]

theorem feedEnds_port_ne (s : State) {q j : Fin 3} (other : j ≠ q) : (s.feedEnds q).port j = s.port j := by
  unfold State.feedEnds
  dsimp only
  rw [State.port_setPort_ne _ other.symm, fedOut_port]
  exact State.port_setPort_ne _ other.symm _

theorem feedEnds_sent (s : State) (q : Fin 3) : (s.feedEnds q).sent = s.sent ++ [.rasterEnd q] :=
  (State.ChangesOnly.stopReader_op ((s.fed q).send (.rasterEnd q)) q).sent

theorem feedEnds_changesOnly (s : State) (q : Fin 3) : s.ChangesOnly (s.feedEnds q) [.spool, .prints, .sent] :=
  ((((State.ChangesOnly.refl s _).setPort q _ (by decide)).send _ (by decide)).stopReader q (by decide)).setPort q _ (by decide)

end BytesTaken

/-! ### The statement -/

/-- Settles O47: the memory, the grant, then each end of a transfer by what the port serves, and the bytes taken by how many
wait. -/
theorem spoolPortServesOneTransferAtATime : Obligations.SpoolPortServesOneTransferAtATime := by
  unfold Obligations.SpoolPortServesOneTransferAtATime
  refine ⟨fun m a b v canonical => ?_, grantSpool_eq, fun s idle => congrArg _ (writeEnds_idle idle),
    fun s w rest granted writes => ⟨fun gone => congrArg _ (writeEnds_gone granted writes gone),
      fun x found => congrArg _ (writeEnds_stored granted writes found)⟩,
    fun s q => ⟨fun idle => congrArg _ (readTransferEnds_idle idle),
      fun h k x granted job found => congrArg _ (readTransferEnds_sent granted job found)⟩,
    fun s q count => ⟨fun idle => congrArg _ (bytesTaken_nothing idle), fun h k x feeding job found several => ?_⟩⟩
  · rw [Memory.read_write m a b v canonical]
    exact if_congr eq_comm rfl rfl
  · have taking (waiting : 0 < (s.reader q).untaken) := rasterBytesTaken_answers feeding job found several waiting
    refine ⟨fun part => ?_, fun waiting all more => ?_, fun waiting all last => ?_⟩
    · have answer := taking (several.trans part)
      rw [if_pos part] at answer
      exact answer
    · have answer := taking waiting
      rw [if_neg (Nat.not_lt.2 all), if_neg (Nat.not_le.2 more)] at answer
      exact answer
    · have answer := taking waiting
      rw [if_neg (Nat.not_lt.2 all), if_pos last] at answer
      obtain ⟨g, l, spool⟩ := feedEnds_spool s q
      have reader (j : Fin 3) : (s.feedEnds q).reader j = (put s.spool.readers q Reader.stopped).get j :=
        congrArg (fun y : Spool => y.readers.get j) spool
      refine ⟨s.feedEnds q, answer, feedEnds_port s q, fun j other => feedEnds_port_ne s other,
        (reader q).trans (get_put_same _ _ _), fun j other => (reader j).trans (get_put_ne _ other.symm _), feedEnds_sent s q,
        ?_, ?_, ?_, ?_, feedEnds_changesOnly s q⟩
      all_goals rw [spool]

end Sys2Proof.Machine

/-! The Print Dispatcher's operations in the words of the statements: a port written, moved and READY, a good frame, the end of an
attempt (R144, R148, R152, R153, R157), and what the evaluation of the conditions leaves (R156). -/

namespace Sys2Proof.Machine

variable {s t : State} {p : Fin 3} {a : Attempt} {i : Fin 16}

/-! ### A port's record written -/

/-- A port written twice is as the second writing leaves it. -/
theorem setPort_setPort (s : State) (p : Fin 3) (x y : Port) : (s.setPort p x).setPort p y = s.setPort p y := by
  unfold State.setPort
  simp only [State.setPrints_prints, put_put]
  rfl

/-- A port written as it stands is as it was. -/
theorem setPort_port (s : State) (p : Fin 3) : s.setPort p (s.port p) = s := by
  have same : put s.prints.ports p (s.port p) = s.prints.ports := Vector.set_getElem_self _
  unfold State.setPort
  rw [same]
  rfl

theorem movePort_eq (s : State) (p : Fin 3) (state : PortState) (fault : Option Reason) (cause : PrinterCause) :
    s.movePort p state fault cause = portMoved s p state fault cause := by
  unfold State.movePort State.printerNotice portMoved
  rw [State.port_setPort]

theorem portMoved_port (s : State) (p : Fin 3) (state : PortState) (fault : Option Reason) (cause : PrinterCause) :
    (portMoved s p state fault cause).port p = { s.port p with state := state, fault := fault } :=
  State.port_setPort _ _ _

theorem enterReady_eq (s : State) (p : Fin 3) (cause : PrinterCause) : s.enterReady p cause = portReady s p cause := by
  unfold State.enterReady portReady
  rw [movePort_eq]
  rfl

/-! ### A good frame (R144) -/

/-- The link error counter of a port behind a good frame. -/
def Port.goodErrors (x : Port) : Nat := if x.state = .absent then x.errors else x.errors - 1

/-- A port behind a good frame of its printer. -/
def State.framed (s : State) (p : Fin 3) : State := s.setPort p { s.port p with errors := (s.port p).goodErrors }

theorem framed_port (s : State) (p : Fin 3) : (s.framed p).port p = { s.port p with errors := (s.port p).goodErrors } :=
  State.port_setPort _ _ _

theorem goodFrame_eq (s : State) (p : Fin 3) : s.goodFrame p = s.framed p := by
  unfold State.goodFrame State.framed Port.goodErrors
  dsimp only
  split_ifs
  · exact (setPort_port s p).symm
  · rfl

/-! ### An attempt's end (R152, R153) -/

theorem failAttempt_eq (s : State) (p : Fin 3) (a : Attempt) (feeding : Bool) (reason : Reason) :
    s.failAttempt p a feeding reason = attemptEnded s p a feeding reason := by
  have cancels : (feeding = true ∨ reason = .linkLost ∨ reason = .timeout) ↔ (feeding = true ∨ reason ∈ [.linkLost, .timeout]) := by
    simp
  have sends (t : State) (x : Sent) (c : Prop) [Decidable c] :
      (if c then t.send x else t) = { t with sent := t.sent ++ if c then [x] else [] } := by
    split_ifs
    · rfl
    · rw [List.append_nil]
  unfold State.failAttempt attemptEnded
  dsimp only
  rw [sends]
  simp only [cancels]

theorem attemptFails_some (running : (s.port p).attempt = some a) (reason : Reason) : s.attemptFails p reason = (
    let t := attemptEnded s p a (decide ((s.port p).state = .feeding)) reason
    let u := if reason = .mediaOut then t.setPort p { t.port p with units := 0 } else t
    State.evalPrints (State.takeAll
      (portMoved u p reason.after (if reason.after = .fault then some reason else none) (.reason reason)))) := by
  unfold State.attemptFails
  rw [running]
  dsimp only
  rw [failAttempt_eq, movePort_eq]

theorem goOffline_eq (s : State) (p : Fin 3) (cause : PrinterCause) : s.goOffline p cause = (
    let x := s.port p
    if x.state = .absent ∨ x.state = .offline then s
    else
      let w := portMoved (s.setPort p { x with run := 0 }) p .offline none cause
      State.evalPrints (State.takeAll (match x.attempt with
        | some a => attemptEnded w p a (decide (x.state = .feeding)) .linkLost
        | none => w))) := by
  unfold State.goOffline
  dsimp only
  rw [movePort_eq]
  cases (s.port p).attempt with
  | none => rfl
  | some a =>
    dsimp only
    rw [failAttempt_eq]

/-! ### The causes of R156 -/

theorem mediaLow_congr (prints : t.prints = s.prints) (store : t.store = s.store) : t.mediaLow = s.mediaLow := by
  unfold State.mediaLow State.mediaLowMark
  simp only [port_congr prints, store]

theorem taskLine_congr (orders : t.orders = s.orders) (x : Task) : t.taskLine x = s.taskLine x := by
  unfold State.taskLine
  rw [order?_congr orders]

theorem printStall_congr (prints : t.prints = s.prints) (orders : t.orders = s.orders) : t.printStall = s.printStall := by
  unfold State.printStall
  simp only [port_congr prints, prints, taskLine_congr orders]

theorem PortState.able_iff (x : PortState) : x.able = true ↔ x ∈ [.ready, .feeding, .printing, .cooling] := by
  cases x <;> decide

/-- A port is able for a size where its state is able and its media supports it. -/
theorem Port.ableFor_iff (x : Port) (z : Size) : x.ableFor z = true ↔
    x.state ∈ [.ready, .feeding, .printing, .cooling] ∧ ∃ k, x.kind = some k ∧ supports k z = true := by
  unfold Port.ableFor
  rw [Bool.and_eq_true, PortState.able_iff, Option.any_eq_true]

theorem taskLine_iff (s : State) (x : Task) (o : Order) (l : Line) :
    s.taskLine x = some (o, l) ↔ s.order? x.order = some o ∧ o.lines.get x.line = some l :=
  ⟨taskLine_order, fun ⟨order, line⟩ => taskLine_eq_some order line⟩

theorem printStall_iff (s : State) : s.printStall = true ↔ s.prints.queue ≠ [] ∧ ∀ x ∈ s.prints.queue, ∀ o l,
    s.order? x.order = some o → o.lines.get x.line = some l → ∀ p, ¬ ((s.port p).state ∈ [.ready, .feeding, .printing, .cooling] ∧
      ∃ k, (s.port p).kind = some k ∧ supports k l.size = true) := by
  unfold State.printStall
  rw [Bool.and_eq_true, List.all_eq_true, Bool.not_eq_true', List.isEmpty_eq_false_iff]
  refine and_congr Iff.rfl (forall₂_congr fun x _ => ?_)
  simp only [← Port.ableFor_iff, ← and_imp, ← taskLine_iff]
  cases s.taskLine x with
  | none => simp
  | some y =>
    obtain ⟨o, l⟩ := y
    simp

/-! ### The conditions evaluated (R156) -/

theorem lockout_bits (s : State) (hi : i ≠ 13) :
    s.lockout.conds.kiosk.bits.getLsbD i.val = s.conds.kiosk.bits.getLsbD i.val := by
  have locked : s.lockedWith.conds.kiosk = s.conds.kiosk := by
    unfold State.lockedWith
    rw [State.setTerminal_conds, lockedOut_conds]
  have ended := each_keeps (P := s.lockedWith.QuietKept) (fun t a kept => kept.trans (.endUnapproved t a .lockout)) (.refl _)
    s.money.terminal.waiting
  rw [lockout_eq_lockedWith, ended.bits i hi, locked]

/-- A bit resolved leaves the bits, but for SPOOL_PRESSURE, which a lockout may move. -/
theorem resolveKiosk_lockout_bits (s : State) (g : Trigger) (j : Fin 16) (hi : i ≠ 13) :
    (State.resolveKiosk State.lockout g s j).conds.kiosk.bits.getLsbD i.val = s.conds.kiosk.bits.getLsbD i.val := by
  obtain ⟨w, -, bits, eq⟩ := resolveKiosk_cases s State.lockout g j
  rw [eq, ← bits]
  split_ifs
  · exact lockout_bits w hi
  · rfl

/-- A level report leaves its bit as its cause is, and the others but SPOOL_PRESSURE as they were. -/
theorem reportLevel_bits (s : State) (j : Fin 16) (present : Bool) (hi : i ≠ 13) :
    (s.reportLevel j present).conds.kiosk.bits.getLsbD i.val = if i = j then present else s.conds.kiosk.bits.getLsbD i.val := by
  simp only [Fin.ext_iff]
  cases present with
  | false =>
    rw [reportLevel_absent]
    refine (getLsbD_clearBit _ j i.val).trans ?_
    by_cases same : i.val = j.val <;> simp [same]
  | true =>
    rw [reportLevel_present]
    split_ifs with set same same
    · rw [same, set]
    · rfl
    · exact (resolveKiosk_lockout_bits _ _ j hi).trans ((getLsbD_setBit _ j i.val).trans (by simp [same]))
    · exact (resolveKiosk_lockout_bits _ _ j hi).trans ((getLsbD_setBit _ j i.val).trans (by simp [same]))

/-- The quiet reports change neither the ports nor the orders, so that every cause is that of the state before them. -/
theorem evalPrints_eq (s : State) : s.evalPrints =
    ((((s.reportLevel 8 (s.port 0).state.faulty).reportLevel 9 (s.port 1).state.faulty).reportLevel 10
      (s.port 2).state.faulty).reportLevel 11 s.mediaLow).reportLevel 15 s.printStall := by
  have one := State.ChangesOnly.reportLevelQuiet_op s 8 (s.port 0).state.faulty
  have two := one.reportLevelQuiet 9 (s.port 1).state.faulty (by decide)
  have three := two.reportLevelQuiet 10 (s.port 2).state.faulty (by decide)
  have four := three.reportLevelQuiet 11 s.mediaLow (by decide)
  unfold State.evalPrints
  dsimp only
  rw [port_congr one.prints, port_congr two.prints, mediaLow_congr three.prints three.store, printStall_congr four.prints four.orders]
  rw [reportLevelQuiet_eq _ (by decide), reportLevelQuiet_eq _ (by decide), reportLevelQuiet_eq _ (by decide),
    reportLevelQuiet_eq _ (by decide)]

theorem evalPrints_port (s : State) (q : Fin 3) : s.evalPrints.port q = s.port q :=
  port_congr (State.ChangesOnly.evalPrints_op s).prints q

theorem evalPrints_bits (s : State) (hi : i ≠ 13) : s.evalPrints.conds.kiosk.bits.getLsbD i.val =
    if i = 15 then s.printStall else if i = 11 then s.mediaLow else if i = 10 then (s.port 2).state.faulty
    else if i = 9 then (s.port 1).state.faulty else if i = 8 then (s.port 0).state.faulty
    else s.conds.kiosk.bits.getLsbD i.val := by
  rw [evalPrints_eq]
  simp only [reportLevel_bits _ _ _ hi]

end Sys2Proof.Machine

/-! Ports that go OFFLINE (R144, R146), attempts that end (R143, R150 to R153), and the conditions evaluated behind them (R156). -/

namespace Sys2Proof.Machine

variable {s : State} {p : Fin 3} {a : Attempt}

/-! ### Corrupt frames and silence (R144, R146) -/

theorem corruptFrame_eq (s : State) (p : Fin 3) : s.corruptFrame p = (
    let x := s.port p
    let n := min 255 (x.errors + 1)
    if x.state = .absent then s
    else if x.state = .offline then s.setPort p { x with errors := n, run := 0 }
    else if s.prnErrLimit < n then (s.setPort p { x with errors := n }).goOffline p .errors
    else s.setPort p { x with errors := n }) := by
  unfold State.corruptFrame
  dsimp only
  cases (s.port p).state <;> rfl

/-- Before start-up has ended no port is heard. -/
theorem port_unheard (starting : s.power.starting = true) {c : Instr} {id : BitVec 16} {r : FailReason} {report : PrinterReport}
    {kind : MediaKind} (hc : c ∈ [.statusReport p report kind, .done p id, .fail p id r, .printerCorruptFrame p, .printerSilence p,
      .feedLimit p, .printLimit p]) : exec c s = .next s := by
  simp only [List.mem_cons, List.not_mem_nil, or_false] at hc
  rcases hc with rfl | rfl | rfl | rfl | rfl | rfl | rfl <;> exact congrArg _ (heard_starting starting _)

/-- Settles O51: before START, the two ways to OFFLINE, the entry into it, and the bits that the evaluation leaves. -/
theorem portsGoOffline : Obligations.PortsGoOffline := by
  unfold Obligations.PortsGoOffline
  refine ⟨fun s p c starting ⟨id, r, report, kind, hc⟩ => port_unheard starting hc, fun s p running => ⟨?_, ?_⟩, goOffline_eq,
    fun s => ?_⟩
  · exact congrArg _ ((heard_running running _).trans (corruptFrame_eq s p))
  · exact congrArg _ (heard_running running _)
  · have bit {i : Fin 16} (hi : i ≠ 13) := evalPrints_bits s hi
    refine ⟨(State.ChangesOnly.evalPrints_op s).prints, ?_, ?_, ?_, ?_, ?_, fun i hi => ?_⟩
    · exact (bit (i := 8) (by decide)).trans (PortState.faulty_eq _)
    · exact (bit (i := 9) (by decide)).trans (PortState.faulty_eq _)
    · exact (bit (i := 10) (by decide)).trans (PortState.faulty_eq _)
    · refine (Bool.eq_iff_iff.1 (bit (i := 11) (by decide))).trans ?_
      exact (Bool.eq_iff_iff.1 (mediaLow_eq s)).trans decide_eq_true_iff
    · exact (Bool.eq_iff_iff.1 (bit (i := 15) (by decide))).trans (printStall_iff s)
    · simp only [List.mem_cons, List.not_mem_nil, or_false, not_or] at hi
      obtain ⟨h8, h9, h10, h11, h13, h15⟩ := hi
      rw [bit h13, if_neg h15, if_neg h11, if_neg h10, if_neg h9, if_neg h8]

/-! ### Outcomes (R143, R151, R152) -/

/-- The attempt a good frame finds is the port's, where the frame names its copy id. -/
theorem framed_attemptWith (s : State) (p : Fin 3) (id : BitVec 16) :
    (s.framed p).attemptWith p id = (s.port p).attempt.filter (fun a => a.copyId = id) := by
  unfold State.attemptWith
  rw [framed_port]

theorem attemptWith_other {id : BitVec 16} (other : ∀ a, (s.port p).attempt = some a → a.copyId ≠ id) :
    (s.framed p).attemptWith p id = none := by
  rw [framed_attemptWith, Option.filter_eq_none_iff]
  exact fun a running same => other a running (of_decide_eq_true same)

theorem attemptWith_own (running : (s.port p).attempt = some a) : (s.framed p).attemptWith p a.copyId = some a := by
  rw [framed_attemptWith, running]
  exact Option.filter_some_pos (decide_eq_true rfl)

theorem exec_done (running : s.power.starting = false) (id : BitVec 16) : exec (.done p id) s = .next (
    match (s.framed p).attemptWith p id with
    | some a => (s.framed p).attemptDone p a
    | none => s.framed p) := by
  rw [← goodFrame_eq]
  exact congrArg _ (heard_running running _)

theorem exec_fail (running : s.power.starting = false) (id : BitVec 16) (reason : FailReason) : exec (.fail p id reason) s = .next (
    match (s.framed p).attemptWith p id with
    | some _ => (s.framed p).attemptFails p (failReason reason)
    | none => s.framed p) := by
  rw [← goodFrame_eq]
  exact congrArg _ (heard_running running _)

theorem attemptDone_feeding (feeding : (s.port p).state = .feeding) (a : Attempt) :
    s.attemptDone p a = s.attemptFails p .dataError := by
  unfold State.attemptDone
  rw [feeding]

theorem attemptDone_printing (printing : (s.port p).state = .printing) (a : Attempt) : s.attemptDone p a =
    (portMoved ((s.setPort p { s.port p with attempt := none }).copyDelivered p a) p .cooling none .done).evalPrints := by
  unfold State.attemptDone
  rw [printing]
  dsimp only
  rw [movePort_eq]

/-- Settles O49: DONE and FAIL by the attempt they name, the two limits, and the way of the port behind a failure. -/
theorem outcomesEndTheAttempt : Obligations.OutcomesEndTheAttempt := by
  unfold Obligations.OutcomesEndTheAttempt
  refine ⟨fun s p running => ⟨fun id r other => ?_, fun a attempt => ⟨fun r => ?_, fun feeding => ?_, fun printing => ?_⟩, ?_, ?_⟩,
    fun s p a reason attempt => ?_⟩
  · rw [exec_done running, exec_fail running, attemptWith_other other]
    exact ⟨rfl, rfl⟩
  · rw [exec_fail running, attemptWith_own attempt]
    rfl
  · have feeding' : ((s.framed p).port p).state = .feeding := by rw [framed_port]; exact feeding
    rw [exec_done running, attemptWith_own attempt]
    exact congrArg _ (attemptDone_feeding feeding' a)
  · have printing' : ((s.framed p).port p).state = .printing := by rw [framed_port]; exact printing
    rw [exec_done running, attemptWith_own attempt]
    exact congrArg _ (attemptDone_printing printing' a)
  · exact congrArg _ (heard_running running _)
  · exact congrArg _ (heard_running running _)
  · rw [attemptFails_some attempt]
    cases reason <;> rfl

end Sys2Proof.Machine

/-! PRINTER_HOLD, PRINTER_RELEASE and MEDIA_LOADED (R154, R155). -/

namespace Sys2Proof.Machine

variable {s : State} {tag : Byte} {p : List Byte} {n : Fin 3}

/-! ### PRINTER_HOLD and PRINTER_RELEASE (R154) -/

theorem holdPort_eq (s : State) (n : Fin 3) : s.holdPort n = (
    let t := s.setPort n { s.port n with hold := true }
    if (s.port n).state ∈ [.ready, .cooling] then State.evalPrints (portMoved t n .held none .hold) else t) := by
  unfold State.holdPort
  dsimp only
  rw [movePort_eq]
  cases (s.port n).state <;> rfl

theorem releasePort_eq (s : State) (n : Fin 3) : s.releasePort n = (
    let t := s.setPort n { s.port n with hold := false }
    if (s.port n).state = .held then State.evalPrints (portMoved t n .cooling none .release) else t) := by
  unfold State.releasePort
  dsimp only
  rw [movePort_eq]
  cases (s.port n).state <;> rfl

theorem holdPort_hold (s : State) (n : Fin 3) : ((s.holdPort n).port n).hold = true := by
  rw [holdPort_eq]
  dsimp only
  split_ifs
  · rw [evalPrints_port, portMoved_port, State.port_setPort]
  · rw [State.port_setPort]

theorem releasePort_hold (s : State) (n : Fin 3) : ((s.releasePort n).port n).hold = false := by
  rw [releasePort_eq]
  dsimp only
  split_ifs
  · rw [evalPrints_port, portMoved_port, State.port_setPort]
  · rw [State.port_setPort]

/-- Behind the mode and the port's number, what either of the two requests does. -/
theorem State.Offers.onPort {c : RequestCode} (offers : s.Offers c tag p) (act : State → Fin 3 → State) :
    s.take c tag (fun t p => t.onPort tag p act) = if s.conds.mode = .service then
      match fin? 3 (byteAt p 0) with
      | none => s.answerNo tag c .badValue
      | some n => act (s.holds tag) n
    else s.answerNo tag c .notService := by
  have mode : (s.holds tag).conds.mode = s.conds.mode := rfl
  rw [offers.take]
  unfold State.onPort
  rw [checked_cons, checked_nil, offers.refuse, offers.refuse, mode]
  exact if_congr decide_eq_true_iff rfl rfl

/-! ### MEDIA_LOADED (R155) -/

theorem loadMedia_eq (s : State) (n : Fin 3) (kind : MediaKind) (units : Nat) : s.loadMedia n kind units = (
    let t := s.setPort n { s.port n with kind := some kind, units := units }
    let u := if (s.port n).state = .fault then portMoved t n (if (s.port n).hold then .held else .cooling) none .mediaLoaded else t
    State.evalPrints (u.takeOnEntry n)) := by
  unfold State.loadMedia
  dsimp only
  rw [movePort_eq]

theorem kindAt_eq_some {k : MediaKind} {i : Nat} (named : byteAt p i = kindCode k) : kindAt p i = some k := by
  unfold kindAt
  rw [named]
  cases k <;> rfl

theorem kindAt_eq_none {i : Nat} (unnamed : ∀ k, byteAt p i ≠ kindCode k) : kindAt p i = none := by
  cases found : kindAt p i with
  | none => rfl
  | some k =>
    refine absurd ?_ (unnamed k)
    unfold kindAt at found
    split at found
    · next zero => cases found; exact zero
    · next one => cases found; exact one
    · cases found

/-- MEDIA_LOADED, check by check. -/
theorem mediaLoaded_answers (offers : s.Offers .mediaLoaded tag p) : exec (.mediaLoaded tag) s = .next (
    if s.conds.mode = .service then
      if num2At p 2 ≤ 9999 then
        match fin? 3 (byteAt p 0), kindAt p 1 with
        | some n, some kind =>
          if (s.port n).state ∈ [.absent, .feeding, .printing] then s.answerNo tag .mediaLoaded .badState
          else
            let v := (s.holds tag).loadMedia n kind (num2At p 2)
            v.ok tag (le1 (v.port n).state.code ++ le1 (kindCode kind) ++ le2 (v.port n).units)
        | _, _ => s.answerNo tag .mediaLoaded .badValue
      else s.answerNo tag .mediaLoaded .badValue
    else s.answerNo tag .mediaLoaded .notService) := by
  have mode : (s.holds tag).conds.mode = s.conds.mode := rfl
  have port (n : Fin 3) : (s.holds tag).port n = s.port n := rfl
  refine congrArg _ ((offers.take _).trans ?_)
  dsimp only
  rw [checked_cons, checked_cons, checked_nil, offers.refuse, offers.refuse, mode]
  refine if_congr decide_eq_true_iff (if_congr decide_eq_true_iff ?_ rfl) rfl
  cases fin? 3 (byteAt p 0) with
  | none => rfl
  | some n =>
    cases kindAt p 1 with
    | none => rfl
    | some kind =>
      dsimp only
      rw [checked_cons, checked_cons, checked_nil, offers.refuse, port]
      cases (s.port n).state <;> rfl

/-! ### The statement -/

/-- Settles O52: the checks the three requests share, then each by its port. -/
theorem attendantHoldsReleasesAndLoads : Obligations.AttendantHoldsReleasesAndLoads := by
  unfold Obligations.AttendantHoldsReleasesAndLoads
  refine ⟨fun c s tag p hc offers => ?_, fun s tag p n offers service named => ?_, fun s tag p n offers service named => ?_,
    fun s tag p offers service => ⟨fun bad => ?_, fun n k few named kind => ⟨fun busy => ?_, fun free => ?_⟩⟩⟩
  · simp only [List.mem_cons, List.not_mem_nil, or_false] at hc
    refine ⟨fun customer => ?_, fun service beyond => ?_⟩
    · have closed : ¬ s.conds.mode = .service := by rw [customer]; decide
      rcases hc with rfl | rfl | rfl
      · exact congrArg _ ((offers.onPort _).trans (if_neg closed))
      · exact congrArg _ ((offers.onPort _).trans (if_neg closed))
      · exact (mediaLoaded_answers offers).trans (congrArg _ (if_neg closed))
    · have none := fin?_eq_none beyond
      rcases hc with rfl | rfl | rfl
      · exact congrArg _ ((offers.onPort _).trans (by rw [if_pos service, none]))
      · exact congrArg _ ((offers.onPort _).trans (by rw [if_pos service, none]))
      · refine (mediaLoaded_answers offers).trans (congrArg _ ((if_pos service).trans ?_))
        rw [none]
        exact ite_self _
  · refine congrArg _ ((offers.onPort _).trans ?_)
    rw [if_pos service, fin?_eq_some named]
    dsimp only
    unfold State.portReply
    rw [holdPort_hold, holdPort_eq]
    rfl
  · refine congrArg _ ((offers.onPort _).trans ?_)
    rw [if_pos service, fin?_eq_some named]
    dsimp only
    unfold State.portReply
    rw [releasePort_hold, releasePort_eq]
    rfl
  · rw [mediaLoaded_answers offers, if_pos service]
    rcases bad with many | unnamed
    · rw [if_neg (Nat.not_le.2 many)]
    · rw [kindAt_eq_none unnamed]
      cases fin? 3 (byteAt p 0) <;> exact congrArg _ (ite_self _)
  · rw [mediaLoaded_answers offers, if_pos service, if_pos few, fin?_eq_some named, kindAt_eq_some kind]
    exact congrArg _ (if_pos busy)
  · have able : ∀ x ∈ [PortState.ready, .cooling, .fault, .offline, .held], x ∉ [PortState.absent, .feeding, .printing] := by
      decide
    rw [mediaLoaded_answers offers, if_pos service, if_pos few, fin?_eq_some named, kindAt_eq_some kind]
    refine congrArg _ ((if_neg (able _ free)).trans ?_)
    rw [loadMedia_eq]
    rfl

end Sys2Proof.Machine

/-! STATUS_REPORT by the port's state, with the comparison of the media kind and the recovery run (R144 to R147). -/

namespace Sys2Proof.Machine

variable {s : State} {p : Fin 3} {report : PrinterReport} {kind : MediaKind}

/-! ### A good STATUS recorded (R144, R145) -/

/-- A port behind a good STATUS, with a recorded kind and a recovery run. -/
def Port.reported (x : Port) (now : Nat) (report : PrinterReport) (kind : MediaKind) (k : Option MediaKind) (run : Nat) : Port :=
  { x with kind := k, run := run, heardAt := now, last := some (report, kind), errors := x.goodErrors }

/-- The state with that port. -/
def State.reported (s : State) (p : Fin 3) (report : PrinterReport) (kind : MediaKind) (k : Option MediaKind) (run : Nat) : State :=
  s.setPort p ((s.port p).reported s.now report kind k run)

theorem reported_port (s : State) (p : Fin 3) (report : PrinterReport) (kind : MediaKind) (k : Option MediaKind) (run : Nat) :
    (s.reported p report kind k run).port p = (s.port p).reported s.now report kind k run := State.port_setPort _ _ _

/-- A kind written behind the report is the report's with that kind. -/
theorem reported_setKind (s : State) (p : Fin 3) (report : PrinterReport) (kind : MediaKind) (k k' : Option MediaKind) (run : Nat) :
    (s.reported p report kind k run).setPort p { (s.reported p report kind k run).port p with kind := k' } =
      s.reported p report kind k' run := by
  rw [reported_port]
  exact setPort_setPort _ _ _ _

/-- A run written behind the report is the report's with that run. -/
theorem reported_setRun (s : State) (p : Fin 3) (report : PrinterReport) (kind : MediaKind) (k : Option MediaKind) (run run' : Nat) :
    (s.reported p report kind k run).setPort p { (s.reported p report kind k run).port p with run := run' } =
      s.reported p report kind k run' := by
  rw [reported_port]
  exact setPort_setPort _ _ _ _

/-- The silence interval restarted and the report recorded behind the good frame. -/
theorem framed_reported (s : State) (p : Fin 3) (report : PrinterReport) (kind : MediaKind) :
    (s.framed p).setPort p { (s.framed p).port p with heardAt := s.now, last := some (report, kind) } =
      s.reported p report kind (s.port p).kind (s.port p).run := by
  rw [framed_port]
  exact setPort_setPort _ _ _ _

/-! ### The comparison of the kind, by the port's state (R145, R147) -/

theorem statusReport_absent (absent : (s.port p).state = .absent) : s.statusReport p report kind =
    ((s.reported p report kind (s.port p).kind (s.port p).run).firstStatus p report kind).evalPrints := by
  have state : ((s.framed p).port p).state = .absent := by rw [framed_port]; exact absent
  unfold State.statusReport
  dsimp only
  rw [goodFrame_eq, framed_reported, state]

theorem statusReport_fault (fault : (s.port p).state = .fault) : s.statusReport p report kind =
    (s.reported p report kind (s.port p).kind (s.port p).run).evalPrints := by
  have state : ((s.framed p).port p).state = .fault := by rw [framed_port]; exact fault
  unfold State.statusReport
  dsimp only
  rw [goodFrame_eq, framed_reported, state]

/-- Outside ABSENT and FAULT a kind is recorded where none is, and compared where one is. -/
theorem statusReport_compares (present : (s.port p).state ∉ [.absent, .fault]) : s.statusReport p report kind = State.evalPrints (
    if (s.port p).kind = none ∨ (s.port p).kind = some kind then
      (s.reported p report kind (some kind) (s.port p).run).statusActs p report
    else (s.reported p report kind (s.port p).kind (s.port p).run).kindDiffers p) := by
  have same : ((s.framed p).port p).state = (s.port p).state ∧ ((s.framed p).port p).kind = (s.port p).kind := by
    rw [framed_port]
    exact ⟨rfl, rfl⟩
  unfold State.statusReport
  dsimp only
  rw [goodFrame_eq, framed_reported, same.1, same.2]
  split
  · next absent => exact absurd absent (fun h => present (by rw [h]; decide))
  · next fault => exact absurd fault (fun h => present (by rw [h]; decide))
  · next k recorded _ _ =>
    rw [recorded]
    simp only [Option.some_inj, reduceCtorEq, false_or]
    split_ifs with agrees
    · rw [agrees]
    · rfl
  · next recorded _ _ =>
    rw [recorded, if_pos (.inl rfl)]
    rw [reported_setKind]

/-! ### What a report does (R145, R146) -/

/-- The first report of a port, by the state reported. -/
theorem firstStatus_eq (t : State) (p : Fin 3) (report : PrinterReport) (kind : MediaKind) : t.firstStatus p report kind = (
    let u := t.setPort p { t.port p with kind := some kind }
    match report with
    | .ready => portReady u p .status
    | .error r => portMoved u p .fault (some (errorReason r)) .status
    | _ => portMoved u p .cooling none .status) := by
  unfold State.firstStatus
  dsimp only
  cases report with
  | ready => exact enterReady_eq _ _ _
  | busy => exact movePort_eq _ _ _ _ _
  | cooling => exact movePort_eq _ _ _ _ _
  | error r => exact movePort_eq _ _ _ _ _

section Acts

variable {t : State}

theorem statusActs_ready (state : (t.port p).state = .ready) : t.statusActs p report = (match report with
    | .ready => t
    | .error r => portMoved t p .fault (some (errorReason r)) .status
    | _ => portMoved t p .cooling none .status) := by
  unfold State.statusActs
  rw [state]
  cases report with
  | ready => rfl
  | busy => exact movePort_eq _ _ _ _ _
  | cooling => exact movePort_eq _ _ _ _ _
  | error r => exact movePort_eq _ _ _ _ _

theorem statusActs_attempting (state : (t.port p).state ∈ [.feeding, .printing]) : t.statusActs p report = (match report with
    | .error r => t.attemptFails p (errorReason r)
    | _ => t) := by
  simp only [List.mem_cons, List.not_mem_nil, or_false] at state
  unfold State.statusActs
  rcases state with feeding | printing
  · rw [feeding]
    cases report <;> rfl
  · rw [printing]
    cases report <;> rfl

theorem statusActs_cooling (state : (t.port p).state = .cooling) : t.statusActs p report = (match report with
    | .ready => portReady t p .status
    | .error r => portMoved t p .fault (some (errorReason r)) .status
    | _ => t) := by
  unfold State.statusActs
  rw [state]
  cases report with
  | ready => exact enterReady_eq _ _ _
  | busy => rfl
  | cooling => rfl
  | error r => exact movePort_eq _ _ _ _ _

theorem statusActs_held (state : (t.port p).state = .held) : t.statusActs p report = (match report with
    | .error r => portMoved t p .fault (some (errorReason r)) .status
    | _ => t) := by
  unfold State.statusActs
  rw [state]
  cases report with
  | error r => exact movePort_eq _ _ _ _ _
  | ready => rfl
  | busy => rfl
  | cooling => rfl

theorem statusActs_offline (state : (t.port p).state = .offline) : t.statusActs p report = t.recovering p report := by
  unfold State.statusActs
  rw [state]

theorem kindDiffers_attempting (state : (t.port p).state ∈ [.feeding, .printing]) :
    t.kindDiffers p = t.attemptFails p .mediaMismatch := by
  simp only [List.mem_cons, List.not_mem_nil, or_false] at state
  unfold State.kindDiffers
  rcases state with feeding | printing
  · rw [feeding]
  · rw [printing]

theorem kindDiffers_other (state : (t.port p).state ∉ [.feeding, .printing]) : t.kindDiffers p =
    portMoved (t.setPort p { t.port p with run := 0 }) p .fault (some .mediaMismatch) .status := by
  unfold State.kindDiffers
  rw [movePort_eq]
  split
  · next feeding => exact absurd (by rw [feeding]; decide) state
  · next printing => exact absurd (by rw [printing]; decide) state
  · rfl

end Acts

/-- The recovery run of an OFFLINE port (R146). -/
theorem recovering_reported (offline : (s.port p).state = .offline) :
    (s.reported p report kind (some kind) (s.port p).run).recovering p report =
      if report = .ready ∧ (s.port p).errors ≤ 1 then
        if (s.port p).run + 1 = 3 then portReady (s.reported p report kind (some kind) 0) p .recovered
        else s.reported p report kind (some kind) ((s.port p).run + 1)
      else s.reported p report kind (some kind) 0 := by
  have errors : (s.port p).goodErrors = 0 ↔ (s.port p).errors ≤ 1 := by
    unfold Port.goodErrors
    rw [offline, if_neg (by decide)]
    exact Nat.sub_eq_zero_iff_le
  unfold State.recovering
  dsimp only
  simp only [enterReady_eq, reported_setRun]
  rw [reported_port]
  exact if_congr (and_congr_right fun _ => errors) rfl rfl

/-! ### The statement -/

theorem exec_statusReport (running : s.power.starting = false) (p : Fin 3) (report : PrinterReport) (kind : MediaKind) :
    exec (.statusReport p report kind) s = .next (s.statusReport p report kind) :=
  congrArg Host.Outcome.next (heard_running running (fun t => t.statusReport p report kind))

/-- Settles O48: a report in ABSENT and FAULT, with another kind, and with its own kind by the state of the port. -/
theorem statusReportsMoveThePort : Obligations.StatusReportsMoveThePort := by
  unfold Obligations.StatusReportsMoveThePort
  intro s p report kind running
  dsimp only
  rw [exec_statusReport running]
  have state (k : Option MediaKind) (run : Nat) : ((s.reported p report kind k run).port p).state = (s.port p).state := by
    rw [reported_port]
    rfl
  have attempts : ∀ x ∈ [PortState.feeding, .printing], x ∉ [PortState.absent, .fault] := by decide
  have rests : ∀ x ∈ [PortState.ready, .cooling, .held, .offline], x ∉ [PortState.absent, .fault] ∧
    x ∉ [PortState.feeding, .printing] := by decide
  refine ⟨fun absent => ?_, fun fault => ?_, fun k recorded differs => ?_, fun agrees => ?_⟩
  · rw [statusReport_absent absent, firstStatus_eq, reported_setKind]
    cases report <;> rfl
  · rw [statusReport_fault fault]
    rfl
  · have other : ¬ ((s.port p).kind = none ∨ (s.port p).kind = some kind) := by
      rw [recorded]
      simp [differs]
    refine ⟨fun attempting => ?_, fun resting => ?_⟩
    · rw [statusReport_compares (attempts _ attempting), if_neg other, kindDiffers_attempting (by rwa [state])]
      rfl
    · obtain ⟨present, idle⟩ := rests _ resting
      rw [statusReport_compares present, if_neg other, kindDiffers_other (by rwa [state]), reported_setRun]
      rfl
  · have acts (present : (s.port p).state ∉ [.absent, .fault]) : s.statusReport p report kind =
        ((s.reported p report kind (some kind) (s.port p).run).statusActs p report).evalPrints :=
      (statusReport_compares present).trans (congrArg _ (if_pos agrees))
    refine ⟨fun ready => ?_, fun attempting => ?_, fun cooling => ?_, fun held => ?_, fun offline => ?_⟩
    · rw [acts (by rw [ready]; decide), statusActs_ready ((state _ _).trans ready)]
      cases report <;> rfl
    · rw [acts (attempts _ attempting), statusActs_attempting (by rwa [state])]
      cases report <;> rfl
    · rw [acts (by rw [cooling]; decide), statusActs_cooling ((state _ _).trans cooling)]
      cases report <;> rfl
    · rw [acts (by rw [held]; decide), statusActs_held ((state _ _).trans held)]
      cases report <;> rfl
    · rw [acts (by rw [offline]; decide), statusActs_offline ((state _ _).trans offline), recovering_reported offline]
      rfl

end Sys2Proof.Machine

/-! The door in service mode at every step (R162, R163, R174), and the end of start-up's load (R181). -/

namespace Sys2Proof.Machine

/-- Settles O7: every command keeps the door's rule, by `Keeps.door`, and a step on an empty queue reaches neither the conditions nor
the power state. -/
theorem stepKeepsServiceModeBehindTheDoor : Obligations.StepKeepsServiceModeBehindTheDoor := by
  unfold Obligations.StepKeepsServiceModeBehindTheDoor
  intro s t kept next
  refine step_keeps (P := State.DoorKept) (fun u v only doorKept => ?_) (fun u v keeps => keeps.door) next kept
  unfold State.DoorKept
  rw [only.conds, only.power]
  exact doorKept

/-- START and STORE_FAULT behind the load of start-up: the notice reads the cause of the reset and whether the load gave values. -/
theorem startNotice_loadFault (t : State) : t.startNotice.loadFault = (
    let u := t.notify 0xC0 ([if t.power.afterReset then 1 else 0] ++ [if t.store.loaded then 0 else 1]);
    if t.store.loaded = true then u else u.raiseKioskQuiet 2 [2]) := by
  have cause : t.resetCauseByte = [if t.power.afterReset then 1 else 0] := by
    unfold State.resetCauseByte
    cases t.power.afterReset <;> rfl
  have fault : t.storeStateByte = [if t.store.loaded then 0 else 1] := by
    unfold State.storeStateByte
    cases t.store.loaded <;> rfl
  unfold State.startNotice State.loadFault
  rw [cause, fault]
  rfl

/-- Settles O58: START-UP is written step by step as the statement has it. -/
theorem startUpEndsWithStart : Obligations.StartUpEndsWithStart := by
  unfold Obligations.StartUpEndsWithStart
  intro s reads first starting
  have taken : exec (.loadEnd reads first) s = .next (s.startUp reads first) := congrArg _ (if_pos starting)
  rw [taken]
  unfold State.startUp
  dsimp only
  rw [startNotice_loadFault]
  rfl

end Sys2Proof.Machine

/-! The sampled inputs (R162, R182), the wake causes (R184) and SET_MODE (R163). -/

namespace Sys2Proof.Machine

/-! ### The mode stays where no command of the mode sets it -/

/-- A kiosk bit resolved leaves the mode where the lockout leaves it. -/
theorem resolveKiosk_mode {lock : State → State} (kept : ∀ t, (lock t).conds.mode = t.conds.mode) (g : Trigger) (s : State)
    (i : Fin 16) : (State.resolveKiosk lock g s i).conds.mode = s.conds.mode := by
  rw [resolveKiosk_eq]
  dsimp only
  split_ifs
  · exact kept _
  · exact kept _
  · rfl
  · rfl

theorem reportLevelQuiet_mode (s : State) (i : Fin 16) (present : Bool) :
    (s.reportLevelQuiet i present).conds.mode = s.conds.mode := by
  unfold State.reportLevelQuiet State.reportLevelWith
  split_ifs
  · rfl
  · exact resolveKiosk_mode (fun _ => rfl) _ _ i
  · rfl

theorem freeRaster_mode (s : State) (o : OrderHandle) (l : Fin 16) : (s.freeRaster o l).conds.mode = s.conds.mode := by
  unfold State.freeRaster
  split
  · rfl
  · next x _ =>
    have answered := (State.ChangesOnly.refl s [.link]).each (s.spool.writes.filter (fun w => w.isOf o l))
      (fun t w => t.refuse w.tag .noRaster) (fun v w => State.ChangesOnly.refuse_op v _ _)
    unfold State.evalPressure
    rw [reportLevelQuiet_mode, (State.ChangesOnly.grantSpool_op _).conds, State.setSpool_conds, answered.conds]

theorem cancelOrder_mode (s : State) (h : OrderHandle) (o : Order) : (s.cancelOrder h o).conds.mode = s.conds.mode := by
  have freed := each_same (fun t : State => t.conds.mode) (fun t (x : Fin 16 × Line) => t.freeRaster h x.1)
    (fun t x => freeRaster_mode t h x.1) s o.used
  have fallen (t : State) := (State.ChangesOnly.refl t [.catalogue]).each o.used (fun t x => t.refFalls x.2.image)
    (fun v x => State.ChangesOnly.refFalls_op v x.2.image)
  unfold State.cancelOrder
  rw [(State.ChangesOnly.setOrderRecord_op _ _ _).conds, (State.ChangesOnly.clearUncommitted_op _ _ _).conds, (fallen _).conds]
  exact freed

theorem settle_mode (s : State) (r : Fin 8) : (s.settle r).conds.mode = s.conds.mode := by
  have idles (t : State) (slip : Option (Nat × BitVec 16)) : (t.goIdle r slip).conds.mode = t.conds.mode := by
    rw [goIdle_eq_idled]
    rfl
  rw [settle_eq]
  dsimp only
  split_ifs
  · exact idles s none
  · rw [idles, (State.ChangesOnly.issueSlip_op _ _ _ _).conds]
  · rfl
  · rfl

theorem closingExitOf_mode (s : State) (h : Option SessionHandle) : (s.closingExitOf h).conds.mode = s.conds.mode := by
  cases h with
  | none => rfl
  | some h =>
    rw [closingExitOf_some, leaveClosing_eq]
    dsimp only
    split_ifs
    · exact settle_mode _ _
    · rfl
    · rfl

theorem endUnapproved_mode (s : State) (a : Auth) (cause : OrderCause) :
    (s.endUnapproved a cause).conds.mode = s.conds.mode := by
  unfold State.endUnapproved
  split
  · rfl
  · next o _ =>
    have paid : ((s.addCredit o.session.record o.paidCredit).touchHandle o.session).conds = s.conds :=
      (State.ChangesOnly.touchHandle_op _ _).conds.trans (State.ChangesOnly.addCredit_op _ _ _).conds
    rw [closingExitOf_mode, ← paid]
    split_ifs
    · rw [(State.ChangesOnly.orderNotice_op _ _ _ _ _ _).conds, cancelOrder_mode]
    · rw [(State.ChangesOnly.orderNotice_op _ _ _ _ _ _).conds, (State.ChangesOnly.setOrder_op _ _ _).conds]

theorem lockout_mode (s : State) : s.lockout.conds.mode = s.conds.mode := by
  have locked : s.lockedWith.conds.mode = s.conds.mode := by
    unfold State.lockedWith
    rw [State.setTerminal_conds, lockedOut_conds]
  rw [lockout_eq_lockedWith, ← locked]
  exact each_same (fun t : State => t.conds.mode) _ (fun t a => endUnapproved_mode t a .lockout) _ _

theorem resolveSession_mode (g : Trigger) (r : Fin 8) (s : State) (i : Fin 8) :
    (State.resolveSession State.suspend g r s i).conds.mode = s.conds.mode := by
  obtain ⟨u, -, conds, eq⟩ := resolveSession_cases s State.suspend g r i
  have written : u.conds.mode = s.conds.mode := by rw [conds]; rfl
  rw [eq, ← written]
  split_ifs
  · rw [(State.ChangesOnly.suspend_op u r).conds]
  · rfl

/-- The resolution of every set bit, with the lockouts and suspensions it applies, leaves the mode. -/
theorem resolveSets_mode (s : State) (g : Trigger) : (s.resolveSets g).conds.mode = s.conds.mode := by
  unfold State.resolveSets State.resolveAll
  dsimp only
  refine (each_same (fun t : State => t.conds.mode) _ (fun t r => ?_) _ _).trans ?_
  · exact each_same (fun t : State => t.conds.mode) _ (resolveSession_mode g r) t _
  · exact each_same (fun t : State => t.conds.mode) _ (resolveKiosk_mode lockout_mode g) s _

theorem changeMode_eq (s : State) (m : Mode) : s.changeMode m = if s.conds.mode = m then s
    else State.resolveSets { s with conds := { s.conds with mode := m } } .mode := rfl

theorem changeMode_mode (s : State) (m : Mode) : (s.changeMode m).conds.mode = m := by
  rw [changeMode_eq]
  split_ifs with already
  · exact already
  · exact resolveSets_mode _ .mode

/-! ### Samples (R162, R163, R182) -/

/-- The reading differs from the confirmed state and is the eighth in a row. -/
def Input.Confirms (x : Input) (level : Bool) : Prop := level ≠ x.confirmed ∧ 7 ≤ x.run

theorem reading_confirming {x : Input} {level : Bool} (confirms : x.Confirms level) :
    x.reading level = (inputAfter x level, true) := by
  obtain ⟨differs, eighth⟩ := confirms
  have last : ¬ x.run + 1 < Config.inputRun := by
    show ¬ x.run + 1 < 8
    omega
  unfold Input.reading inputAfter
  rw [if_neg differs, if_neg differs, if_neg last, if_pos eighth]

theorem reading_unconfirming {x : Input} {level : Bool} (waits : ¬ x.Confirms level) :
    x.reading level = (inputAfter x level, false) := by
  unfold Input.reading inputAfter
  by_cases same : level = x.confirmed
  · rw [if_pos same, if_pos same]
  · have early : ¬ 7 ≤ x.run := fun eighth => waits ⟨same, eighth⟩
    have more : x.run + 1 < Config.inputRun := by
      show x.run + 1 < 8
      omega
    rw [if_neg same, if_neg same, if_pos more, if_neg early]

section Samples

variable {s : State} {level : Bool}

theorem doorSample_waits (waits : ¬ s.conds.door.Confirms level) :
    s.doorSample level = { s with conds := { s.conds with door := inputAfter s.conds.door level } } := by
  unfold State.doorSample
  rw [reading_unconfirming waits]
  rfl

theorem doorSample_confirms (confirms : s.conds.door.Confirms level) : s.doorSample level = (
    let t : State := { s with conds := { s.conds with door := inputAfter s.conds.door level } };
    if level then (t.reportLevel 1 true).wakeCause .door else (t.reportLevel 1 false).changeMode .customer) := by
  unfold State.doorSample
  rw [reading_confirming confirms]
  rfl

theorem supplySample_waits (waits : ¬ s.conds.supply.Confirms level) :
    s.supplySample level = { s with conds := { s.conds with supply := inputAfter s.conds.supply level } } := by
  unfold State.supplySample
  rw [reading_unconfirming waits]
  rfl

theorem supplySample_confirms (confirms : s.conds.supply.Confirms level) : s.supplySample level =
    State.reportLevel { s with conds := { s.conds with supply := inputAfter s.conds.supply level } } 0 level := by
  unfold State.supplySample
  rw [reading_confirming confirms]
  rfl

theorem presenceSample_waits (waits : ¬ s.power.presence.Confirms level) :
    s.presenceSample level = { s with power := { s.power with presence := inputAfter s.power.presence level } } := by
  unfold State.presenceSample
  rw [reading_unconfirming waits]
  rfl

theorem presenceSample_confirms (confirms : s.power.presence.Confirms level) : s.presenceSample level = (
    let t : State := { s with power := { s.power with presence := inputAfter s.power.presence level } };
    if level then t.wakeCause .presence else t) := by
  unfold State.presenceSample
  rw [reading_confirming confirms]
  rfl

/-- Before START a sample changes nothing (log 20). -/
theorem samples_starting (starting : s.power.starting = true) {c : Instr}
    (sample : c ∈ [.doorSample level, .supplySample level, .presenceSample level]) : exec c s = .next s := by
  have unheard (act : State → State) : s.heard act = s := if_pos starting
  simp only [List.mem_cons, List.not_mem_nil, or_false] at sample
  rcases sample with rfl | rfl | rfl
  · exact congrArg _ (unheard fun t => t.doorSample level)
  · exact congrArg _ (unheard fun t => t.supplySample level)
  · exact congrArg _ (unheard fun t => t.presenceSample level)

end Samples

/-! ### SET_MODE (R163) -/

theorem modeAt_code {p : List Byte} {k : Nat} {m : Mode} (named : byteAt p k = m.code) : modeAt p k = some m := by
  unfold modeAt
  rw [named]
  cases m <;> rfl

theorem modeAt_none {p : List Byte} {k : Nat} (above : 2 ≤ byteAt p k) : modeAt p k = none := by
  unfold modeAt
  split
  · omega
  · omega
  · rfl

section SetMode

variable {s : State} {tag : Byte} {p : List Byte}

theorem setMode_unnamed (offers : s.Offers .setMode tag p) (above : 2 ≤ byteAt p 0) :
    exec (.setMode tag) s = .next (s.answerNo tag .setMode .badValue) := by
  have taken : exec (.setMode tag) s = execSetMode tag s := rfl
  rw [taken]
  unfold execSetMode
  rw [offers.take, modeAt_none above]
  exact congrArg _ (offers.refuse _)

/-- A mode named, by whether the door lets it in. -/
theorem setMode_answers (offers : s.Offers .setMode tag p) {m : Mode} (named : byteAt p 0 = m.code) :
    exec (.setMode tag) s = .next (
      if m = .customer ∨ s.conds.mode = .service ∨ s.conds.door.confirmed = true then
        let t := (s.holds tag).changeMode m
        t.ok tag (le1 m.code ++ le1 (if t.conds.inService then 0 else 1))
      else s.answerNo tag .setMode .doorClosed) := by
  have taken : exec (.setMode tag) s = execSetMode tag s := rfl
  have admits : (decide (m = .customer ∨ (s.holds tag).conds.mode = .service) || (s.holds tag).conds.door.confirmed) = true ↔
      m = .customer ∨ s.conds.mode = .service ∨ s.conds.door.confirmed = true := by
    rw [Bool.or_eq_true, decide_eq_true_iff, or_assoc]
    rfl
  rw [taken]
  unfold execSetMode
  rw [offers.take, modeAt_code named]
  dsimp only
  rw [checked_cons, checked_nil, offers.refuse, changeMode_mode]
  exact congrArg _ (if_congr admits rfl rfl)

end SetMode

/-- Settles O53: a reading by whether it confirms, the wake causes, and SET_MODE by its mode and the door. -/
theorem eightReadingsConfirmAnInput : Obligations.EightReadingsConfirmAnInput := by
  unfold Obligations.EightReadingsConfirmAnInput
  refine ⟨fun s level c starting sample => samples_starting starting sample, fun s level running => ?_, fun _ _ => rfl,
    fun s tag p offers => ?_, changeMode_eq⟩
  · have door : exec (.doorSample level) s = .next (s.doorSample level) := congrArg _ (heard_running running _)
    have supply : exec (.supplySample level) s = .next (s.supplySample level) := congrArg _ (heard_running running _)
    have presence : exec (.presenceSample level) s = .next (s.presenceSample level) := congrArg _ (heard_running running _)
    rw [door, supply, presence]
    exact ⟨fun h => congrArg _ (doorSample_waits h), fun h => congrArg _ (doorSample_confirms h),
      fun h => congrArg _ (supplySample_waits h), fun h => congrArg _ (supplySample_confirms h),
      fun h => congrArg _ (presenceSample_waits h), fun h => congrArg _ (presenceSample_confirms h)⟩
  · refine ⟨setMode_unnamed offers, fun named customer closed => ?_, fun m named admitted =>
      ⟨_, rfl, changeMode_mode _ m, ?_⟩⟩
    · rw [setMode_answers offers (m := .service) named, if_neg (by simp [customer, closed])]
    · rw [setMode_answers offers named, if_pos admitted]

end Sys2Proof.Machine

/-! CONDITION_CLEAR and MASK_SET by their scope (R169, R170), and SERVICE_RESTORE (R171). -/

namespace Sys2Proof.Machine

/-! ### Bits cleared (R165, R169) -/

/-- The bits of a list cleared one after another: the bits, their recorded actions and the mask. -/
theorem foldl_unset {n : Nat} (c : CondSet n) (xs : List (Fin n)) :
    (∀ i : Fin n, (xs.foldl CondSet.unset c).bits.getLsbD i.val = (c.bits.getLsbD i.val && !xs.contains i)) ∧
    (∀ i, (xs.foldl CondSet.unset c).recorded.get i = if xs.contains i then .unset else c.recorded.get i) ∧
    (xs.foldl CondSet.unset c).mask = c.mask := by
  induction xs generalizing c with
  | nil => exact ⟨fun i => (Bool.and_true _).symm, fun _ => rfl, rfl⟩
  | cons x rest ih =>
    obtain ⟨bits, recorded, mask⟩ := ih (c.unset x)
    refine ⟨fun i => ?_, fun i => ?_, mask⟩
    · have cleared : (c.unset x).bits.getLsbD i.val = (decide (i.val ≠ x.val) && c.bits.getLsbD i.val) :=
        getLsbD_clearBit c.bits x i.val
      rw [List.foldl_cons, bits, cleared]
      by_cases same : i = x
      · simp [same]
      · simp [same, Fin.val_ne_of_ne same]
    · have written : (c.unset x).recorded.get i = if i = x then .unset else c.recorded.get i := get_put_read _ _ _ _
      rw [List.foldl_cons, recorded, written]
      by_cases same : i = x <;> simp [same]

theorem clearable_contains {n : Nat} (c : CondSet n) (level : Fin n → Bool) (named : BitVec n) (i : Fin n) :
    (c.clearable level named).contains i = (named.getLsbD i.val && c.bits.getLsbD i.val && !level i) := by
  unfold CondSet.clearable
  rw [List.contains_eq_mem, Bool.eq_iff_iff, decide_eq_true_iff, List.mem_filter]
  exact and_iff_right (mem_allFin i)

/-! ### What a cleared kiosk bit reaches (R169) -/

theorem clearReaches_op (s : State) (i : Fin 16) : s.ChangesOnly (s.clearReaches i) [.money] := by
  unfold State.clearReaches
  split
  · exact State.ChangesOnly.setUnit_op s _ _
  · exact State.ChangesOnly.setUnit_op s _ _
  · exact State.ChangesOnly.setChallenge_op s _
  · exact .refl s _

/-- The kiosk bit of a cash unit's jam, CASH_JAM_0 and CASH_JAM_1. -/
def jamBit (u : Fin 2) : Fin 16 := if u = 0 then 5 else 6

/-- What clearing the kiosk bits `gone` makes of the money: the jam flags of the units and the errors of the challenge. -/
structure MoneyCleared (s t : State) (gone : Fin 16 → Bool) : Prop where
  unit : ∀ u, t.unit u = { s.unit u with jammed := (s.unit u).jammed && !gone (jamBit u) }
  challenge : t.money.challenge = { s.money.challenge with errors := if gone 12 then 0 else s.money.challenge.errors }
  accounts : t.money.accounts = s.money.accounts
  till : t.money.till = s.money.till

/-- A unit whose jam bit stays is left as it is. -/
theorem jam_stays (x : CashUnit) {gone : Bool} (stays : gone = false) : x = { x with jammed := x.jammed && !gone } := by
  rw [stays, Bool.not_false, Bool.and_true]

/-- A unit's jam flag cleared, by the bit of that unit. -/
theorem jamCleared (s : State) (u : Fin 2) :
    MoneyCleared s (s.setUnit u { s.unit u with jammed := false }) (fun j => decide (j = jamBit u)) := by
  have otherBit {v : Fin 2} (h : v ≠ u) : decide (jamBit v = jamBit u) = false := by
    revert u v
    decide
  refine ⟨fun v => ?_, ?_, rfl, rfl⟩
  · by_cases same : u = v
    · subst same
      rw [State.unit_setUnit, decide_eq_true rfl, Bool.not_true, Bool.and_false]
    · rw [State.unit_setUnit_ne s same]
      exact jam_stays _ (otherBit (Ne.symm same))
  · have own : decide ((12 : Fin 16) = jamBit u) = false := by
      revert u
      decide
    rw [own]
    rfl

theorem clearReaches_cleared (s : State) (i : Fin 16) : MoneyCleared s (s.clearReaches i) (fun j => decide (j = i)) := by
  unfold State.clearReaches
  split
  · next five =>
    obtain rfl : i = 5 := Fin.ext five
    exact jamCleared s 0
  · next six =>
    obtain rfl : i = 6 := Fin.ext six
    exact jamCleared s 1
  · next twelve =>
    obtain rfl : i = 12 := Fin.ext twelve
    exact ⟨Fin.forall_fin_two.2 ⟨jam_stays _ rfl, jam_stays _ rfl⟩, rfl, rfl, rfl⟩
  · next five six twelve =>
    have stays (j : Fin 16) (other : i.val = j.val → False) : decide (j = i) = false :=
      decide_eq_false fun same => other (congrArg Fin.val same.symm)
    refine ⟨Fin.forall_fin_two.2 ⟨jam_stays _ (stays 5 five), jam_stays _ (stays 6 six)⟩, ?_, rfl, rfl⟩
    rw [stays 12 twelve]
    rfl

theorem MoneyCleared.trans {s t v : State} {f g : Fin 16 → Bool} (h : MoneyCleared s t f) (k : MoneyCleared t v g) :
    MoneyCleared s v (fun i => f i || g i) := by
  refine ⟨fun u => ?_, ?_, k.accounts.trans h.accounts, k.till.trans h.till⟩
  · rw [k.unit, h.unit, Bool.not_or, Bool.and_assoc]
  · rw [k.challenge, h.challenge]
    cases f 12 <;> cases g 12 <;> rfl

theorem each_clearReaches (s : State) (xs : List (Fin 16)) : MoneyCleared s (s.each xs State.clearReaches) xs.contains := by
  induction xs generalizing s with
  | nil => exact ⟨fun u => jam_stays _ rfl, rfl, rfl, rfl⟩
  | cons x rest ih =>
    have both : (x :: rest).contains = fun i => decide (i = x) || rest.contains i := by
      funext i
      rw [List.contains_cons]
      rfl
    rw [both]
    exact (clearReaches_cleared s x).trans (ih (s.clearReaches x))

/-! ### The requests by their scope (R13, R169, R170, log 34) -/

/-- A request on the conditions of a scope: the kiosk's in service mode, or a session's behind its handle. -/
def State.scoped (s : State) (c : RequestCode) (tag : Byte) (p : List Byte) (kiosk : State)
    (session : State → SessionHandle → State) : State :=
  match scopeAt p 0 with
  | none => s.refuse tag .badValue
  | some false => s.checked tag [(decide (s.conds.mode = .service), .notService)] kiosk
  | some true => s.withSession c tag p 1 session

theorem exec_conditionClear (tag : Byte) (s : State) : exec (.conditionClear tag) s = .next (s.take .conditionClear tag
  (fun t p => t.scoped .conditionClear tag p (t.clearKiosk tag (BitVec.ofNat 16 (num2At p 3)))
      (fun t h => t.clearSession tag h.record (BitVec.ofNat 8 (byteAt p 3))))) := rfl

theorem exec_maskSet (tag : Byte) (s : State) : exec (.maskSet tag) s = .next (s.take .maskSet tag
  (fun t p => t.scoped .maskSet tag p (t.maskKiosk tag (BitVec.ofNat 16 (num2At p 3)))
      (fun t h => t.maskSession tag h.record (BitVec.ofNat 8 (byteAt p 3))))) := rfl

/-- Both requests are a taking, the scope, and a part of their own for each scope. -/
theorem exec_scoped {c : RequestCode} (hc : c ∈ [.conditionClear, .maskSet]) (tag : Byte) :
    ∃ (kiosk : List Byte → State → State) (session : List Byte → State → SessionHandle → State), ∀ s,
      exec (c.instr tag) s = .next (s.take c tag (fun t p => t.scoped c tag p (kiosk p t) (session p))) := by
  simp only [List.mem_cons, List.not_mem_nil, or_false] at hc
  rcases hc with rfl | rfl
  · exact ⟨_, _, exec_conditionClear tag⟩
  · exact ⟨_, _, exec_maskSet tag⟩

theorem scopeAt_kiosk {p : List Byte} {k : Nat} (named : byteAt p k = 0) : scopeAt p k = some false := by
  unfold scopeAt
  rw [named]
  rfl

theorem scopeAt_session {p : List Byte} {k : Nat} (named : byteAt p k = 1) : scopeAt p k = some true := by
  unfold scopeAt
  rw [named]
  rfl

theorem scopeAt_none {p : List Byte} {k : Nat} (above : 2 ≤ byteAt p k) : scopeAt p k = none := by
  unfold scopeAt
  split
  · omega
  · omega
  · rfl

section Scoped

variable {s : State} {c : RequestCode} {tag : Byte} {p : List Byte} {kiosk : State} {session : State → SessionHandle → State}

theorem scoped_unnamed (offers : s.Offers c tag p) (above : 2 ≤ byteAt p 0) :
    (s.holds tag).scoped c tag p kiosk session = s.answerNo tag c .badValue := by
  unfold State.scoped
  rw [scopeAt_none above]
  exact offers.refuse _

theorem scoped_customer (offers : s.Offers c tag p) (named : byteAt p 0 = 0) (customer : s.conds.mode = .customer) :
    (s.holds tag).scoped c tag p kiosk session = s.answerNo tag c .notService := by
  have mode : (s.holds tag).conds.mode = .customer := customer
  unfold State.scoped
  rw [scopeAt_kiosk named]
  dsimp only
  rw [mode]
  exact offers.refuse _

theorem scoped_kiosk (named : byteAt p 0 = 0) (service : s.conds.mode = .service) :
    s.scoped c tag p kiosk session = kiosk := by
  unfold State.scoped
  rw [scopeAt_kiosk named]
  dsimp only
  rw [service]
  rfl

theorem scoped_session (named : byteAt p 0 = 1) : s.scoped c tag p kiosk session = s.withSession c tag p 1 session := by
  unfold State.scoped
  rw [scopeAt_session named]

/-- R23 lets both requests through in every state of a current session. -/
theorem scoped_takes (hc : c ∈ [.conditionClear, .maskSet]) {h : SessionHandle} (current : s.current h = true) :
    sessionRefusal c (s.record h.record).state = none := by
  obtain ⟨inUse, -⟩ := (current_iff s h).1 current
  have taken : c.inSuspended = true ∧ c.inLater = true := by
    revert hc
    cases c <;> decide
  obtain ⟨suspended, later⟩ := taken
  unfold sessionRefusal
  cases state : (s.record h.record).state with
  | idle => exact absurd state inUse
  | active => rfl
  | suspended => exact if_pos suspended
  | closing => exact if_pos later
  | draining => exact if_pos later
  | settling => exact if_pos later

/-- A current session's own part, behind the restart of its timer. -/
theorem scoped_current (hc : c ∈ [.conditionClear, .maskSet]) (named : byteAt p 0 = 1) {h : SessionHandle}
    (record : byteAt p 1 = h.record.val) (gen : p.getD 2 0 = h.gen) (current : s.current h = true) :
    (s.holds tag).scoped c tag p kiosk session = session ((s.touch h.record).holds tag) h := by
  rw [scoped_session named, withSession_taken record gen current (scoped_takes hc current)]

/-- Another scope, the kiosk's out of service mode, and a handle that names no current session. -/
theorem scoped_refusals (hc : c ∈ [.conditionClear, .maskSet]) (offers : s.Offers c tag p) :
    (2 ≤ byteAt p 0 → exec (c.instr tag) s = .next (s.answerNo tag c .badValue)) ∧
    (byteAt p 0 = 0 → s.conds.mode = .customer → exec (c.instr tag) s = .next (s.answerNo tag c .notService)) ∧
    (byteAt p 0 = 1 → 8 ≤ byteAt p 1 → exec (c.instr tag) s = .next (s.answerNo tag c .badValue)) ∧
    (∀ h : SessionHandle, byteAt p 0 = 1 → byteAt p 1 = h.record.val → p.getD 2 0 = h.gen → s.current h = false →
      exec (c.instr tag) s = .next (s.answerNo tag c .staleHandle)) := by
  obtain ⟨kiosk, session, taking⟩ := exec_scoped hc tag
  rw [taking, offers.take]
  refine ⟨fun above => ?_, fun named customer => ?_, fun named beyond => ?_, fun h named record gen stale => ?_⟩
  · rw [scoped_unnamed offers above]
  · rw [scoped_customer offers named customer]
  · rw [scoped_session named, withSession_badValue offers beyond]
  · rw [scoped_session named, withSession_stale offers record gen stale]

end Scoped

/-! ### CONDITION_CLEAR (R169) -/

section Clear

variable {s : State} {tag : Byte} {p : List Byte}

theorem conditionClear_kiosk (offers : s.Offers .conditionClear tag p) (named : byteAt p 0 = 0)
    (service : s.conds.mode = .service) :
    exec (.conditionClear tag) s = .next ((s.holds tag).clearKiosk tag (BitVec.ofNat 16 (num2At p 3))) := by
  have mode : (s.holds tag).conds.mode = .service := service
  rw [exec_conditionClear, offers.take, scoped_kiosk named mode]

theorem conditionClear_session (offers : s.Offers .conditionClear tag p) (named : byteAt p 0 = 1) {h : SessionHandle}
    (record : byteAt p 1 = h.record.val) (gen : p.getD 2 0 = h.gen) (current : s.current h = true) :
    exec (.conditionClear tag) s =
      .next (((s.touch h.record).holds tag).clearSession tag h.record (BitVec.ofNat 8 (byteAt p 3))) := by
  rw [exec_conditionClear, offers.take, scoped_current (by decide) named record gen current]

/-- The kiosk bits `gone` cleared, with what that reaches, before the reply. -/
structure KioskCleared (s t : State) (gone : Fin 16 → Bool) : Prop where
  bits : ∀ i : Fin 16, t.conds.kiosk.bits.getLsbD i.val = (s.conds.kiosk.bits.getLsbD i.val && !gone i)
  recorded : ∀ i, t.conds.kiosk.recorded.get i = if gone i then .unset else s.conds.kiosk.recorded.get i
  mask : t.conds.kiosk.mask = s.conds.kiosk.mask
  others : t.conds = { s.conds with kiosk := t.conds.kiosk }
  money : MoneyCleared s t gone
  only : s.ChangesOnly t [.conds, .money]

theorem each_clearReaches_cleared (s : State) (xs : List (Fin 16)) :
    KioskCleared s ((s.setKioskSet (xs.foldl CondSet.unset s.conds.kiosk)).each xs State.clearReaches) xs.contains := by
  obtain ⟨bits, recorded, mask⟩ := foldl_unset s.conds.kiosk xs
  have written := State.ChangesOnly.setKioskSet_op s (xs.foldl CondSet.unset s.conds.kiosk)
  generalize xs.foldl CondSet.unset s.conds.kiosk = set at bits recorded mask written
  have only := (State.ChangesOnly.refl (s.setKioskSet set) [.money]).each xs State.clearReaches clearReaches_op
  obtain ⟨unit, challenge, accounts, till⟩ := each_clearReaches (s.setKioskSet set) xs
  have conds : ((s.setKioskSet set).each xs State.clearReaches).conds = { s.conds with kiosk := set } := only.conds
  refine ⟨fun i => ?_, fun i => ?_, ?_, ?_, ⟨unit, challenge, accounts, till⟩, (written.mono (by decide)).after only (by decide)⟩
  · rw [conds, bits]
  · rw [conds, recorded]
  · rw [conds, mask]
  · rw [conds]

/-- CONDITION_CLEAR of the kiosk's scope clears the set event bits it names, and replies with them and with what is left. -/
theorem clearKiosk_cleared (s : State) (tag : Byte) (named : BitVec 16) :
    let gone : Fin 16 → Bool := fun i => named.getLsbD i.val && s.conds.kiosk.bits.getLsbD i.val && !kioskLevel i
    ∃ t, s.clearKiosk tag named = t.ok tag (le2 (bitsOf gone).toNat ++ le2 t.conds.kiosk.bits.toNat) ∧
      KioskCleared s t gone := by
  intro gone
  have contains : (s.conds.kiosk.clearable kioskLevel named).contains = gone :=
    funext (clearable_contains s.conds.kiosk kioskLevel named)
  rw [← contains]
  exact ⟨_, rfl, each_clearReaches_cleared s _⟩

/-- CONDITION_CLEAR of a session's scope clears the set bits it names. -/
theorem clearSession_cleared (s : State) (tag : Byte) (r : Fin 8) (named : BitVec 8) :
    let set := s.sessionSet r
    let gone : Fin 8 → Bool := fun i => named.getLsbD i.val && set.bits.getLsbD i.val
    ∃ c : CondSet 8, s.clearSession tag r named =
        (s.setSessionSet r c).ok tag (le1 (bitsOf gone).toNat ++ le1 c.bits.toNat) ∧
      (∀ i : Fin 8, c.bits.getLsbD i.val = (set.bits.getLsbD i.val && !gone i)) ∧
      (∀ i, c.recorded.get i = if gone i then .unset else set.recorded.get i) ∧ c.mask = set.mask := by
  intro set gone
  have contains : (set.clearable (fun _ => false) named).contains = gone :=
    funext fun i => (clearable_contains set _ named i).trans (Bool.and_true _)
  rw [← contains]
  refine ⟨_, ?_, foldl_unset set _⟩
  unfold State.clearSession
  dsimp only
  rw [State.sessionSet_setSessionSet]

end Clear

/-! ### MASK_SET (R170) -/

section Mask

variable {s : State} {tag : Byte} {p : List Byte}

theorem maskSet_kiosk (offers : s.Offers .maskSet tag p) (named : byteAt p 0 = 0) (service : s.conds.mode = .service) :
    exec (.maskSet tag) s = .next ((s.holds tag).maskKiosk tag (BitVec.ofNat 16 (num2At p 3))) := by
  have mode : (s.holds tag).conds.mode = .service := service
  rw [exec_maskSet, offers.take, scoped_kiosk named mode]

theorem maskSet_session (offers : s.Offers .maskSet tag p) (named : byteAt p 0 = 1) {h : SessionHandle}
    (record : byteAt p 1 = h.record.val) (gen : p.getD 2 0 = h.gen) (current : s.current h = true) :
    exec (.maskSet tag) s = .next (((s.touch h.record).holds tag).maskSession tag h.record (BitVec.ofNat 8 (byteAt p 3))) := by
  rw [exec_maskSet, offers.take, scoped_current (by decide) named record gen current]

end Mask

/-! ### SERVICE_RESTORE (R171) -/

theorem lockoutPending_iff (s : State) : s.lockoutPending = true ↔ ∃ i, s.kioskResolved i = .lockout := by
  unfold State.lockoutPending
  rw [List.any_eq_true]
  simp only [mem_allFin, true_and, decide_eq_true_iff]

theorem serviceRestore_answers {s : State} {tag : Byte} {p : List Byte} (offers : s.Offers .serviceRestore tag p) :
    exec (.serviceRestore tag) s = .next (
      if s.lockoutPending = true then s.answerNo tag .serviceRestore .conditionPending
      else (s.holds tag).restoreService.ok tag (s.holds tag).restoreService.serviceByte) := by
  have taken : exec (.serviceRestore tag) s = execServiceRestore tag s := rfl
  have pending : (s.holds tag).lockoutPending = s.lockoutPending := rfl
  rw [taken]
  unfold execServiceRestore
  rw [offers.take, checked_cons, checked_nil, offers.refuse, pending]
  cases s.lockoutPending <;> rfl

/-- Settles O55: the two requests by their scope, what each clears or resolves, and SERVICE_RESTORE. -/
theorem conditionsAreClearedMaskedAndRestored : Obligations.ConditionsAreClearedMaskedAndRestored := by
  unfold Obligations.ConditionsAreClearedMaskedAndRestored
  refine ⟨fun c s tag p hc offers => scoped_refusals hc offers, fun s tag p offers named service => ?_,
    fun s tag p h offers named record gen current => ?_, fun s tag p offers named service => ?_,
    fun s tag p h offers named record gen current => ?_, fun s tag p offers => ⟨fun locks => ?_, fun free => ?_⟩⟩
  · obtain ⟨t, answer, bits, recorded, mask, others, ⟨unit, challenge, accounts, till⟩, only⟩ :=
      clearKiosk_cleared (s.holds tag) tag (BitVec.ofNat 16 (num2At p 3))
    refine ⟨t, ?_, bits, recorded, mask, (congrArg Conditions.sessions others :), (congrArg Conditions.inService others :),
      (congrArg Conditions.mode others :), unit, challenge, accounts, till, only.link,
      ((State.ChangesOnly.holds_op s tag).mono (by decide)).after only (by decide)⟩
    rw [conditionClear_kiosk offers named service, answer]
    rfl
  · obtain ⟨c, answer, bits, recorded, mask⟩ :=
      clearSession_cleared ((s.touch h.record).holds tag) tag h.record (BitVec.ofNat 8 (byteAt p 3))
    have conds : ((s.touch h.record).holds tag).conds = s.conds := (State.ChangesOnly.touch_op s h.record).conds
    have own := State.sessionSet_setSessionSet ((s.touch h.record).holds tag) h.record c
    rw [sessionSet_congr conds] at answer bits recorded mask
    refine ⟨((s.touch h.record).holds tag).setSessionSet h.record c, ?_, ?_, ?_, ?_, fun r other => ?_,
      (congrArg Conditions.kiosk conds :), (congrArg Conditions.mode conds :), (congrArg Conditions.inService conds :),
      ((State.ChangesOnly.holds_op _ tag).mono (by decide)).after (State.ChangesOnly.setSessionSet_op _ _ _) (by decide)⟩
    · rw [conditionClear_session offers named record gen current, answer, own]
    · rw [own]
      exact bits
    · rw [own]
      exact recorded
    · rw [own]
      exact mask
    · rw [sessionSet_setSessionSet_eq, if_neg other, sessionSet_congr conds]
  · rw [maskSet_kiosk offers named service]
    rfl
  · have touched : ((s.touch h.record).holds tag).sessionSet h.record = s.sessionSet h.record :=
      sessionSet_congr (State.ChangesOnly.touch_op s h.record).conds h.record
    rw [maskSet_session offers named record gen current]
    unfold State.maskSession
    rw [touched]
    rfl
  · rw [serviceRestore_answers offers, if_pos ((lockoutPending_iff s).2 locks)]
  · rw [serviceRestore_answers offers, if_neg (fun pending => absurd ((lockoutPending_iff s).1 pending) (by simpa using free))]
    rfl

end Sys2Proof.Machine

/-! The Settings Store: a save, a check and a load from their request to their end, and what an image holds (R178 to R180). -/

namespace Sys2Proof.Machine

/-! ### The requests -/

section Requests

variable {s : State} {c : RequestCode} {tag : Byte} {p : List Byte}

/-- The operation that a store request begins. -/
def RequestCode.storeOp (tag : Byte) : RequestCode → StoreOp
  | .storeSave => .saving tag
  | .storeCheck => .checking tag
  | _ => .loading tag

/-- A save and a reload look at the mode and at the running operation. -/
theorem serviceStore_answers (hc : c ∈ [.storeSave, .storeReload]) (offers : s.Offers c tag p) :
    exec (c.instr tag) s = .next (
      if s.conds.mode = .customer then s.answerNo tag c .notService
      else if s.store.op ≠ .idle then s.answerNo tag c .busy
      else (s.holds tag).setOp (c.storeOp tag)) := by
  have taking : exec (c.instr tag) s = .next (s.take c tag (fun t _ =>
      t.checked tag [(decide (t.conds.mode = .service), .notService), (!t.storeBusy, .busy)] (t.setOp (c.storeOp tag)))) := by
    simp only [List.mem_cons, List.not_mem_nil, or_false] at hc
    rcases hc with rfl | rfl <;> rfl
  rw [taking, offers.take, serviceIdle_checked offers, checked_nil]

/-- A check is open in both modes. -/
theorem storeCheck_answers (offers : s.Offers .storeCheck tag p) :
    exec (.storeCheck tag) s = .next (
      if s.store.op ≠ .idle then s.answerNo tag .storeCheck .busy else (s.holds tag).setOp (.checking tag)) := by
  have taking : exec (.storeCheck tag) s = execStoreCheck tag s := rfl
  have busy : (s.holds tag).storeBusy = decide (s.store.op ≠ .idle) := rfl
  rw [taking]
  unfold execStoreCheck
  rw [offers.take, checked_cons, checked_nil, offers.refuse, busy]
  by_cases op : s.store.op = .idle <;> simp [op]

theorem storeRequest_customer (hc : c ∈ [.storeSave, .storeCheck, .storeReload]) (offers : s.Offers c tag p)
    (customer : s.conds.mode = .customer) (other : c ≠ .storeCheck) :
    exec (c.instr tag) s = .next (s.answerNo tag c .notService) := by
  have service : c ∈ [.storeSave, .storeReload] := by simpa [other] using hc
  rw [serviceStore_answers service offers, if_pos customer]

/-- Past the check of the mode. -/
theorem storeRequest_service (hc : c ∈ [.storeSave, .storeCheck, .storeReload]) (offers : s.Offers c tag p)
    (passed : s.conds.mode = .service ∨ c = .storeCheck) :
    exec (c.instr tag) s = .next (
      if s.store.op ≠ .idle then s.answerNo tag c .busy else (s.holds tag).setOp (c.storeOp tag)) := by
  by_cases check : c = .storeCheck
  · subst check
    exact storeCheck_answers offers
  · have service : c ∈ [.storeSave, .storeReload] := by simpa [check] using hc
    have mode : ¬ s.conds.mode = .customer := by
      rw [passed.resolve_right check]
      decide
    rw [serviceStore_answers service offers, if_neg mode]

end Requests

/-! ### The image (R178, log 5) -/

theorem imageValues_length (w : WorkingCopy) (t : PriceTable) (revision : BitVec 16) :
    (imageValues w t revision).length = imageSettings := by
  simp [imageValues, imageSettings]

theorem flatMap_le4_length (xs : List Nat) : (xs.flatMap le4).length = 4 * xs.length := by
  induction xs with
  | nil => rfl
  | cons v rest ih =>
    have four : (le4 v).length = 4 := rfl
    rw [List.flatMap_cons, List.length_append, ih, four, List.length_cons]
    omega

/-- A body of the image's length, closed by its CRC, matches. -/
theorem imageMatches_closed {body : List Byte} (length : body.length = 4 * imageSettings) :
    imageMatches (body ++ crcBytes body) = true := by
  have crc : (crcBytes body).length = 2 := rfl
  unfold imageMatches
  rw [List.drop_left' length, List.take_left' length, List.length_append, length, crc]
  simp

theorem imageMatches_saved (w : WorkingCopy) (t : PriceTable) (revision : BitVec 16) :
    imageMatches ((imageValues w t revision).flatMap le4 ++ crcBytes ((imageValues w t revision).flatMap le4)) = true :=
  imageMatches_closed (by rw [flatMap_le4_length, imageValues_length])

/-! ### The values of an image (R180) -/

theorem imageValue_eq (bytes : List Byte) (k : Nat) : imageValue bytes k = byteAt bytes (4 * k) +
    256 * byteAt bytes (4 * k + 1) + 65536 * byteAt bytes (4 * k + 2) + 16777216 * byteAt bytes (4 * k + 3) := by
  have high : num2At bytes (4 * k + 2) = byteAt bytes (4 * k + 2) + 256 * byteAt bytes (4 * k + 3) := rfl
  unfold imageValue num4At
  rw [high]
  unfold num2At
  omega

/-- What a loaded value is held to: a name beyond its list to the last one (log 5), any other value as a put is. -/
def heldTo (kind : Option SettingKind) (v : Nat) : Nat :=
  match kind with
  | some (.names j) => min v (j - 1)
  | some k => settingTakes k v
  | none => 0

theorem clamp_heldTo {kind : Option SettingKind} (up : ∀ k, kind = some k → k.upwards = true) (v : Nat) :
    (kind.map (fun k => k.clamp v)).getD 0 = heldTo kind v := by
  cases kind with
  | none => rfl
  | some k =>
    cases k with
    | names j => rfl
    | range lo hi => exact clamp_eq (up _ rfl) (fun j h => by cases h)
    | bits w => rfl

/-- An area of an image whose kinds are those of the table. -/
theorem imageArea_get {kind : Nat → Option SettingKind} {area : Nat} (rows : ∀ n, kind n = kindOf area n)
    (bytes : List Byte) (k n : Nat) (i : Fin n) :
    (imageArea bytes kind k n).get i = heldTo (kindOf area i.val) (imageValue bytes (k + i.val)) := by
  have item : (imageArea bytes kind k n).get i = ((kind i.val).map (fun c => c.clamp (imageValue bytes (k + i.val)))).getD 0 :=
    Vector.getElem_ofFn i.isLt
  rw [item, rows, clamp_heldTo (fun _ h => kindOf_upwards h)]

/-! ### The load (R180) -/

section Load

variable {x : Store} {reads : List StoreRead}

theorem load_of_none (fails : loadedImage x.image reads = none) : x.load reads = { x with
    working := WorkingCopy.defaults, protection := 0, draft := PriceTable.defaults, modified := false
    published := PriceTable.defaults, revision := 0, valid := false, loaded := false } := by
  unfold Store.load
  rw [fails]

theorem load_of_some {b : List Byte} (found : loadedImage x.image reads = some b) : x.load reads = { x with
    working := imageWorking b, protection := BitVec.ofNat 7 ((imageWorking b).a7.get 0)
    draft := imageArea b priceKind 13 37, modified := false, published := imageArea b priceKind 13 37
    revision := imageRevision b, valid := true, loaded := true } := by
  unfold Store.load
  rw [found]

/-- What every load leaves: the stored image and the operation, and a draft that is the published table. -/
theorem load_frame (x : Store) (reads : List StoreRead) : (x.load reads).image = x.image ∧ (x.load reads).op = x.op ∧
    (x.load reads).draft = (x.load reads).published ∧ (x.load reads).modified = false := by
  cases found : loadedImage x.image reads with
  | none =>
    rw [load_of_none found]
    exact ⟨rfl, rfl, rfl, rfl⟩
  | some b =>
    rw [load_of_some found]
    exact ⟨rfl, rfl, rfl, rfl⟩

theorem loadedImage_none (fails : ∀ b ∈ (loadAttempts reads).map (readBytes x.image), imageMatches b = false) :
    loadedImage x.image reads = none :=
  List.find?_eq_none.2 (fun b hb => by rw [fails b hb]; decide)

/-- The first read that matches is the one taken. -/
theorem loadedImage_first {before after : List (List Byte)} {b : List Byte}
    (attempts : (loadAttempts reads).map (readBytes x.image) = before ++ b :: after)
    (fails : ∀ a ∈ before, imageMatches a = false) (good : imageMatches b = true) : loadedImage x.image reads = some b :=
  List.find?_eq_some_iff_append.2 ⟨good, before, after, attempts, fun a ha => by rw [fails a ha]; rfl⟩

end Load

/-! ### The ends of the operations (R178 to R180) -/

section Ends

variable {s : State} {tag : Byte}

theorem exec_saveEnd (s : State) (read : StoreRead) : exec (.saveEnd read) s = .next (s.saveEnds read) := rfl

theorem exec_checkEnd (s : State) (read : StoreRead) : exec (.checkEnd read) s = .next (s.checkEnds read) := rfl

theorem saveEnds_saving (saving : s.store.op = .saving tag) (read : StoreRead) : s.saveEnds read = (
    let image := readBytes s.store.saved read
    let t := s.setStore { s.store with image := image, op := .idle }
    if imageMatches image = true then t.ok tag [] else (t.raiseKioskQuiet 2 saveDetail).refuse tag .storeError) := by
  unfold State.saveEnds
  rw [saving]

theorem saveEnds_other (other : ∀ tag, s.store.op ≠ .saving tag) (read : StoreRead) : s.saveEnds read = s := by
  unfold State.saveEnds
  split
  · next tag saving => exact absurd saving (other tag)
  · rfl

theorem checkEnds_checking (checking : s.store.op = .checking tag) (read : StoreRead) : s.checkEnds read = (
    let t := s.setOp .idle
    if imageMatches (readBytes s.store.image read) = true then t.ok tag (le1 0)
    else (t.raiseKioskQuiet 2 checkDetail).ok tag (le1 1)) := by
  unfold State.checkEnds
  rw [checking]

theorem checkEnds_other (other : ∀ tag, s.store.op ≠ .checking tag) (read : StoreRead) : s.checkEnds read = s := by
  unfold State.checkEnds
  split
  · next tag checking => exact absurd checking (other tag)
  · rfl

theorem loadEnd_loading (started : s.power.starting = false) (loading : s.store.op = .loading tag) (reads : List StoreRead)
    (first : FirstSamples) : exec (.loadEnd reads first) s = .next (s.reloadEnds tag reads) := by
  have ends : exec (.loadEnd reads first) s = execLoadEnd reads first s := rfl
  rw [ends]
  unfold execLoadEnd
  rw [started, loading]
  rfl

theorem loadEnd_other (started : s.power.starting = false) (other : ∀ tag, s.store.op ≠ .loading tag) (reads : List StoreRead)
    (first : FirstSamples) : exec (.loadEnd reads first) s = .next s := by
  have ends : exec (.loadEnd reads first) s = execLoadEnd reads first s := rfl
  rw [ends]
  unfold execLoadEnd
  rw [if_neg (by rw [started]; decide)]
  split
  · next tag loading => exact absurd loading (other tag)
  · rfl

/-- STORE_FAULT and the reply read whether the load gave values, which neither the blocks nor the fault change. -/
theorem reloadEnds_eq (s : State) (tag : Byte) (reads : List StoreRead) : s.reloadEnds tag reads = (
    let t := s.setStore { s.store.load reads with op := .idle }
    let u := t.settingsChanged s.store.working
    if (s.store.load reads).loaded = true then u.ok tag [0] else (u.raiseKioskQuiet 2 loadDetail).ok tag [1]) := by
  unfold State.reloadEnds State.loadFault
  dsimp only
  have store := (settingsChanged_op s.store.working (s.setStore { s.store.load reads with op := .idle })).store
  generalize (s.setStore { s.store.load reads with op := .idle }).settingsChanged s.store.working = u at store
  have loaded : u.store.loaded = (s.store.load reads).loaded := (congrArg Store.loaded store :)
  have kept : (u.raiseKioskQuiet 2 loadDetail).store = u.store := (State.ChangesOnly.raiseKioskQuiet_op u 2 _).store
  unfold State.storeStateByte
  cases found : (s.store.load reads).loaded with
  | true =>
    rw [found] at loaded
    simp only [loaded, if_true]
    rfl
  | false =>
    rw [found] at loaded
    simp only [loaded, kept, Bool.false_eq_true, if_false]
    rfl

end Ends

/-! ### The statement -/

/-- Settles O57: the requests check by check, the ends of the operations, and the image a save closes and a load takes. -/
theorem theStoreIsSavedCheckedAndLoaded : Obligations.TheStoreIsSavedCheckedAndLoaded := by
  unfold Obligations.TheStoreIsSavedCheckedAndLoaded
  refine ⟨fun c s tag p hc offers => ⟨storeRequest_customer hc offers, fun passed => ⟨fun busy => ?_, fun idle => ?_⟩⟩,
    imageMatches_saved,
    fun s read reads first => ⟨fun other => ?_, fun other => ?_, fun started other => loadEnd_other started other reads first⟩,
    fun s tag read saving => ?_, fun s tag read checking => ?_, fun s tag reads first started loading => ?_,
    fun x reads => ?_, fun b => ?_⟩
  · rw [storeRequest_service hc offers passed, if_pos busy]
  · rw [storeRequest_service hc offers passed, if_neg (not_not.2 idle)]
    rfl
  · rw [exec_saveEnd, saveEnds_other other]
  · rw [exec_checkEnd, checkEnds_other other]
  · rw [exec_saveEnd, saveEnds_saving saving]
    rfl
  · rw [exec_checkEnd, checkEnds_checking checking]
    rfl
  · rw [loadEnd_loading started loading, reloadEnds_eq]
    rfl
  · obtain ⟨image, op, draft, modified⟩ := load_frame x reads
    refine ⟨image, op, draft, modified, fun fails => load_of_none (loadedImage_none fails),
      fun before b after attempts fails good => ?_⟩
    rw [load_of_some (loadedImage_first attempts fails good)]
    exact ⟨rfl, rfl, rfl, rfl, rfl, rfl⟩
  · intro v held w
    have value : ∀ k, imageValue b k = v k := imageValue_eq b
    have setting {area : Nat} (other : area ≠ 2) (k n : Nat) (i : Fin n) :
        (imageArea b (settingKind area) k n).get i = held area i.val (k + i.val) := by
      rw [imageArea_get (fun n => settingKind_eq n other), value]
      rfl
    refine ⟨value, fun i => ?_, fun i => ?_, setting (by decide) 1 12, setting (by decide) 51 66, setting (by decide) 117 2,
      setting (by decide) 119 3, setting (by decide) 122 2, setting (by decide) 124 1⟩
    · rw [imageArea_get priceKind_eq, value]
      rfl
    · exact (setting (by decide) 0 1 i).trans (by rw [Nat.zero_add])

end Sys2Proof.Machine

/-! A card slot's operations, each as an update of the slot it finds: the card bus and its arbiter (R39, R49), a reading of presence (R38,
R39), a confirmed removal (R43, R44). -/

namespace Sys2Proof.Machine

variable {s t : State} {n : Fin 4} {x : Slot}

/-! ### One slot record written over another -/

theorem setSlot_setSlot (s : State) (n : Fin 4) (x y : Slot) : (s.setSlot n x).setSlot n y = s.setSlot n y := by
  unfold State.setSlot
  rw [State.setSlots_slots, put_put]
  rfl

theorem setSlot_slot (s : State) (n : Fin 4) : s.setSlot n (s.slot n) = s := by
  have same : put s.slots n (s.slots.get n) = s.slots := Vector.set_getElem_self n.isLt
  unfold State.setSlot State.slot
  rw [same]
  rfl

/-! ### The bus and the arbiter (R39, R49) -/

theorem issue_eq (s : State) (n : Fin 4) (c : CardCommand) : s.issue n c = issued s n (s.slot n) c := rfl

theorem issue_setSlot (s : State) (n : Fin 4) (x : Slot) (c : CardCommand) : (s.setSlot n x).issue n c = issued s n x c := by
  rw [issue_eq]
  unfold issued
  rw [State.slot_setSlot, setSlot_setSlot]
  rfl

theorem nextBlock_eq (s : State) (n : Fin 4) (unit : Serving) :
    s.nextBlock n unit = issued s n { s.slot n with serving := some unit } .blockRead := issue_setSlot s n _ _

theorem nextBlock_setSlot (s : State) (n : Fin 4) (x : Slot) (unit : Serving) :
    (s.setSlot n x).nextBlock n unit = issued s n { x with serving := some unit } .blockRead := by
  unfold State.nextBlock
  rw [State.slot_setSlot, setSlot_setSlot, issue_setSlot]

theorem issued_slot (s : State) (n m : Fin 4) (x : Slot) (c : CardCommand) : (issued s n x c).slot m = if m = n then
    { x with inFlight := some c, exchange := x.exchange + 1, issuedAt := s.now } else s.slot m := slot_setSlot_eq n m _

theorem issued_op (s : State) (n : Fin 4) (x : Slot) (c : CardCommand) : s.ChangesOnly (issued s n x c) [.slots, .sent] := by
  rw [← issue_setSlot]
  exact ((State.ChangesOnly.refl s _).setSlot n x (by decide)).issue n c (by decide)

theorem busOutcome_eq (s : State) (n : Fin 4) : s.busOutcome n = s.setSlot n (busFree s (s.slot n)) := rfl

theorem serveNext_eq (s : State) (n : Fin 4) : s.serveNext n = (
    let x := s.slot n;
    if x.inFlight ≠ none ∨ x.serving ≠ none then s
    else match x.state with
      | .mounting => issued s n x .identification
      | .scanning =>
        issued s n { x with serving := some (if x.reads = [] then .step .directory else .read []) } .blockRead
      | .ready => if x.reads = [] then s else issued s n { x with serving := some (.read []) } .blockRead
      | _ => s) := by
  unfold State.serveNext
  simp only [Option.isSome_iff_ne_none, issue_setSlot]
  rfl

/-- The arbiter leaves a busy bus and a unit in service as they are. -/
theorem serveNext_busy (busy : (s.slot n).inFlight ≠ none ∨ (s.slot n).serving ≠ none) : s.serveNext n = s := by
  rw [serveNext_eq]
  exact if_pos busy

/-- What the arbiter can do: nothing, or one command under a unit in service. -/
theorem serveNext_cases (s : State) (n : Fin 4) :
    s.serveNext n = s ∨ ∃ unit c, s.serveNext n = issued s n { s.slot n with serving := unit } c := by
  rw [serveNext_eq]
  dsimp only
  by_cases busy : (s.slot n).inFlight ≠ none ∨ (s.slot n).serving ≠ none
  · exact .inl (if_pos busy)
  · rw [if_neg busy]
    split
    · exact .inr ⟨(s.slot n).serving, _, rfl⟩
    · exact .inr ⟨_, _, rfl⟩
    · by_cases empty : (s.slot n).reads = []
      · exact .inl (if_pos empty)
      · exact .inr ⟨_, _, if_neg empty⟩
    · exact .inl rfl

/-- The slots behind the arbiter: what its unit in service and its bus do not hold is as it was. -/
theorem serveNext_slot (s : State) (n : Fin 4) : ∃ unit c k now, ∀ m, (s.serveNext n).slot m = if m = n then
    { s.slot n with serving := unit, inFlight := c, exchange := k, issuedAt := now } else s.slot m := by
  rcases serveNext_cases s n with same | ⟨unit, c, eq⟩
  · refine ⟨(s.slot n).serving, (s.slot n).inFlight, (s.slot n).exchange, (s.slot n).issuedAt, fun m => ?_⟩
    rw [same]
    split_ifs with hm
    · rw [hm]
    · rfl
  · exact ⟨unit, some c, (s.slot n).exchange + 1, s.now, fun m => by rw [eq, issued_slot]⟩

/-- Outside MOUNTING, SCANNING and READY the arbiter has nothing to serve. -/
theorem serveNext_idle (idle : (s.slot n).state ∉ [.mounting, .scanning, .ready]) : s.serveNext n = s := by
  rw [serveNext_eq]
  dsimp only
  by_cases busy : (s.slot n).inFlight ≠ none ∨ (s.slot n).serving ≠ none
  · exact if_pos busy
  · rw [if_neg busy]
    cases h : (s.slot n).state <;> simp [h] at idle ⊢

theorem serveNext_mounting (mounting : (s.slot n).state = .mounting) (free : (s.slot n).inFlight = none)
    (unserved : (s.slot n).serving = none) : s.serveNext n = issued s n (s.slot n) .identification := by
  rw [serveNext_eq]
  simp only [mounting, free, unserved, ne_eq, not_true_eq_false, or_self, if_false]

/-! ### A reading of presence (R38, R39) -/

theorem slotReading_eq (s : State) (n : Fin 4) (level : Bool) (limit : Nat) : s.slotReading n level limit =
    match sensed (s.slot n) level limit with
    | some x => s.setSlot n x
    | none => if level then s.insertionConfirmed n else s.removalConfirmed n := by
  unfold State.slotReading sensed
  dsimp only
  split_ifs <;> rfl

/-- A bus command's outcome with the reading it gives, which counts in CYCLIC mode only. -/
theorem busOutcome_busReading (s : State) (n : Fin 4) (level : Bool) : (s.busOutcome n).busReading n level = (
    let t := s.setSlot n (busFree s (s.slot n));
    if s.cyclic n then
      match sensed (busFree s (s.slot n)) level 2 with
      | some y => t.setSlot n y
      | none => if level then t.insertionConfirmed n else t.removalConfirmed n
    else t) := by
  have cyclic : (s.busOutcome n).cyclic n = s.cyclic n := rfl
  unfold State.busReading
  rw [slotReading_eq, cyclic, busOutcome_eq, State.slot_setSlot]
  rfl

theorem sensed_same (level : Bool) (limit : Nat) (present : x.present = level) (state : x.state ≠ .settling) :
    sensed x level limit = some { x with run := 0 } := by
  unfold sensed
  rw [if_pos present.symm, if_neg state]

theorem sensed_counted {level : Bool} {limit : Nat} (other : x.present ≠ level) (short : x.run + 1 < limit) (state : x.state ≠ .empty) :
    sensed x level limit = some { x with run := x.run + 1 } := by
  unfold sensed
  rw [if_neg (Ne.symm other), if_pos short, if_neg state]

theorem sensed_confirmed {level : Bool} {limit : Nat} (other : x.present ≠ level) (last : limit ≤ x.run + 1) :
    sensed x level limit = none := by
  unfold sensed
  rw [if_neg (Ne.symm other), if_neg (Nat.not_lt.2 last)]

/-- The answer of a card that is present frees the bus, and in CYCLIC mode ends a run of negative readings. -/
theorem busReading_present (present : (s.slot n).present = true) (state : (s.slot n).state ≠ .settling) :
    (s.busOutcome n).busReading n true = s.setSlot n (blockEnded s n) := by
  rw [busOutcome_busReading, sensed_same (x := busFree s (s.slot n)) true 2 present state]
  unfold blockEnded
  cases s.cyclic n
  · rfl
  · exact setSlot_setSlot s n _ _

/-- A timeout in STATIC mode is no reading. -/
theorem busReading_static (level : Bool) (static : s.cyclic n = false) :
    (s.busOutcome n).busReading n level = s.setSlot n (busFree s (s.slot n)) := by
  rw [busOutcome_busReading, static]
  rfl

/-- A first negative reading is counted. -/
theorem busReading_counted (cyclic : s.cyclic n = true) (present : (s.slot n).present = true) (first : (s.slot n).run = 0)
    (state : (s.slot n).state ≠ .empty) :
    (s.busOutcome n).busReading n false = s.setSlot n { busFree s (s.slot n) with run := 1 } := by
  have counted := sensed_counted (x := busFree s (s.slot n)) (level := false) (limit := 2)
    (fun h => Bool.true_eq_false.mp (present.symm.trans h)) (show (s.slot n).run + 1 < 2 by omega) state
  rw [busOutcome_busReading, cyclic, counted]
  refine (setSlot_setSlot s n _ _).trans ?_
  rw [show (busFree s (s.slot n)).run = 0 from first]

/-- A second one confirms the removal. -/
theorem busReading_removed (cyclic : s.cyclic n = true) (present : (s.slot n).present = true) (second : 1 ≤ (s.slot n).run) :
    (s.busOutcome n).busReading n false = (s.setSlot n (busFree s (s.slot n))).removalConfirmed n := by
  have confirmed := sensed_confirmed (x := busFree s (s.slot n)) (level := false) (limit := 2)
    (fun h => Bool.true_eq_false.mp (present.symm.trans h)) (Nat.succ_le_succ second)
  rw [busOutcome_busReading, cyclic, confirmed]
  rfl

/-! ### A confirmed removal (R43, R44) -/

/-- The requests of reads answered alike, oldest first. -/
def State.readsAnswered (s : State) (reads : List Read) (e : Status) : State :=
  reads.foldl (fun w r => w.replyWith r.tag e []) s

theorem readsAnswered_op (s : State) (reads : List Read) (e : Status) : s.ChangesOnly (s.readsAnswered reads e) [.link] :=
  (State.ChangesOnly.refl s [.link]).each reads (fun t r => t.replyWith r.tag e []) (fun v _ => State.ChangesOnly.replyWith_op v _ _ _)

theorem reply_table (l : Link) (tag : Byte) (payload : List Byte) :
    (l.reply tag payload).table = l.table.filter (fun e => e.tag ≠ tag) := by
  unfold Link.reply
  split
  · next absent =>
    refine (List.filter_eq_self.2 (fun e he => ?_)).symm
    simpa using List.find?_eq_none.1 absent e he
  · rfl

/-- The entries of the reads answered are released. -/
theorem readsAnswered_table (s : State) (reads : List Read) (e : Status) : (s.readsAnswered reads e).link.table =
    s.link.table.filter (fun y => !reads.any (fun r => r.tag = y.tag)) := by
  induction reads generalizing s with
  | nil => simp [State.readsAnswered]
  | cons r rest ih =>
    refine (ih _).trans ?_
    rw [State.replyWith_link, reply_table, List.filter_filter]
    refine List.filter_congr (fun y _ => ?_)
    by_cases h : r.tag = y.tag <;> simp [h, eq_comm]

theorem each_refuse_reads (s : State) (reads : List Read) (e : Status) :
    s.each reads (fun t r => t.refuse r.tag e) = s.readsAnswered reads e := rfl

/-- A SCAN notice where one is due writes no slot. -/
theorem scanNotice_slot (same : t.slots = s.slots) (due : Prop) [Decidable due] (n : Fin 4) (c : ScanOutcome) (m : Fin 4) :
    (if due then t.scanNotice n c else t).slot m = s.slot m := by
  split_ifs
  · exact slot_congr ((State.ChangesOnly.scanNotice_op t n c).slots.trans same) m
  · exact slot_congr same m

theorem removalConfirmed_eq (s : State) (n : Fin 4) : s.removalConfirmed n = (
    let x := s.slot n;
    let t := s.readsAnswered x.reads .mediaGone;
    let u := if x.state = .scanning then t.scanNotice n .removed else t;
    let v := (u.setSlot n x.emptied).slotNotice n .removed;
    match x.bound with
    | some h => { v with catalogue := { v.catalogue with removals := v.catalogue.removals ++ [{ owner := h, slot := n }] } }
    | none => v) := by
  have scanned := scanNotice_slot (readsAnswered_op s (s.slot n).reads .mediaGone).slots ((s.slot n).state = .scanning) n .removed n
  unfold State.removalConfirmed
  dsimp only
  rw [each_refuse_reads, scanned]
  rfl
theorem removalConfirmed_slot (s : State) (n m : Fin 4) :
    (s.removalConfirmed n).slot m = if m = n then (s.slot n).emptied else s.slot m := by
  have answered := (readsAnswered_op s (s.slot n).reads .mediaGone).slots
  rw [removalConfirmed_eq]
  dsimp only
  have emptied (u : State) (same : ∀ k, u.slot k = s.slot k) :
      ((u.setSlot n (s.slot n).emptied).slotNotice n .removed).slot m = if m = n then (s.slot n).emptied else s.slot m := by
    rw [slot_congr (State.ChangesOnly.slotNotice_op _ n _).slots, slot_setSlot_eq, same]
  split <;> exact emptied _ (scanNotice_slot answered _ n .removed)

/-- An empty slot's arbiter has nothing to serve. -/
theorem removalConfirmed_serveNext (s : State) (n : Fin 4) : (s.removalConfirmed n).serveNext n = s.removalConfirmed n := by
  refine serveNext_idle ?_
  rw [removalConfirmed_slot, if_pos rfl]
  exact (by decide : SlotState.empty ∉ [SlotState.mounting, .scanning, .ready])

end Sys2Proof.Machine

/-! Sensing (R38, R39, R49): samples, probes, their answers and timeouts. -/

namespace Sys2Proof.Machine

variable {s : State} {n : Fin 4}

/-! ### Device events heard (log 20) -/

theorem slotSample_heard (live : s.power.starting = false) (level : Bool) : exec (.slotSample n level) s = .next (
    if s.cyclic n then s else s.slotReading n level 15) := congrArg Host.Outcome.next (heard_running live _)

theorem probeDue_heard (live : s.power.starting = false) : exec (.probeDue n) s = .next (
    if s.cyclic n ∧ (s.slot n).inFlight = none ∧ (s.slot n).serving = none ∧ (s.slot n).state.probing then s.issue n .probe
    else s) := congrArg Host.Outcome.next (heard_running live _)

theorem probeAnswer_heard (live : s.power.starting = false) (k : Exchange) : exec (.probeAnswer k) s = .next (
    if s.awaits k .probe then s.probeEnds k.slot true else s) := congrArg Host.Outcome.next (heard_running live _)

theorem probeTimeout_heard (live : s.power.starting = false) : exec (.probeTimeout n) s = .next (
    if (s.slot n).inFlight = some .probe then s.probeEnds n false else s) := congrArg Host.Outcome.next (heard_running live _)

/-- Before start-up has ended no device is heard. -/
theorem sensing_starting (starting : s.power.starting = true) :
    (∀ b, exec (.slotSample n b) s = .next s) ∧ exec (.probeDue n) s = .next s ∧
      (∀ k, exec (.probeAnswer k) s = .next s) ∧ exec (.probeTimeout n) s = .next s :=
  ⟨fun _ => congrArg Host.Outcome.next (heard_starting starting _), congrArg Host.Outcome.next (heard_starting starting _),
    fun _ => congrArg Host.Outcome.next (heard_starting starting _), congrArg Host.Outcome.next (heard_starting starting _)⟩

/-- The answer awaited is that of the last exchange, where a `c` is in flight. -/
theorem awaits_lastExchange (s : State) (n : Fin 4) (c : CardCommand) :
    s.awaits (lastExchange s n) c = decide ((s.slot n).inFlight = some c) := by
  unfold State.awaits lastExchange
  simp

theorem awaits_other {k : Nat} (other : k ≠ (s.slot n).exchange) (c : CardCommand) :
    s.awaits { slot := n, number := k } c = false := by
  unfold State.awaits
  rw [decide_eq_false (Ne.symm other), Bool.and_false]

/-! ### The end of a probe -/

/-- A probe's answer or timeout. -/
theorem probeEnd_heard (live : s.power.starting = false) (level : Bool) :
    exec (if level then .probeAnswer (lastExchange s n) else .probeTimeout n) s = .next (
      if (s.slot n).inFlight = some .probe then s.probeEnds n level else s) := by
  cases level with
  | true =>
    refine (probeAnswer_heard live _).trans ?_
    rw [awaits_lastExchange]
    simp only [decide_eq_true_eq]
    rfl
  | false => exact probeTimeout_heard live

theorem probeEnds_eq (s : State) (n : Fin 4) (level : Bool) : s.probeEnds n level = (
    let t := s.setSlot n (busFree s (s.slot n));
    State.serveNext (
      if s.cyclic n then
        match sensed (busFree s (s.slot n)) level 2 with
        | some y => t.setSlot n y
        | none => if level then t.insertionConfirmed n else t.removalConfirmed n
      else t) n) := congrArg (State.serveNext · n) (busOutcome_busReading s n level)

/-- Settles O21: a reading by `sensed`, the arbiter by the slot's state. -/
theorem sensingConfirmsAChangeOfPresence : Obligations.SensingConfirmsAChangeOfPresence := by
  unfold Obligations.SensingConfirmsAChangeOfPresence
  refine ⟨serveNext_eq, fun s n => ⟨fun starting => ?_, fun live => ⟨fun b => ?_, ?_, fun k other => ?_, fun b => ?_⟩⟩⟩
  · obtain ⟨samples, due, answers, timeout⟩ := sensing_starting (n := n) starting
    exact ⟨samples, due, fun k => answers _, timeout⟩
  · exact (slotSample_heard live b).trans
      (congrArg (fun t : State => Host.Outcome.next (if s.cyclic n = true then s else t)) (slotReading_eq s n b 15))
  · rw [probeDue_heard live]
    simp only [probing_iff]
    rfl
  · exact (probeAnswer_heard live _).trans (by rw [awaits_other other]; rfl)
  · exact (probeEnd_heard live b).trans (congrArg
      (fun t : State => Host.Outcome.next (if (s.slot n).inFlight = some .probe then t else s)) (probeEnds_eq s n b))

end Sys2Proof.Machine

/-! Confirmed insertions and removals (R40, R43, R44). -/

namespace Sys2Proof.Machine

variable {s : State} {n : Fin 4} {x : Slot} {c : Instr} {level : Bool}

/-! ### Insertion (R40) -/

theorem takingFront_eq (s : State) (n : Fin 4) : s.takingFront n =
    match s.front (s.power.profile.stationOfSlot n) with
    | some h => if (s.record h.record).state ∈ [.active, .suspended] then some h else none
    | none => none := by
  unfold State.takingFront
  cases s.front (s.power.profile.stationOfSlot n) with
  | none => rfl
  | some h => simp [Option.filter]

theorem wakeCause_power (s : State) : (s.wakeCause .card).power = { s.power with
    latches := if s.power.standby = true ∧ s.wakeEnables.getLsbD 0 = true then setBit s.power.latches 0 else s.power.latches } := by
  unfold State.wakeCause
  by_cases wakes : s.power.standby = true ∧ s.wakeEnables.getLsbD 0 = true
  · rw [if_pos wakes]
    by_cases latched : s.power.latches.getLsbD 0 = true
    · rw [if_neg (fun h => Bool.true_eq_false.mp (latched.symm.trans h.2.2)), setBit_of_getLsbD (i := 0) latched]
    · rw [if_pos ⟨wakes.1, wakes.2, Bool.eq_false_iff.2 latched⟩]
      rfl
  · rw [if_neg wakes, if_neg (fun h => wakes ⟨h.1, h.2.1⟩)]

/-- A slot at its confirmed insertion, its bus not yet asked for. -/
def Slot.inserted (x : Slot) (owner : Option SessionHandle) (now : Nat) : Slot :=
  { x with state := .mounting, present := true, run := 0, insertionOwner := owner, mountedAt := now }

/-- On a free bus the identification goes out behind the notice. -/
theorem insertionConfirmed_eq (free : (s.slot n).inFlight = none) (unserved : (s.slot n).serving = none) :
    s.insertionConfirmed n = (
      let x := (s.slot n).inserted (s.takingFront n) s.now;
      State.wakeCause (issued ((s.setSlot n x).slotNotice n .inserted) n x .identification) .card) := by
  have found : ((s.setSlot n ((s.slot n).inserted (s.takingFront n) s.now)).slotNotice n .inserted).slot n =
      (s.slot n).inserted (s.takingFront n) s.now :=
    (slot_congr (State.ChangesOnly.slotNotice_op _ n _).slots n).trans (State.slot_setSlot ..)
  have served := serveNext_mounting (congrArg Slot.state found) ((congrArg Slot.inFlight found).trans free)
    ((congrArg Slot.serving found).trans unserved)
  rw [found] at served
  exact congrArg (State.wakeCause · .card) served

theorem insertionConfirmed_slot (free : (s.slot n).inFlight = none) (unserved : (s.slot n).serving = none) (m : Fin 4) :
    (s.insertionConfirmed n).slot m = if m = n then
      { (s.slot n).inserted (s.takingFront n) s.now with
        inFlight := some .identification, exchange := (s.slot n).exchange + 1, issuedAt := s.now } else s.slot m := by
  rw [insertionConfirmed_eq free unserved]
  dsimp only
  rw [slot_congr (State.ChangesOnly.wakeCause_op _ _).slots, issued_slot, slot_congr (State.ChangesOnly.slotNotice_op _ n _).slots,
    slot_setSlot_eq]
  split_ifs <;> rfl

theorem insertionConfirmed_sent (free : (s.slot n).inFlight = none) (unserved : (s.slot n).serving = none) :
    (s.insertionConfirmed n).sent = s.sent ++ [.card n ((s.slot n).exchange + 1) .identification] := by
  rw [insertionConfirmed_eq free unserved]
  exact (State.ChangesOnly.wakeCause_op _ _).sent

theorem insertionConfirmed_power (free : (s.slot n).inFlight = none) (unserved : (s.slot n).serving = none) :
    (s.insertionConfirmed n).power = { s.power with
      latches := if s.power.standby = true ∧ s.wakeEnables.getLsbD 0 = true then setBit s.power.latches 0 else s.power.latches } := by
  rw [insertionConfirmed_eq free unserved]
  exact wakeCause_power _

/-! ### The reading that confirms (R38, R39) -/

/-- What a confirmed change of presence does. -/
def State.presenceConfirmed (s : State) (n : Fin 4) (level : Bool) : State :=
  if level then s.insertionConfirmed n else s.removalConfirmed n

/-- Either reading that confirms a change finds the slot as `x`; behind that of the card bus the arbiter goes on. -/
theorem exec_confirms (live : s.power.starting = false) (confirmed : confirms s n level c x) (other : (s.slot n).present ≠ level)
    (rests : ((s.setSlot n x).presenceConfirmed n level).serveNext n = (s.setSlot n x).presenceConfirmed n level) :
    exec c s = .next ((s.setSlot n x).presenceConfirmed n level) := by
  rcases confirmed with ⟨static, run, rfl, rfl⟩ | ⟨cyclic, run, probing, rfl, rfl⟩
  · rw [slotSample_heard live, static, slotReading_eq, sensed_confirmed other (Nat.succ_le_succ run), setSlot_slot]
    rfl
  · rw [probeEnd_heard live, if_pos probing, probeEnds_eq]
    have last := sensed_confirmed (x := busFree s (s.slot n)) other (Nat.succ_le_succ run)
    dsimp only
    rw [cyclic, last]
    exact congrArg Host.Outcome.next rests

theorem exec_confirms_insertion (live : s.power.starting = false) (confirmed : confirms s n true c x)
    (absent : (s.slot n).present = false) (free : x.inFlight = none) (unserved : x.serving = none) :
    exec c s = .next ((s.setSlot n x).insertionConfirmed n) := by
  refine exec_confirms live confirmed (by rw [absent]; decide) (serveNext_busy (.inl ?_))
  refine (congrArg Slot.inFlight (insertionConfirmed_slot ?_ ?_ n)).trans_ne ?_
  · rw [State.slot_setSlot, free]
  · rw [State.slot_setSlot, unserved]
  · rw [if_pos rfl]
    exact Option.some_ne_none _

theorem exec_confirms_removal (live : s.power.starting = false) (confirmed : confirms s n false c x)
    (present : (s.slot n).present = true) : exec c s = .next ((s.setSlot n x).removalConfirmed n) :=
  exec_confirms live confirmed (by rw [present]; decide) (removalConfirmed_serveNext _ n)

/-! ### What a removal leaves -/

theorem removalConfirmed_catalogue (s : State) (n : Fin 4) : (s.removalConfirmed n).catalogue =
    { s.catalogue with removals := s.catalogue.removals ++ (match (s.slot n).bound with
      | some h => [{ owner := h, slot := n }]
      | none => []) } := by
  have notified (due : Prop) [Decidable due] (y : Slot) :
      (((if due then (s.readsAnswered (s.slot n).reads .mediaGone).scanNotice n .removed
        else s.readsAnswered (s.slot n).reads .mediaGone).setSlot n y).slotNotice n .removed).catalogue = s.catalogue := by
    rw [(State.ChangesOnly.slotNotice_op _ n _).catalogue, State.setSlot_catalogue]
    split_ifs
    · exact (State.ChangesOnly.scanNotice_op _ n _).catalogue.trans (readsAnswered_op s _ _).catalogue
    · exact (readsAnswered_op s _ _).catalogue
  rw [removalConfirmed_eq]
  dsimp only
  rw [notified]
  cases (s.slot n).bound with
  | none => exact (notified _ _).trans (by rw [List.append_nil])
  | some h => rfl

theorem removalConfirmed_table (s : State) (n : Fin 4) : (s.removalConfirmed n).link.table =
    s.link.table.filter (fun e => !(s.slot n).reads.any (fun r => r.tag = e.tag)) := by
  have notified (u : State) (due : Prop) [Decidable due] (y : Slot) :
      (((if due then u.scanNotice n .removed else u).setSlot n y).slotNotice n .removed).link.table = u.link.table := by
    refine (Link.notice_table _ _ _).trans ?_
    split_ifs
    · exact Link.notice_table _ _ _
    · rfl
  rw [removalConfirmed_eq, ← readsAnswered_table s _ .mediaGone]
  dsimp only
  split <;> exact notified _ _ _

/-- Settles O22: the reading that confirms, then the insertion or the removal on the slot as it found it. -/
theorem confirmedChangesOfPresence : Obligations.ConfirmedChangesOfPresence := by
  unfold Obligations.ConfirmedChangesOfPresence
  refine ⟨fun s n cause => rfl, removalConfirmed_eq, fun s n c x live => ⟨fun confirmed absent free unserved => ?_,
    fun confirmed present => ?_⟩⟩
  · have serving : x.serving = none := by
      rcases confirmed with ⟨-, -, -, rfl⟩ | ⟨-, -, -, -, rfl⟩ <;> exact unserved
    have found : (s.setSlot n x).slot n = x := State.slot_setSlot s n x
    have free' : ((s.setSlot n x).slot n).inFlight = none := by rw [found, free]
    have unserved' : ((s.setSlot n x).slot n).serving = none := by rw [found, serving]
    refine ⟨_, exec_confirms_insertion live confirmed absent free serving, ?_, fun m hm => ?_, ?_, ?_, ?_⟩
    · rw [insertionConfirmed_slot free' unserved', if_pos rfl, takingFront_eq, found]
      rfl
    · rw [insertionConfirmed_slot free' unserved', if_neg hm, slot_setSlot_eq, if_neg hm]
    · rw [insertionConfirmed_sent free' unserved', found]
      rfl
    · exact insertionConfirmed_power free' unserved'
    · exact ((State.ChangesOnly.refl s _).setSlot n x (by decide)).insertionConfirmed n (by decide)
  · have kept : x.bound = (s.slot n).bound ∧ x.reads = (s.slot n).reads := by
      rcases confirmed with ⟨-, -, -, rfl⟩ | ⟨-, -, -, -, rfl⟩ <;> exact ⟨rfl, rfl⟩
    obtain ⟨bound, reads⟩ := kept
    have found : (s.setSlot n x).slot n = x := State.slot_setSlot s n x
    refine ⟨_, exec_confirms_removal live confirmed present, ?_, fun m hm => ?_, ?_, ?_, ?_⟩
    · rw [removalConfirmed_slot, if_pos rfl, found]
      rfl
    · rw [removalConfirmed_slot, if_neg hm, slot_setSlot_eq, if_neg hm]
    · rw [removalConfirmed_catalogue, found, bound]
      rfl
    · rw [removalConfirmed_table, found, reads]
      rfl
    · exact ((State.ChangesOnly.refl s _).setSlot n x (by decide)).removalConfirmed n (by decide)

end Sys2Proof.Machine

/-! The identification's answers and its timeout (R41, R42). -/

namespace Sys2Proof.Machine

variable {s : State} {n : Fin 4} {c : Instr}

/-! ### What is heard -/

/-- The answer to an identification acted on, its reading taken. -/
def State.identificationAnswered (s : State) (n : Fin 4) : IdentAnswer → State
  | .card capability capacity => s.identified n capability capacity
  | .error => s.unreadable n
  | .noFileSystem => s.unreadable n

theorem identificationAnswer_heard (live : s.power.starting = false) (k : Exchange) (a : IdentAnswer) :
    exec (.identificationAnswer k a) s = .next (
      if s.awaits k .identification then ((s.busOutcome k.slot).busReading k.slot true).identificationAnswered k.slot a else s) := by
  refine (congrArg Host.Outcome.next (heard_running live _)).trans ?_
  cases a <;> rfl

theorem identificationTimeout_heard (live : s.power.starting = false) : exec (.identificationTimeout n) s = .next (
    if (s.slot n).state = .mounting then
      if (s.slot n).inFlight = some .identification then
        let t := (s.busOutcome n).busReading n false
        if (t.slot n).state = .mounting then t.unreadable n else t
      else s.unreadable n
    else s) := congrArg Host.Outcome.next (heard_running live _)

/-- The answer awaited finds the bus free, and the card present. -/
theorem identificationAnswer_awaited (live : s.power.starting = false) (mounting : (s.slot n).state = .mounting)
    (present : (s.slot n).present = true) (awaited : (s.slot n).inFlight = some .identification) (a : IdentAnswer) :
    exec (.identificationAnswer (lastExchange s n) a) s =
      .next ((s.setSlot n (blockEnded s n)).identificationAnswered n a) := by
  have read := busReading_present present (by rw [mounting]; decide)
  rw [identificationAnswer_heard live, awaits_lastExchange, if_pos (decide_eq_true awaited), ← read]
  rfl

theorem identificationAnswer_ignored (live : s.power.starting = false) {k : Nat}
    (ignored : (s.slot n).inFlight ≠ some .identification ∨ k ≠ (s.slot n).exchange) (a : IdentAnswer) :
    exec (.identificationAnswer { slot := n, number := k } a) s = .next s := by
  have unawaited : s.awaits { slot := n, number := k } .identification = false := by
    rcases ignored with abandoned | other
    · unfold State.awaits
      rw [decide_eq_false abandoned, Bool.false_and]
    · exact awaits_other other _
  rw [identificationAnswer_heard live, unawaited]
  rfl

/-! ### A failed identification (R41) -/

theorem unreadable_slot (s : State) (n m : Fin 4) : (s.unreadable n).slot m = if m = n then
    { s.slot n with state := .fault, faultCause := some .unreadable, insertionOwner := none, inFlight := none } else s.slot m := by
  unfold State.unreadable
  rw [slot_congr (State.ChangesOnly.slotNotice_op _ n _).slots, slot_setSlot_eq]

/-- The timeout of an identification, its reading taken where there is one: the removal confirmed, or the card unreadable. -/
theorem identificationTimeout_fails (live : s.power.starting = false) (mounting : (s.slot n).state = .mounting)
    (present : (s.slot n).present = true) (unconfirmed : s.cyclic n = false ∨ (s.slot n).run = 0) :
    ∃ y, exec (.identificationTimeout n) s = .next ((s.setSlot n y).unreadable n) ∧ y.bound = (s.slot n).bound := by
  rw [identificationTimeout_heard live, if_pos mounting]
  by_cases awaited : (s.slot n).inFlight = some .identification
  · rw [if_pos awaited]
    have read : ∃ y, (s.busOutcome n).busReading n false = s.setSlot n y ∧ y.bound = (s.slot n).bound ∧ y.state = .mounting := by
      cases mode : s.cyclic n with
      | false => exact ⟨_, busReading_static false mode, rfl, mounting⟩
      | true =>
        have first := unconfirmed.resolve_left (by rw [mode]; decide)
        exact ⟨_, busReading_counted mode present first (by rw [mounting]; decide), rfl, mounting⟩
    obtain ⟨y, read, bound, state⟩ := read
    refine ⟨y, ?_, bound⟩
    dsimp only
    rw [read, State.slot_setSlot, if_pos state]
  · exact ⟨s.slot n, by rw [if_neg awaited, setSlot_slot], rfl⟩

/-- In CYCLIC mode it is the reading that confirms a removal. -/
theorem identificationTimeout_removes (live : s.power.starting = false) (mounting : (s.slot n).state = .mounting)
    (present : (s.slot n).present = true) (awaited : (s.slot n).inFlight = some .identification) (cyclic : s.cyclic n = true)
    (second : 1 ≤ (s.slot n).run) :
    exec (.identificationTimeout n) s = .next ((s.setSlot n (busFree s (s.slot n))).removalConfirmed n) := by
  rw [identificationTimeout_heard live, if_pos mounting, if_pos awaited]
  dsimp only
  rw [busReading_removed cyclic present second, removalConfirmed_slot, if_pos rfl]
  exact congrArg Host.Outcome.next (if_neg (by decide : SlotState.empty ≠ .mounting))

/-! ### A successful one (R42) -/

/-- A slot with its card identified. -/
def Slot.withCard (x : Slot) (capability max : Grade) (capacity : Nat) : Slot :=
  { x with
    identity := some { capability := capability, capacity := capacity }
    grade := some (if gradeCode capability ≤ gradeCode max then capability else max), errors := 0, insertionOwner := none }

/-- The insertion owner is gone: no session that is ACTIVE or SUSPENDED. -/
def State.ownerGone (s : State) (n : Fin 4) : Prop := ∃ h, (s.slot n).insertionOwner = some h ∧
  ¬ (s.current h = true ∧ (s.record h.record).state ∈ [.active, .suspended])

theorem ownerGone_iff (s : State) (n : Fin 4) : ((s.slot n).insertionOwner.any (fun h =>
    !(s.current h && decide ((s.record h.record).state = .active ∨ (s.record h.record).state = .suspended)))) = true ↔
    s.ownerGone n := by
  unfold State.ownerGone
  simp [Option.any_eq_true, imp_iff_not_or]

theorem identified_left (gone : s.ownerGone n) (capability : Grade) (capacity : Nat) (m : Fin 4) :
    (s.identified n capability capacity).slot m = if m = n then
      { (s.slot n).withCard capability (s.maxGrade n) capacity with state := .left } else s.slot m := by
  unfold State.identified
  dsimp only
  rw [if_pos ((ownerGone_iff s n).2 gone), slot_congr (State.ChangesOnly.slotNotice_op _ n _).slots, slot_setSlot_eq]
  rfl

theorem identified_bound (stays : ¬ s.ownerGone n) {h : SessionHandle} (front : s.takingFront n = some h) (capability : Grade)
    (capacity : Nat) (m : Fin 4) : (s.identified n capability capacity).slot m = if m = n then
      ((s.slot n).withCard capability (s.maxGrade n) capacity).boundTo h s.now else s.slot m := by
  unfold State.identified
  dsimp only
  rw [if_neg (fun gone => stays ((ownerGone_iff s n).1 gone)), front, bindSlot_slot, State.slot_setSlot, slot_setSlot_eq]
  split_ifs <;> rfl

theorem identified_mounted (stays : ¬ s.ownerGone n) (front : s.takingFront n = none) (capability : Grade)
    (capacity : Nat) (m : Fin 4) : (s.identified n capability capacity).slot m = if m = n then
      { (s.slot n).withCard capability (s.maxGrade n) capacity with state := .mounted } else s.slot m := by
  unfold State.identified
  dsimp only
  rw [if_neg (fun gone => stays ((ownerGone_iff s n).1 gone)), front, slot_congr (State.ChangesOnly.slotNotice_op _ n _).slots,
    slot_setSlot_eq]
  rfl

/-- What the binding keeps of a card. -/
theorem Slot.boundTo_card (x : Slot) (h : SessionHandle) (now : Nat) : (x.boundTo h now).identity = x.identity ∧
    (x.boundTo h now).grade = x.grade ∧ (x.boundTo h now).errors = x.errors ∧ (x.boundTo h now).insertionOwner = none := by
  unfold Slot.boundTo
  dsimp only
  split_ifs <;> exact ⟨rfl, rfl, rfl, rfl⟩

/-- The card's fields and the other slots, whichever case of R42 applies. -/
theorem identified_card (s : State) (n : Fin 4) (capability : Grade) (capacity : Nat) :
    (let y := (s.identified n capability capacity).slot n;
    y.identity = some { capability := capability, capacity := capacity } ∧
    y.grade = some (if gradeCode capability ≤ gradeCode (s.maxGrade n) then capability else s.maxGrade n) ∧
    y.errors = 0 ∧ y.insertionOwner = none) ∧ ∀ m, m ≠ n → (s.identified n capability capacity).slot m = s.slot m := by
  by_cases gone : s.ownerGone n
  · simp only [identified_left gone, if_true]
    exact ⟨⟨rfl, rfl, rfl, rfl⟩, fun m hm => if_neg hm⟩
  · cases front : s.takingFront n with
    | none =>
      simp only [identified_mounted gone front, if_true]
      exact ⟨⟨rfl, rfl, rfl, rfl⟩, fun m hm => if_neg hm⟩
    | some h =>
      simp only [identified_bound gone front, if_true]
      obtain ⟨identity, grade, errors, owner⟩ := ((s.slot n).withCard capability (s.maxGrade n) capacity).boundTo_card h s.now
      exact ⟨⟨identity, grade, errors, owner⟩, fun m hm => if_neg hm⟩

/-- The first case of R42 that applies, on a free bus: LEFT behind a gone owner, SCANNING for the front session, else MOUNTED. -/
theorem identified_placed (s : State) (n : Fin 4) (free : (s.slot n).inFlight = none) (capability : Grade) (capacity : Nat) :
    (let y := (s.identified n capability capacity).slot n;
    if ∃ h, (s.slot n).insertionOwner = some h ∧
        ¬ (s.current h = true ∧ (s.record h.record).state ∈ [.active, .suspended]) then
      y.state = .left ∧ y.bound = (s.slot n).bound
    else match s.front (s.power.profile.stationOfSlot n) with
      | some h =>
        if (s.record h.record).state ∈ [.active, .suspended] then
          y.state = .scanning ∧ y.bound = some h ∧ y.scan = some Scan.start ∧ y.inFlight = some .blockRead
        else y.state = .mounted ∧ y.bound = (s.slot n).bound
      | none => y.state = .mounted ∧ y.bound = (s.slot n).bound) := by
  dsimp only
  split
  · next gone =>
    rw [identified_left gone, if_pos rfl]
    exact ⟨rfl, rfl⟩
  · next stays =>
    have takes := takingFront_eq s n
    cases front : s.front (s.power.profile.stationOfSlot n) with
    | none =>
      rw [front] at takes
      dsimp only
      rw [identified_mounted stays takes, if_pos rfl]
      exact ⟨rfl, rfl⟩
    | some h =>
      rw [front] at takes
      dsimp only at takes ⊢
      split_ifs at takes ⊢
      · rw [identified_bound stays takes, if_pos rfl]
        obtain ⟨state, bound, scan, inFlight⟩ :=
          Slot.boundTo_fields ((s.slot n).withCard capability (s.maxGrade n) capacity) h s.now
        exact ⟨state, bound, scan, inFlight free⟩
      · rw [identified_mounted stays takes, if_pos rfl]
        exact ⟨rfl, rfl⟩

/-- Settles O23: a failure leaves the slot in FAULT, a success goes by the insertion owner and the front session. -/
theorem identificationMountsTheCard : Obligations.IdentificationMountsTheCard := by
  unfold Obligations.IdentificationMountsTheCard
  intro s n live
  refine ⟨fun k a ignored => identificationAnswer_ignored live ignored a, fun other => ?_, fun mounting present unserved =>
    ⟨fun c hc awaited unconfirmed => ?_, fun awaited cyclic second => ?_, fun awaited capability capacity => ?_⟩⟩
  · rw [identificationTimeout_heard live, if_neg other]
  · have fails : ∃ y, exec c s = .next ((s.setSlot n y).unreadable n) ∧ y.bound = (s.slot n).bound := by
      simp only [List.mem_cons, List.not_mem_nil, or_false] at hc
      rcases hc with rfl | rfl | rfl
      · exact ⟨_, identificationAnswer_awaited live mounting present (awaited.resolve_right nofun) _, rfl⟩
      · exact ⟨_, identificationAnswer_awaited live mounting present (awaited.resolve_right nofun) _, rfl⟩
      · exact identificationTimeout_fails live mounting present (unconfirmed rfl)
    obtain ⟨y, eq, bound⟩ := fails
    refine ⟨_, eq, ?_, ?_, ?_, ?_, ?_, fun m hm => ?_, ?_⟩
    · rw [unreadable_slot, if_pos rfl]
    · rw [unreadable_slot, if_pos rfl]
    · rw [unreadable_slot, if_pos rfl]
    · rw [unreadable_slot, if_pos rfl]
    · rw [unreadable_slot, if_pos rfl, State.slot_setSlot]
      exact bound
    · rw [unreadable_slot, if_neg hm, slot_setSlot_eq, if_neg hm]
    · exact ((State.ChangesOnly.refl s _).setSlot n y (by decide)).unreadable n (by decide)
  · refine ⟨_, identificationTimeout_removes live mounting present awaited cyclic second, ?_, ?_⟩
    · rw [removalConfirmed_slot, if_pos rfl]
      rfl
    · rw [removalConfirmed_slot, if_pos rfl]
      rfl
  · have eq := identificationAnswer_awaited live mounting present awaited (.card capability capacity)
    obtain ⟨⟨identity, grade, errors, owner⟩, others⟩ :=
      identified_card (s.setSlot n (blockEnded s n)) n capability capacity
    have found : (s.setSlot n (blockEnded s n)).slot n = blockEnded s n := State.slot_setSlot s n _
    have placed := identified_placed (s.setSlot n (blockEnded s n)) n (congrArg Slot.inFlight found) capability capacity
    rw [found] at placed
    refine ⟨_, eq, identity, grade, errors, owner, ?_, fun m hm => (others m hm).trans ?_, ?_⟩
    · exact placed
    · rw [slot_setSlot_eq, if_neg hm]
    · exact ((State.ChangesOnly.refl s _).setSlot n _ (by decide)).identified n _ _ (by decide)

end Sys2Proof.Machine

/-! IMAGE_READ (R53, R54). -/

namespace Sys2Proof.Machine

variable {s t : State} {tag : Byte} {p : List Byte} {h : SessionHandle}

/-- IMAGE_READ past its session: the handle check, then the read's own. -/
def State.readImage (s : State) (tag : Byte) (p : List Byte) (h : SessionHandle) : State :=
  match s.imageFor h p 2 with
  | .error e => s.refuseImage tag h p 2 e
  | .ok (i, e) => s.queueRead tag i e (num4At p 5) (num2At p 9)

/-- The length is checked before the session's handle, and there the session is ACTIVE. -/
theorem imageRead_answers (offers : s.Offers .imageRead tag p) (hr : byteAt p 0 = h.record.val) (hg : p.getD 1 0 = h.gen)
    (current : s.current h = true) (active : (s.record h.record).state = .active) : exec (.imageRead tag) s = .next (
      if num2At p 9 = 0 ∨ 4000 < num2At p 9 then s.answerNo tag .imageRead .badValue
      else ((s.touch h.record).holds tag).readImage tag p h) := by
  have taking : exec (.imageRead tag) s = .next (s.take .imageRead tag (fun t p =>
    t.checked tag [(decide (1 ≤ num2At p 9 ∧ num2At p 9 ≤ Config.maxImageRead), .badValue)]
      (t.withSession .imageRead tag p 0 (fun t session => t.readImage tag p session)))) := rfl
  have through : sessionRefusal .imageRead (s.record h.record).state = none := by rw [active]; rfl
  have length : (1 ≤ num2At p 9 ∧ num2At p 9 ≤ Config.maxImageRead) ↔ ¬ (num2At p 9 = 0 ∨ 4000 < num2At p 9) := by
    show (1 ≤ num2At p 9 ∧ num2At p 9 ≤ 4000) ↔ _
    omega
  rw [taking, offers.take, withSession_taken hr hg current through, checked_cons, checked_nil]
  simp only [decide_eq_true_eq, length]
  by_cases bad : num2At p 9 = 0 ∨ 4000 < num2At p 9
  · rw [if_neg (not_not.2 bad), if_pos bad, offers.refuse]
  · rw [if_pos bad, if_neg bad]

/-- The read's own checks, and its place in the slot's queue. -/
theorem queueRead_eq (offers : t.Offers .imageRead tag p) (i : CatHandle) (e : CatEntry) (offset length : Nat) :
    (t.holds tag).queueRead tag i e offset length = (
      let x := t.slot e.slot
      if e.size ≤ offset then t.answerNo tag .imageRead .badRange
      else if x.state = .fault then t.answerNo tag .imageRead .mediaFault
      else if x.state ∉ [.scanning, .ready] then t.answerNo tag .imageRead .mediaGone
      else if 8 ≤ x.reads.length then t.answerNo tag .imageRead .busy
      else State.serveNext ((t.holds tag).setSlot e.slot { x with
        reads := x.reads ++ [{ tag := tag, image := i, offset := offset, length := min length (e.size - offset) }] }) e.slot) := by
  have served : (x : Slot) → (x.state = .scanning ∨ x.state = .ready) ↔ x.state ∈ ([.scanning, .ready] : List SlotState) := by simp
  have room : (x : Slot) → x.reads.length < Config.maxReads ↔ ¬ 8 ≤ x.reads.length := fun x => Nat.not_le.symm
  unfold State.queueRead
  dsimp only
  simp only [checked_cons, checked_nil, decide_eq_true_eq, served, room, ← Nat.not_le, offers.refuse, ne_eq, ite_not]
  rfl

theorem readImage_beyond (offers : t.Offers .imageRead tag p) (beyond : 2048 ≤ num2At p 2) :
    (t.holds tag).readImage tag p h = t.answerNo tag .imageRead .badValue := by
  unfold State.readImage
  rw [imageFor_beyond beyond]
  exact (refuseImage_other h 2 (by decide)).trans (offers.refuse _)

theorem readImage_stale (offers : t.Offers .imageRead tag p) {i : CatHandle} (named : catHandleAt p 2 = some i)
    (gone : t.catalogue.entry? i = none) : (t.holds tag).readImage tag p h = t.answerNo tag .imageRead .staleHandle := by
  unfold State.readImage
  rw [imageFor_stale (s := t.holds tag) named gone]
  exact (refuseImage_other h 2 (by decide)).trans (offers.refuse _)

theorem readImage_entry {i : CatHandle} {e : CatEntry} (named : catHandleAt p 2 = some i) (held : t.catalogue.entry? i = some e) :
    (t.holds tag).readImage tag p h =
      if e.owner ≠ h then
        State.refuse ((t.holds tag).raiseSession h 6 [p.getD 2 0, p.getD 3 0, p.getD 4 0]) tag .accessDenied
      else (t.holds tag).queueRead tag i e (num4At p 5) (num2At p 9) := by
  unfold State.readImage
  rw [imageFor_entry (s := t.holds tag) named held]
  by_cases own : e.owner = h
  · rw [if_pos own, if_neg (not_not.2 own)]
  · rw [if_neg own, if_pos own]
    exact refuseImage_accessDenied h 2

/-- Settles O24: the length, the position, the entry, its owner, then the read's own checks. -/
theorem imageReadJoinsTheQueueOfItsSlot : Obligations.ImageReadJoinsTheQueueOfItsSlot := by
  unfold Obligations.ImageReadJoinsTheQueueOfItsSlot
  intro s tag p h offers hr hg current active
  rw [imageRead_answers offers hr hg current active]
  have touched := offers.touched h.record
  have catalogue : (s.touch h.record).catalogue = s.catalogue := (State.ChangesOnly.touch_op s h.record).catalogue
  have slots (n : Fin 4) : (s.touch h.record).slot n = s.slot n := slot_congr (State.ChangesOnly.touch_op s h.record).slots n
  dsimp only
  congr 1
  refine if_congr Iff.rfl rfl ?_
  by_cases hp : num2At p 2 < 2048
  · rw [dif_pos hp]
    have named : catHandleAt p 2 = some { position := ⟨num2At p 2, hp⟩, gen := p.getD 4 0 } := catHandleAt_of_handle rfl rfl
    cases held : s.catalogue.entry? { position := ⟨num2At p 2, hp⟩, gen := p.getD 4 0 } with
    | none => exact readImage_stale touched named (by rw [catalogue, held])
    | some e =>
      rw [readImage_entry named (by rw [catalogue, held]), queueRead_eq touched, slots]
  · rw [dif_neg hp, readImage_beyond touched (Nat.not_lt.1 hp)]

end Sys2Proof.Machine

/-! A slot put in FAULT by media errors (R48): what ends on it, and what that leaves of the link and the kiosk set. -/

namespace Sys2Proof.Machine

variable {s t : State} {n : Fin 4}

/-! ### What queues notices alone -/

theorem notices_of_link (same : t.link = s.link) : s.link.NoticesAfter t.link := by
  rw [same]
  exact .refl _

theorem gateShut_link (s : State) (u : Fin 2) : (s.gateShut u).link = s.link := by
  unfold State.gateShut
  dsimp only
  have back := (State.ChangesOnly.giveBackHeld_op
    ((s.setUnit u { s.unit u with gateOpen := false, coinSet := 0, billSet := 0 }).send (.inhibit u)) u).link
  split_ifs
  · exact back
  · exact (State.ChangesOnly.stopChallenge_op _).link.trans back

theorem closeGate_notices (s : State) (u : Fin 2) (cause : Option GateCause) : s.link.NoticesAfter (s.closeGate u cause).link := by
  have shut := notices_of_link (gateShut_link s u)
  rw [closeGate_cases]
  split_ifs
  · cases cause with
    | none => exact shut
    | some c => exact shut.notice _ _
  · exact .refl _

theorem closeStationGate_notices (s : State) (st : Option Station) (cause : Option GateCause) :
    s.link.NoticesAfter (s.closeStationGate st cause).link := by
  unfold State.closeStationGate
  split
  · exact closeGate_notices s _ cause
  · exact .refl _

theorem suspendFor_notices (s : State) (r : Fin 8) (cause : SessionCause) (gate : GateCause) :
    s.link.NoticesAfter (s.suspendFor r cause gate).link := by
  rw [suspendFor_eq]
  dsimp only
  split_ifs
  · exact ((Link.NoticesAfter.refl s.link).notice _ _).trans (closeStationGate_notices _ _ _)
  · exact .refl _

theorem raiseSession_notices (s : State) (h : SessionHandle) (i : Fin 8) (detail : List Byte) :
    s.link.NoticesAfter (s.raiseSession h i detail).link := by
  have resolved (w : State) : w.link.NoticesAfter (State.resolveSession State.suspend (.raised detail) h.record w i).link := by
    rw [resolveSession_eq]
    dsimp only
    have noticed (c : Prop) [Decidable c] (v : State) (code : Byte) (payload : List Byte) (same : v.link = w.link) :
        w.link.NoticesAfter (if c then v.notify code payload else v).link := by
      split_ifs
      · exact (notices_of_link same).notice _ _
      · exact notices_of_link same
    by_cases suspends : w.sessionResolved h.record i = .suspend ∧ (w.sessionSet h.record).recorded.get i ≠ .suspend
    · rw [if_pos suspends]
      refine Link.NoticesAfter.trans ?_ (suspendFor_notices _ _ .suspendAction .suspended)
      exact noticed _ _ _ _ rfl
    · rw [if_neg suspends]
      exact noticed _ _ _ _ rfl
  rw [raiseSession_eq]
  dsimp only
  split_ifs
  · exact .refl _
  · exact (notices_of_link rfl).trans (resolved _)

theorem raiseSession_kiosk (s : State) (h : SessionHandle) (i : Fin 8) (detail : List Byte) :
    (s.raiseSession h i detail).conds.kiosk = s.conds.kiosk := by
  rw [raiseSession_eq]
  dsimp only
  split_ifs
  · rfl
  · obtain ⟨u, -, conds, eq⟩ := resolveSession_cases (s.setSessionSet h.record { s.sessionSet h.record with
      bits := setBit (s.sessionSet h.record).bits i }) State.suspend (.raised detail) h.record i
    rw [eq]
    split_ifs
    · rw [(State.ChangesOnly.suspend_op u _).conds, conds]
      rfl
    · rw [conds]
      rfl

theorem raiseKioskQuiet_notices (s : State) (i : Fin 16) (detail : List Byte) :
    s.link.NoticesAfter (s.raiseKioskQuiet i detail).link := by
  unfold State.raiseKioskQuiet State.raiseKioskWith
  split_ifs
  · exact .refl _
  · rw [resolveKiosk_eq]
    dsimp only
    rw [id_eq, ite_self]
    split_ifs
    · exact (Link.NoticesAfter.refl s.link).notice _ _
    · exact .refl _

/-! ### The reads of a slot answered -/

theorem readsAnswered_queue (s : State) (reads : List Read) (e : Status) :
    ∃ later, (s.readsAnswered reads e).link.queue = s.link.queue ++ later := by
  induction reads generalizing s with
  | nil => exact ⟨[], (List.append_nil _).symm⟩
  | cons r rest ih =>
    obtain ⟨later, eq⟩ := ih (s.replyWith r.tag e [])
    have first : ∃ frames, (s.link.reply r.tag [e.code]).queue = s.link.queue ++ frames := by
      unfold Link.reply
      split
      · exact ⟨[], (List.append_nil _).symm⟩
      · exact ⟨_, rfl⟩
    obtain ⟨frames, replied⟩ := first
    exact ⟨frames ++ later, eq.trans (by rw [State.replyWith_link, replied, List.append_assoc])⟩

/-- The request of each read is answered, by the first read under its tag. -/
theorem readsAnswered_reply (s : State) (reads : List Read) (e : Status) (distinct : (s.link.table.map (fun y => y.tag)).Nodup)
    {y : Entry} (held : y ∈ s.link.table) {r : Read} (hr : r ∈ reads) (tag : r.tag = y.tag) :
    { kind := .reply, tag := y.tag, code := y.code.byte, payload := [e.code] } ∈ (s.readsAnswered reads e).link.queue := by
  induction reads generalizing s with
  | nil => exact absurd hr List.not_mem_nil
  | cons q rest ih =>
    by_cases own : q.tag = y.tag
    · obtain ⟨later, eq⟩ := readsAnswered_queue (s.replyWith q.tag e []) rest e
      have replied := replyWith_of_mem distinct held e []
      refine (congrArg (_ ∈ ·) eq).mpr (List.mem_append_left _ ?_)
      rw [own, replied]
      exact List.mem_append_right _ (List.mem_singleton_self _)
    · have table : (s.replyWith q.tag e []).link.table = s.link.table.filter (fun z => z.tag ≠ q.tag) := reply_table _ _ _
      refine ih (s.replyWith q.tag e []) ?_ ?_ ((List.mem_cons.1 hr).resolve_left ?_)
      · rw [table]
        exact distinct.sublist (List.filter_sublist.map _)
      · rw [table, List.mem_filter]
        exact ⟨held, decide_eq_true (Ne.symm own)⟩
      · rintro rfl
        exact own tag

/-! ### The fault -/

/-- A scan that a fault ends: its SCAN notice, and CATALOGUE_FULL where it skipped a file for room. -/
def State.scanFaulted (s : State) (n : Fin 4) : State :=
  let x := s.slot n
  let t := if x.state = .scanning then s.scanNotice n .fault else s
  match x.bound, x.scan with
  | some h, some k => if x.state = SlotState.scanning ∧ 0 < k.skippedRoom then t.raiseSession h 4 [BitVec.ofNat 8 n.val] else t
  | _, _ => t

/-- At most that notice and that condition go out. -/
theorem scanFaulted_cases (s : State) (n : Fin 4) : ∃ t, (t = s ∨ t = s.scanNotice n .fault) ∧
    (s.scanFaulted n = t ∨ ∃ h detail, s.scanFaulted n = t.raiseSession h 4 detail) := by
  refine ⟨if (s.slot n).state = .scanning then s.scanNotice n .fault else s, ?_, ?_⟩
  · split_ifs
    · exact .inr rfl
    · exact .inl rfl
  · unfold State.scanFaulted
    dsimp only
    split
    · next h k _ _ =>
      by_cases skipped : (s.slot n).state = SlotState.scanning ∧ 0 < k.skippedRoom
      · exact .inr ⟨h, _, if_pos skipped⟩
      · exact .inl (if_neg skipped)
    · exact .inl rfl

theorem scanFaulted_op (s : State) (n : Fin 4) : s.ChangesOnly (s.scanFaulted n) [.link, .sessions, .money, .sent, .conds] := by
  obtain ⟨t, noticed, eq⟩ := scanFaulted_cases s n
  have changed : s.ChangesOnly t [.link, .sessions, .money, .sent, .conds] := by
    rcases noticed with rfl | rfl
    · exact .refl _ _
    · exact (State.ChangesOnly.refl s _).scanNotice n _ (by decide)
  rcases eq with eq | ⟨h, detail, eq⟩
  · rw [eq]
    exact changed
  · rw [eq]
    exact changed.raiseSession h 4 detail (by decide)

theorem scanFaulted_notices (s : State) (n : Fin 4) : s.link.NoticesAfter (s.scanFaulted n).link := by
  obtain ⟨t, noticed, eq⟩ := scanFaulted_cases s n
  have queued : s.link.NoticesAfter t.link := by
    rcases noticed with rfl | rfl
    · exact .refl _
    · exact (Link.NoticesAfter.refl s.link).notice _ _
  rcases eq with eq | ⟨h, detail, eq⟩
  · rw [eq]
    exact queued
  · rw [eq]
    exact queued.trans (raiseSession_notices t h 4 detail)

theorem scanFaulted_kiosk (s : State) (n : Fin 4) : (s.scanFaulted n).conds.kiosk = s.conds.kiosk := by
  obtain ⟨t, noticed, eq⟩ := scanFaulted_cases s n
  have same : t.conds = s.conds := by
    rcases noticed with rfl | rfl
    · rfl
    · exact (State.ChangesOnly.scanNotice_op s n _).conds
  rcases eq with eq | ⟨h, detail, eq⟩
  · rw [eq, same]
  · rw [eq, raiseSession_kiosk, same]

/-- The slot in FAULT with MEDIA_ERRORS. -/
def Slot.mediaFaulted (x : Slot) : Slot :=
  { x with state := .fault, faultCause := some .mediaErrors, reads := [], serving := none, inFlight := none }

/-- Reads answered MEDIA_FAULT, and the slot as `x` with its notice. -/
def State.faultedWith (s : State) (n : Fin 4) (reads : List Read) (x : Slot) : State :=
  ((s.readsAnswered reads .mediaFault).setSlot n x).slotNotice n .mediaErrors

/-- The slot in FAULT with its reads answered, before SLOT_FAULT is raised. -/
def State.faulted (s : State) (n : Fin 4) : State := (s.scanFaulted n).faultedWith n (s.slot n).reads (s.slot n).mediaFaulted

theorem mediaFault_eq (s : State) (n : Fin 4) :
    s.mediaFault n = (s.faulted n).raiseKioskQuiet 14 [BitVec.ofNat 8 n.val] := by
  have cut : (match (s.slot n).bound with
      | some h => if (s.slot n).state = SlotState.scanning ∧ ((s.slot n).scan.any (fun k => decide (0 < k.skippedRoom))) = true then
          (if (s.slot n).state = .scanning then s.scanNotice n .fault else s).raiseSession h 4 (le1 n.val)
        else if (s.slot n).state = .scanning then s.scanNotice n .fault else s
      | none => if (s.slot n).state = .scanning then s.scanNotice n .fault else s) = s.scanFaulted n := by
    unfold State.scanFaulted
    dsimp only
    cases (s.slot n).bound with
    | none => rfl
    | some h =>
      cases (s.slot n).scan with
      | none => exact if_neg (fun both => Bool.false_ne_true both.2)
      | some k => exact if_congr (and_congr_right fun _ => by simp) rfl rfl
  have found : ((s.scanFaulted n).readsAnswered (s.slot n).reads .mediaFault).slot n = s.slot n :=
    slot_congr ((readsAnswered_op _ _ _).slots.trans (scanFaulted_op s n).slots) n
  refine (congrArg (fun u : State => (u.faultedWith n (s.slot n).reads (Slot.mediaFaulted ((u.readsAnswered (s.slot n).reads
    .mediaFault).slot n))).raiseKioskQuiet 14 [BitVec.ofNat 8 n.val]) cut).trans ?_
  rw [found]
  rfl

theorem faulted_conds (s : State) (n : Fin 4) : (s.faulted n).conds = (s.scanFaulted n).conds :=
  (State.ChangesOnly.slotNotice_op _ n _).conds.trans (readsAnswered_op _ _ _).conds

theorem mediaFault_slot (s : State) (n m : Fin 4) :
    (s.mediaFault n).slot m = if m = n then (s.slot n).mediaFaulted else s.slot m := by
  rw [mediaFault_eq, slot_congr (State.ChangesOnly.raiseKioskQuiet_op _ _ _).slots]
  unfold State.faulted State.faultedWith
  rw [slot_congr (State.ChangesOnly.slotNotice_op _ n _).slots, slot_setSlot_eq,
    slot_congr ((readsAnswered_op _ _ _).slots.trans (scanFaulted_op s n).slots)]

/-- Behind the replies to the slot's reads only notices go out. -/
theorem mediaFault_notices (s : State) (n : Fin 4) :
    ((s.scanFaulted n).readsAnswered (s.slot n).reads .mediaFault).link.NoticesAfter (s.mediaFault n).link := by
  rw [mediaFault_eq]
  exact ((Link.NoticesAfter.refl _).notice _ _).trans (raiseKioskQuiet_notices _ _ _)

/-- Settles O26: the equation, the slots, the link behind its replies, and SLOT_FAULT. -/
theorem mediaErrorsPutTheSlotInFault : Obligations.MediaErrorsPutTheSlotInFault := by
  unfold Obligations.MediaErrorsPutTheSlotInFault
  intro s n
  obtain ⟨table, -, later, queue, -⟩ := mediaFault_notices s n
  obtain ⟨scanTable, -, -⟩ := scanFaulted_notices s n
  refine ⟨?_, ?_, fun m hm => ?_, ?_, fun distinct e he r hr tag => ?_, ?_, (State.ChangesOnly.mediaFault_op s n).mono (by decide)⟩
  · exact (mediaFault_eq s n).trans (raiseKioskQuiet_eq _ (by decide) _)
  · exact (mediaFault_slot s n n).trans (if_pos rfl)
  · rw [mediaFault_slot, if_neg hm]
  · rw [table, readsAnswered_table, scanTable]
  · rw [queue]
    refine List.mem_append_left _ (readsAnswered_reply _ _ .mediaFault ?_ ?_ hr tag)
    · rw [scanTable]
      exact distinct
    · rw [scanTable]
      exact he
  · rw [mediaFault_eq, raiseKioskQuiet_bits, faulted_conds, scanFaulted_kiosk]

end Sys2Proof.Machine

/-! Block reads (R47, R50, R51, R54): what is heard of one, the media error counter, and the image reads they serve. -/

namespace Sys2Proof.Machine

variable {s : State} {n : Fin 4} {c : Instr} {x : Slot} {unit : Serving}

/-! ### What is heard -/

theorem reading_iff (x : Slot) : x.reading = true ↔ x.inFlight = some .blockRead ∧ x.serving ≠ none := by
  unfold Slot.reading
  rw [Bool.and_eq_true, decide_eq_true_iff, Option.isSome_iff_ne_none]

/-- A block read's answer acted on, its reading taken. -/
def State.blockAnswered (s : State) (n : Fin 4) : BlockAnswer → State
  | .good content => (s.blockGood n).goodBlock n content
  | .error => s.failedBlock n

theorem blockReadAnswer_heard (live : s.power.starting = false) (k : Exchange) (a : BlockAnswer) :
    exec (.blockReadAnswer k a) s = .next (
      if s.awaits k .blockRead ∧ (s.slot k.slot).reading then ((s.busOutcome k.slot).busReading k.slot true).blockAnswered k.slot a
      else s) := by
  refine (congrArg Host.Outcome.next (heard_running live _)).trans ?_
  cases a <;> rfl

theorem blockReadTimeout_heard (live : s.power.starting = false) : exec (.blockReadTimeout n) s = .next (
    if (s.slot n).reading then
      let t := (s.busOutcome n).busReading n false
      if (t.slot n).state = .empty then t else t.failedBlock n
    else s) := congrArg Host.Outcome.next (heard_running live _)

theorem blockReadAnswer_ignored (live : s.power.starting = false) {k : Nat} (other : k ≠ (s.slot n).exchange) (a : BlockAnswer) :
    exec (.blockReadAnswer { slot := n, number := k } a) s = .next s := by
  rw [blockReadAnswer_heard live, awaits_other other]
  exact congrArg Host.Outcome.next (if_neg fun h => Bool.false_ne_true h.1)

/-- A slot that a block read in flight serves, its card present. -/
structure Slot.Reads (x : Slot) (unit : Serving) : Prop where
  inFlight : x.inFlight = some .blockRead
  serving : x.serving = some unit
  present : x.present = true
  state : x.state ∈ [.scanning, .ready]

namespace Slot.Reads

theorem reading (h : x.Reads unit) : x.reading = true :=
  (reading_iff x).2 ⟨h.inFlight, by rw [h.serving]; exact Option.some_ne_none _⟩

theorem ne_empty (h : x.Reads unit) : x.state ≠ .empty := fun eq => by simpa [eq] using h.state

theorem ne_settling (h : x.Reads unit) : x.state ≠ .settling := fun eq => by simpa [eq] using h.state

end Slot.Reads

/-- The slot once a block read in flight has ended well. -/
def blockPassed (s : State) (n : Fin 4) : Slot := { blockEnded s n with errors := (s.slot n).errors - 1 }

theorem blockReadAnswer_awaited (live : s.power.starting = false) (reads : (s.slot n).Reads unit) (a : BlockAnswer) :
    exec (.blockReadAnswer (lastExchange s n) a) s = .next ((s.setSlot n (blockEnded s n)).blockAnswered n a) := by
  rw [blockReadAnswer_heard live, awaits_lastExchange, if_pos ⟨decide_eq_true reads.inFlight, reads.reading⟩,
    ← busReading_present reads.present reads.ne_settling]
  rfl

theorem blockReadAnswer_good (live : s.power.starting = false) (reads : (s.slot n).Reads unit) (content : BlockContent) :
    exec (.blockReadAnswer (lastExchange s n) (.good content)) s = .next ((s.setSlot n (blockPassed s n)).goodBlock n content) := by
  have passed : (s.setSlot n (blockEnded s n)).blockGood n = s.setSlot n (blockPassed s n) := by
    unfold State.blockGood
    rw [State.slot_setSlot, setSlot_setSlot]
    rfl
  rw [blockReadAnswer_awaited live reads, ← passed]
  rfl

/-- A failed block read, whichever way it failed, finds the slot as `x`. -/
theorem exec_readFails (live : s.power.starting = false) (reads : (s.slot n).Reads unit) (fails : readFails s n c x) :
    exec c s = .next ((s.setSlot n x).failedBlock n) := by
  have timedOut {y : Slot} (read : (s.busOutcome n).busReading n false = s.setSlot n y) (state : y.state ≠ .empty) :
      exec (.blockReadTimeout n) s = .next ((s.setSlot n y).failedBlock n) := by
    rw [blockReadTimeout_heard live, if_pos reads.reading]
    dsimp only
    rw [read, State.slot_setSlot, if_neg state]
  rcases fails with ⟨rfl, rfl⟩ | ⟨rfl, static, rfl⟩ | ⟨rfl, cyclic, first, rfl⟩
  · exact blockReadAnswer_awaited live reads .error
  · exact timedOut (busReading_static false static) reads.ne_empty
  · exact timedOut (busReading_counted cyclic reads.present first reads.ne_empty) reads.ne_empty

/-- A timeout that confirms a removal is no failure of the read. -/
theorem blockReadTimeout_removes (live : s.power.starting = false) (reads : (s.slot n).Reads unit) (cyclic : s.cyclic n = true)
    (second : 1 ≤ (s.slot n).run) :
    exec (.blockReadTimeout n) s = .next ((s.setSlot n (busFree s (s.slot n))).removalConfirmed n) := by
  rw [blockReadTimeout_heard live, if_pos reads.reading]
  dsimp only
  rw [busReading_removed cyclic reads.present second, removalConfirmed_slot, if_pos rfl]
  exact congrArg Host.Outcome.next (if_pos rfl)

/-- What a failed read finds of the slot as it was. -/
theorem readFails_kept (fails : readFails s n c x) : x.errors = (s.slot n).errors ∧ x.grade = (s.slot n).grade ∧
    x.serving = (s.slot n).serving ∧ x.reads = (s.slot n).reads ∧ x.state = (s.slot n).state ∧ x.bound = (s.slot n).bound ∧
    x.scan = (s.slot n).scan := by
  rcases fails with ⟨-, rfl⟩ | ⟨-, -, rfl⟩ | ⟨-, -, -, rfl⟩ <;> exact ⟨rfl, rfl, rfl, rfl, rfl, rfl, rfl⟩

/-! ### The media error counter (R47, R48) -/

theorem lowestGrade_iff (g : Option Grade) : g.getD .g0 = .g0 ↔ g = some .g0 ∨ g = none := by
  cases g <;> simp

theorem blockFailed_setSlot (s : State) (n : Fin 4) (x : Slot) : (s.setSlot n x).blockFailed n = readFailed s n x := by
  unfold State.blockFailed readFailed
  simp only [State.slot_setSlot, setSlot_setSlot, lowestGrade_iff]
  rfl

/-! ### An image read served (R54) -/

theorem readEnds_eq {r : Read} {rest : List Read} (reads : (s.slot n).reads = r :: rest) (payload : Read → Status × List Byte)
    (after : State → State) : s.readEnds n payload after = State.serveNext
      (after ((s.setSlot n { s.slot n with reads := rest, serving := none }).replyWith r.tag (payload r).1 (payload r).2)) n := by
  unfold State.readEnds
  dsimp only
  rw [reads]

variable {got bytes : List Byte} {r : Read} {rest : List Read}

/-- A good block that does not complete the read asks for the next. -/
theorem goodBlock_short (serving : (s.slot n).serving = some (.read got)) (reads : (s.slot n).reads = r :: rest)
    (block : bytes.length ≤ 512) (short : (got ++ bytes).length < r.length) :
    s.goodBlock n (.data bytes) = s.nextBlock n (.read (got ++ bytes)) := by
  have whole : bytes.take Config.cardBlockBytes = bytes := List.take_of_length_le block
  unfold State.goodBlock
  rw [serving, reads]
  dsimp only
  rw [whole]
  exact if_neg (by simpa using short)

/-- One that does answers it OK. -/
theorem goodBlock_whole (serving : (s.slot n).serving = some (.read got)) (reads : (s.slot n).reads = r :: rest)
    (block : bytes.length ≤ 512) (whole : r.length ≤ (got ++ bytes).length) :
    s.goodBlock n (.data bytes) = State.serveNext
      ((s.setSlot n { s.slot n with reads := rest, serving := none }).replyWith r.tag .ok
        (r.image.bytes ++ le4 r.offset ++ le2 r.length ++ (got ++ bytes).take r.length)) n := by
  have taken : bytes.take Config.cardBlockBytes = bytes := List.take_of_length_le block
  have count : ((got ++ bytes).take r.length).length = r.length := List.length_take_of_le whole
  unfold State.goodBlock
  rw [serving]
  dsimp only
  rw [taken, readEnds_eq reads, if_pos (by rw [reads]; simpa using whole)]
  unfold Read.okFields
  rw [count]
  rfl

theorem failedBlock_read (serving : (s.slot n).serving = some (.read got)) (reads : (s.slot n).reads = r :: rest) :
    s.failedBlock n = State.serveNext (((s.setSlot n { s.slot n with reads := rest, serving := none }).replyWith r.tag
      .mediaError []).blockFailed n) n := by
  unfold State.failedBlock
  rw [serving]
  exact readEnds_eq reads _ _

/-- The counter behind the reply of a failed read. -/
theorem replied_blockFailed (s : State) (n : Fin 4) (y : Slot) (tag : Byte) :
    ((s.setSlot n y).replyWith tag .mediaError []).blockFailed n = (
      let t := (s.setSlot n y).replyWith tag .mediaError []
      if y.errors + 1 ≤ s.mediaErrLimit then t.setSlot n { y with errors := y.errors + 1 }
      else if y.grade = some .g0 ∨ y.grade = none then t.mediaFault n
      else (t.setSlot n { y with errors := 0, grade := y.grade.map lowerGrade }).slotNotice n .degraded) := by
  have rewritten (z : Slot) : ((s.setSlot n y).replyWith tag .mediaError []).setSlot n z =
      (s.replyWith tag .mediaError []).setSlot n z := setSlot_setSlot (s.replyWith tag .mediaError []) n y z
  refine (blockFailed_setSlot (s.replyWith tag .mediaError []) n y).trans ?_
  dsimp only
  rw [rewritten, rewritten]
  rfl

/-- Settles O25: good blocks up to the read's end, and the ways a block fails. -/
theorem blockReadsServeTheImageRead : Obligations.BlockReadsServeTheImageRead := by
  unfold Obligations.BlockReadsServeTheImageRead
  intro s n got r rest live inFlight serving queue present state
  have reads : (s.slot n).Reads (.read got) := ⟨inFlight, serving, present, state⟩
  have found : (s.setSlot n (blockPassed s n)).slot n = blockPassed s n := State.slot_setSlot s n _
  refine ⟨fun bytes block short => ?_, fun k a other => blockReadAnswer_ignored live other a, fun bytes block whole => ?_,
    fun c x fails => ?_, fun cyclic second => ?_⟩
  · rw [blockReadAnswer_good live reads,
      goodBlock_short ((congrArg Slot.serving found).trans serving) ((congrArg Slot.reads found).trans queue) block short,
      nextBlock_setSlot]
    rfl
  · rw [blockReadAnswer_good live reads,
      goodBlock_whole ((congrArg Slot.serving found).trans serving) ((congrArg Slot.reads found).trans queue) block whole, found,
      setSlot_setSlot]
    rfl
  · obtain ⟨errors, grade, serving', queue', -, -, -⟩ := readFails_kept fails
    have stands : (s.setSlot n x).slot n = x := State.slot_setSlot s n x
    have counted := replied_blockFailed s n { x with reads := rest, serving := none } r.tag
    rw [exec_readFails live reads fails, failedBlock_read ((congrArg Slot.serving stands).trans (serving'.trans serving))
      ((congrArg Slot.reads stands).trans (queue'.trans queue)), stands, setSlot_setSlot, ← errors, ← grade]
    exact congrArg (fun t : State => Host.Outcome.next (t.serveNext n)) counted
  · have emptied := (removalConfirmed_slot (s.setSlot n (busFree s (s.slot n))) n n).trans (if_pos rfl)
    refine ⟨_, blockReadTimeout_removes live reads cyclic second, ?_, ?_, ?_⟩
    · exact congrArg Slot.state emptied
    · exact congrArg Slot.present emptied
    · exact congrArg Slot.errors emptied

end Sys2Proof.Machine

/-! The scan (R50 to R52): its steps, its end, and the block reads that serve a step. -/

namespace Sys2Proof.Machine

variable {s : State} {n : Fin 4} {c : Instr} {x : Slot} {k : Scan} {f : FileRecord}

/-! ### The end of a scan -/

theorem scanNotice_eq (scan : (s.slot n).scan = some k) (outcome : ScanOutcome) : s.scanNotice n outcome =
    s.notify 0xC3 (le1 n.val ++ sessionBytes (s.slot n).bound ++ le4 k.next ++ le4 k.admitted ++ le4 k.skippedKind ++
      le4 k.skippedSize ++ le4 k.skippedRoom ++ flagByte k.truncated ++ le1 outcome.code) := by
  unfold State.scanNotice
  dsimp only
  rw [scan, Option.getD_some]
  unfold Scan.bytes
  simp only [List.append_assoc]

/-- The slot in READY with its notices, before CATALOGUE_FULL is raised. -/
def State.scanEnded (s : State) (n : Fin 4) (outcome : ScanOutcome) : State :=
  ((s.setSlot n { s.slot n with state := .ready, serving := none }).scanNotice n outcome).slotNotice n .scanEnd

/-- CATALOGUE_FULL raised where the scan of the slot `x` skipped a file for room. -/
def State.roomMissed (s : State) (n : Fin 4) (x : Slot) : State :=
  match x.bound, x.scan with
  | some h, some k => if 0 < k.skippedRoom then s.raiseSession h 4 [BitVec.ofNat 8 n.val] else s
  | _, _ => s

theorem roomMissed_op (s : State) (n : Fin 4) (x : Slot) : s.ChangesOnly (s.roomMissed n x) [.sessions, .link, .money, .sent, .conds] := by
  unfold State.roomMissed
  split
  · split_ifs
    · exact State.ChangesOnly.raiseSession_op s _ 4 _
    · exact .refl s _
  · exact .refl s _

theorem roomMissed_eq (s : State) (n : Fin 4) (x : Slot) : s.roomMissed n x = match x.bound with
    | some h => if x.scan.any (fun k => decide (0 < k.skippedRoom)) then s.raiseSession h 4 (le1 n.val) else s
    | none => s := by
  unfold State.roomMissed
  cases x.bound with
  | none => rfl
  | some h =>
    cases x.scan with
    | none => rfl
    | some k => exact if_congr (by simp) rfl rfl

theorem endScan_eq (s : State) (n : Fin 4) (outcome : ScanOutcome) :
    s.endScan n outcome = ((s.scanEnded n outcome).roomMissed n (s.slot n)).serveNext n := by
  rw [roomMissed_eq]
  rfl

/-- The slots behind the end of a scan: READY, the scan record kept, the arbiter gone on. -/
theorem endScan_slot (s : State) (n : Fin 4) (outcome : ScanOutcome) : ∃ unit c k now, ∀ m, (s.endScan n outcome).slot m =
    if m = n then { s.slot n with state := .ready, serving := unit, inFlight := c, exchange := k, issuedAt := now }
    else s.slot m := by
  have ended (m : Fin 4) : ((s.scanEnded n outcome).roomMissed n (s.slot n)).slot m =
      if m = n then { s.slot n with state := .ready, serving := none } else s.slot m := by
    rw [slot_congr (roomMissed_op _ n _).slots]
    unfold State.scanEnded
    rw [slot_congr (State.ChangesOnly.slotNotice_op _ n _).slots, slot_congr (State.ChangesOnly.scanNotice_op _ n _).slots,
      slot_setSlot_eq]
  obtain ⟨unit, c, number, now, served⟩ := serveNext_slot ((s.scanEnded n outcome).roomMissed n (s.slot n)) n
  refine ⟨unit, c, number, now, fun m => ?_⟩
  rw [endScan_eq, served, ended, ended, if_pos rfl]
  split_ifs <;> rfl

/-! ### The end of a step -/

/-- The scan record at the next ordinal. -/
def Scan.stepped (k : Scan) (cut : Bool) : Scan :=
  { k with next := k.next + 1, truncated := if cut then true else k.truncated }

theorem finishStep_eq (scan : (s.slot n).scan = some k) (more : Bool) : s.finishStep n more =
    if more = false then (s.setSlot n { s.slot n with scan := some (k.stepped false) }).endScan n .complete
    else if k.next = 65535 then (s.setSlot n { s.slot n with scan := some (k.stepped true) }).endScan n .truncated
    else State.serveNext (s.setSlot n { s.slot n with scan := some (k.stepped false), serving := none }) n := by
  unfold State.finishStep
  dsimp only
  rw [scan, Option.getD_some]
  cases more <;> rfl

/-- What a step's end leaves of its slot: the scan ended, or the next block asked for. -/
def Slot.goesOn (y : Slot) (k : Scan) (more : Bool) : Prop :=
  if more = false then y.state = .ready ∧ y.scan = some (k.stepped false)
  else if k.next = 65535 then y.state = .ready ∧ y.scan = some (k.stepped true)
  else y.state = .scanning ∧ y.scan = some (k.stepped false) ∧ y.inFlight = some .blockRead

/-- A scanning slot whose bus is free and that serves nothing asks for a block. -/
theorem scanning_served (s : State) (scanning : x.state = .scanning) (free : x.inFlight = none) (unserved : x.serving = none) :
    ∃ unit, (s.setSlot n x).serveNext n = issued s n { x with serving := some unit } .blockRead :=
  ⟨_, (serveNext_scanning (State.slot_setSlot s n x) scanning unserved).trans
    ((if_pos free).trans ((congrArg (State.issue · n .blockRead) (setSlot_setSlot s n _ _)).trans (issue_setSlot s n _ _)))⟩

theorem finishStep_goesOn (scan : (s.slot n).scan = some k) (scanning : (s.slot n).state = .scanning)
    (free : (s.slot n).inFlight = none) (more : Bool) : ((s.finishStep n more).slot n).goesOn k more := by
  unfold Slot.goesOn
  rw [finishStep_eq scan]
  split_ifs
  · obtain ⟨_, _, _, _, slots⟩ := endScan_slot (s.setSlot n { s.slot n with scan := some (k.stepped false) }) n .complete
    rw [slots, if_pos rfl, State.slot_setSlot]
    exact ⟨rfl, rfl⟩
  · obtain ⟨_, _, _, _, slots⟩ := endScan_slot (s.setSlot n { s.slot n with scan := some (k.stepped true) }) n .truncated
    rw [slots, if_pos rfl, State.slot_setSlot]
    exact ⟨rfl, rfl⟩
  · obtain ⟨unit, served⟩ := scanning_served s (x := { s.slot n with scan := some (k.stepped false), serving := none }) scanning free rfl
    rw [served, issued_slot, if_pos rfl]
    exact ⟨scanning, rfl, rfl⟩

theorem finishStep_slot_ne (scan : (s.slot n).scan = some k) (more : Bool) {m : Fin 4} (hm : m ≠ n) :
    (s.finishStep n more).slot m = s.slot m := by
  have other (y : Slot) : (s.setSlot n y).slot m = s.slot m := State.slot_setSlot_ne s hm.symm y
  rw [finishStep_eq scan]
  split_ifs
  · obtain ⟨_, _, _, _, slots⟩ := endScan_slot (s.setSlot n { s.slot n with scan := some (k.stepped false) }) n .complete
    rw [slots, if_neg hm, other]
  · obtain ⟨_, _, _, _, slots⟩ := endScan_slot (s.setSlot n { s.slot n with scan := some (k.stepped true) }) n .truncated
    rw [slots, if_neg hm, other]
  · obtain ⟨_, _, _, _, slots⟩ :=
      serveNext_slot (s.setSlot n { s.slot n with scan := some (k.stepped false), serving := none }) n
    rw [slots, if_neg hm, other]

/-! ### A good block of a step (R50, R51) -/

theorem countScan_setSlot (s : State) (n : Fin 4) (x : Slot) (g : Scan → Scan) :
    (s.setSlot n x).countScan n g = s.setSlot n { x with scan := x.scan.map g } := by
  unfold State.countScan
  rw [State.slot_setSlot, setSlot_setSlot]

theorem goodBlock_file (serving : (s.slot n).serving = some (.step .directory)) (f : FileRecord) :
    s.goodBlock n (.file f) = s.fileFound n f := by
  unfold State.goodBlock
  rw [serving]

theorem goodBlock_endOfWalk (serving : (s.slot n).serving = some (.step .directory)) :
    s.goodBlock n .endOfWalk = s.endScan n .complete := by
  unfold State.goodBlock
  rw [serving]

theorem headerBlocks_eq (f : FileRecord) : headerBlocks f = (min 65536 f.size + 511) / 512 := by
  show (min 65536 f.size + 512 - 1) / 512 = _
  rw [Nat.add_sub_assoc (by decide)]

theorem goodBlock_header {blocks : Nat} {found : HeaderFields} (serving : (s.slot n).serving = some (.step (.header f blocks found)))
    (fields : HeaderFields) (finished : Bool) : s.goodBlock n (.header fields finished) =
      if finished = true ∨ (min 65536 f.size + 511) / 512 ≤ blocks + 1 then s.handOff n f (mergeFields found fields)
      else s.nextBlock n (.step (.header f (blocks + 1) (mergeFields found fields))) := by
  unfold State.goodBlock
  rw [serving]
  dsimp only
  rw [headerBlocks_eq]

theorem fileFound_noPicture (kind : kindOfFile f.first = none) :
    s.fileFound n f = (s.countScan n (fun k => { k with skippedKind := k.skippedKind + 1 })).finishStep n f.more := by
  unfold State.fileFound
  rw [kind]

theorem fileFound_picture (kind : kindOfFile f.first ≠ none) : s.fileFound n f =
    if f.size < s.minImage ∨ s.maxImage < f.size then
      (s.countScan n (fun k => { k with skippedSize := k.skippedSize + 1 })).finishStep n f.more
    else s.nextBlock n (.step (.header f 0 HeaderFields.none)) := by
  obtain ⟨picture, eq⟩ := Option.ne_none_iff_exists'.1 kind
  unfold State.fileFound
  rw [eq]

/-- The file a step hands to the Catalogue. -/
def handedFile (h : SessionHandle) (n : Fin 4) (k : Scan) (f : FileRecord) (kind : ImageKind) (found : HeaderFields) : HandOff :=
  { owner := h, slot := n, ordinal := k.next, name := f.name.take 64, size := f.size, kind := kind, fields := found }

theorem handOff_eq {h : SessionHandle} {kind : ImageKind} (bound : (s.slot n).bound = some h) (scan : (s.slot n).scan = some k)
    (picture : kindOfFile f.first = some kind) (found : HeaderFields) : s.handOff n f found =
      { s.setSlot n { s.slot n with serving := some (.step (.handed f.more)) } with
        catalogue := { s.catalogue with handOffs := s.catalogue.handOffs ++ [handedFile h n k f kind found] } } := by
  unfold State.handOff
  dsimp only
  rw [bound, picture, scan]
  rfl

theorem handOff_setSlot {h : SessionHandle} {kind : ImageKind} (bound : x.bound = some h) (scan : x.scan = some k)
    (picture : kindOfFile f.first = some kind) (found : HeaderFields) : (s.setSlot n x).handOff n f found =
      { s.setSlot n { x with serving := some (.step (.handed f.more)) } with
        catalogue := { s.catalogue with handOffs := s.catalogue.handOffs ++ [handedFile h n k f kind found] } } := by
  have stands : (s.setSlot n x).slot n = x := State.slot_setSlot s n x
  rw [handOff_eq ((congrArg Slot.bound stands).trans bound) ((congrArg Slot.scan stands).trans scan) picture, stands,
    setSlot_setSlot]
  rfl

/-! ### A failed block of a step (R47, R48) -/

/-- Behind the counter the slot stands as it did but for its counter and grade, or it is in FAULT. -/
theorem readFailed_slot (s : State) (n : Fin 4) (x : Slot) : (readFailed s n x).slot n = x.mediaFaulted ∨
    ∃ errors grade, (readFailed s n x).slot n = { x with errors := errors, grade := grade } := by
  unfold readFailed
  split_ifs
  · exact .inr ⟨_, x.grade, State.slot_setSlot s n _⟩
  · exact .inl ((mediaFault_slot _ n n).trans (by rw [if_pos rfl, State.slot_setSlot]))
  · exact .inr ⟨_, _, (slot_congr (State.ChangesOnly.slotNotice_op _ n _).slots n).trans (State.slot_setSlot s n _)⟩

/-- A scan that goes on behind the counter is one whose slot is not in FAULT. -/
theorem readFailed_goesOn {α : Type} (scanning : x.state = .scanning) (a b : α) :
    (if ((readFailed s n x).slot n).state = .scanning then a else b) =
      if ((readFailed s n x).slot n).state = .fault then b else a := by
  rcases readFailed_slot s n x with faulted | ⟨errors, grade, stands⟩
  · rw [faulted]
    rfl
  · have state : ((readFailed s n x).slot n).state = .scanning := (congrArg Slot.state stands).trans scanning
    rw [state]
    rfl

theorem failedBlock_directory (serving : x.serving = some (.step .directory)) (scanning : x.state = .scanning) :
    (s.setSlot n x).failedBlock n = (
      let t := readFailed s n x
      if (t.slot n).state = .fault then t else issued t n { t.slot n with serving := some (.step .directory) } .blockRead) := by
  unfold State.failedBlock
  rw [State.slot_setSlot, serving]
  dsimp only
  rw [blockFailed_setSlot, readFailed_goesOn scanning, nextBlock_eq]

theorem failedBlock_header {blocks : Nat} {found : HeaderFields} (serving : x.serving = some (.step (.header f blocks found)))
    (scanning : x.state = .scanning) : (s.setSlot n x).failedBlock n = (
      let t := readFailed s n x
      if (t.slot n).state = .fault then t else t.handOff n f found) := by
  unfold State.failedBlock
  rw [State.slot_setSlot, serving]
  dsimp only
  rw [blockFailed_setSlot, readFailed_goesOn scanning]

/-! ### The statement -/

/-- A slot whose scan step a block read in flight serves. -/
structure Slot.Scans (x : Slot) (unit : Serving) (k : Scan) (h : SessionHandle) : Prop extends x.Reads unit where
  scan : x.scan = some k
  bound : x.bound = some h
  scanning : x.state = .scanning

/-- The slot behind a good block of a step, its scan record as `k`. -/
def State.walked (s : State) (n : Fin 4) (k : Scan) : State := s.setSlot n { blockPassed s n with scan := some k }

variable {h : SessionHandle} {unit : Serving}

theorem walked_self (scan : (s.slot n).scan = some k) : s.setSlot n (blockPassed s n) = s.walked n k := by
  unfold State.walked
  rw [← scan]
  rfl

theorem walked_countScan (s : State) (n : Fin 4) (k : Scan) (g : Scan → Scan) : (s.walked n k).countScan n g = s.walked n (g k) :=
  countScan_setSlot s n _ g

theorem walked_minImage (s : State) (n : Fin 4) (k : Scan) : (s.walked n k).minImage = s.minImage := rfl
theorem walked_maxImage (s : State) (n : Fin 4) (k : Scan) : (s.walked n k).maxImage = s.maxImage := rfl

theorem walked_slot (s : State) (n m : Fin 4) (k : Scan) :
    (s.walked n k).slot m = if m = n then { blockPassed s n with scan := some k } else s.slot m := slot_setSlot_eq n m _

theorem step_endOfWalk (live : s.power.starting = false) (scans : (s.slot n).Scans (.step .directory) k h) :
    exec (.blockReadAnswer (lastExchange s n) (.good .endOfWalk)) s = .next ((s.walked n k).endScan n .complete) := by
  have stands : (s.setSlot n (blockPassed s n)).slot n = blockPassed s n := State.slot_setSlot s n _
  rw [blockReadAnswer_good live scans.toReads, goodBlock_endOfWalk ((congrArg Slot.serving stands).trans scans.serving),
    walked_self scans.scan]

theorem step_file (live : s.power.starting = false) (scans : (s.slot n).Scans (.step .directory) k h) (f : FileRecord) :
    exec (.blockReadAnswer (lastExchange s n) (.good (.file f))) s = .next ((s.walked n k).fileFound n f) := by
  have stands : (s.setSlot n (blockPassed s n)).slot n = blockPassed s n := State.slot_setSlot s n _
  rw [blockReadAnswer_good live scans.toReads, goodBlock_file ((congrArg Slot.serving stands).trans scans.serving),
    walked_self scans.scan]

/-- A file of no picture kind is counted and passed over. -/
theorem step_noPicture (live : s.power.starting = false) (scans : (s.slot n).Scans (.step .directory) k h)
    (kind : kindOfFile f.first = none) : exec (.blockReadAnswer (lastExchange s n) (.good (.file f))) s =
      .next ((s.walked n { k with skippedKind := k.skippedKind + 1 }).finishStep n f.more) := by
  rw [step_file live scans, fileFound_noPicture kind, walked_countScan]

/-- So is one of a size outside the limits. -/
theorem step_badSize (live : s.power.starting = false) (scans : (s.slot n).Scans (.step .directory) k h)
    (kind : kindOfFile f.first ≠ none) (size : f.size < s.minImage ∨ s.maxImage < f.size) :
    exec (.blockReadAnswer (lastExchange s n) (.good (.file f))) s =
      .next ((s.walked n { k with skippedSize := k.skippedSize + 1 }).finishStep n f.more) := by
  rw [step_file live scans, fileFound_picture kind, walked_minImage, walked_maxImage, if_pos size,
    walked_countScan]

/-- Any other has its header read. -/
theorem step_picture (live : s.power.starting = false) (scans : (s.slot n).Scans (.step .directory) k h)
    (kind : kindOfFile f.first ≠ none) (size : ¬ (f.size < s.minImage ∨ s.maxImage < f.size)) :
    exec (.blockReadAnswer (lastExchange s n) (.good (.file f))) s =
      .next (issued s n { blockPassed s n with serving := some (.step (.header f 0 HeaderFields.none)) } .blockRead) := by
  rw [step_file live scans, fileFound_picture kind, walked_minImage, walked_maxImage, if_neg size,
    ← walked_self scans.scan, nextBlock_setSlot]

/-- What a step passed over leaves. -/
theorem walked_finishStep (scans : (s.slot n).Scans unit k h) (k1 : Scan) (more : Bool) :
    (((s.walked n k1).finishStep n more).slot n).goesOn k1 more ∧
    (∀ m, m ≠ n → ((s.walked n k1).finishStep n more).slot m = s.slot m) ∧
    s.ChangesOnly ((s.walked n k1).finishStep n more) [.slots, .link, .sessions, .money, .sent, .conds] := by
  have stands := (walked_slot s n n k1).trans (if_pos rfl)
  refine ⟨finishStep_goesOn (congrArg Slot.scan stands) ((congrArg Slot.state stands).trans scans.scanning)
    (congrArg Slot.inFlight stands) more, fun m hm => ?_, ?_⟩
  · rw [finishStep_slot_ne (congrArg Slot.scan stands) more hm, walked_slot, if_neg hm]
  · exact ((State.ChangesOnly.refl s _).setSlot n _ (by decide)).finishStep n more (by decide)

/-- The directory's clauses: a file passed over leaves the step's end, the end of the walk the scan's. -/
theorem step_leaves (live : s.power.starting = false) (scans : (s.slot n).Scans (.step .directory) k h)
    (skipped : kindOfFile f.first = none ∨ f.size < s.minImage ∨ s.maxImage < f.size) :
    ∃ t, exec (.blockReadAnswer (lastExchange s n) (.good (.file f))) s = .next t ∧
      (t.slot n).goesOn (if kindOfFile f.first = none then { k with skippedKind := k.skippedKind + 1 }
        else { k with skippedSize := k.skippedSize + 1 }) f.more ∧
      (∀ m, m ≠ n → t.slot m = s.slot m) ∧ s.ChangesOnly t [.slots, .link, .sessions, .money, .sent, .conds] := by
  by_cases kind : kindOfFile f.first = none
  · rw [if_pos kind]
    exact ⟨_, step_noPicture live scans kind, walked_finishStep scans _ f.more⟩
  · rw [if_neg kind]
    exact ⟨_, step_badSize live scans kind (skipped.resolve_left kind), walked_finishStep scans _ f.more⟩

/-- The end of the walk leaves the slot in READY with its scan record. -/
theorem walked_endScan (s : State) (n : Fin 4) (k : Scan) (outcome : ScanOutcome) :
    (let t := (s.walked n k).endScan n outcome
    (t.slot n).state = .ready ∧ (t.slot n).scan = some k ∧ (∀ m, m ≠ n → t.slot m = s.slot m) ∧
      s.ChangesOnly t [.slots, .link, .sessions, .money, .sent, .conds]) := by
  obtain ⟨_, _, _, _, slots⟩ := endScan_slot (s.walked n k) n outcome
  refine ⟨?_, ?_, fun m hm => ?_, ?_⟩
  · rw [slots, if_pos rfl]
  · rw [slots, if_pos rfl, walked_slot, if_pos rfl]
  · rw [slots, if_neg hm, walked_slot, if_neg hm]
  · exact ((State.ChangesOnly.refl s _).setSlot n _ (by decide)).endScan n outcome (by decide)

/-- A failed directory block is asked for again, but in FAULT. -/
theorem step_directoryFails (live : s.power.starting = false) (scans : (s.slot n).Scans (.step .directory) k h)
    (fails : readFails s n c x) : exec c s = .next (
      let t := readFailed s n x
      if (t.slot n).state = .fault then t
      else issued t n { t.slot n with serving := some (.step .directory) } .blockRead) := by
  obtain ⟨-, -, serving, -, state, -, -⟩ := readFails_kept fails
  rw [exec_readFails live scans.toReads fails,
    failedBlock_directory (serving.trans scans.serving) (state.trans scans.scanning)]

variable {blocks : Nat} {found fields : HeaderFields} {kind : ImageKind}

/-- A good header block: the next one is asked for, or the file is handed on. -/
theorem step_header (live : s.power.starting = false) (scans : (s.slot n).Scans (.step (.header f blocks found)) k h)
    (finished : Bool) : exec (.blockReadAnswer (lastExchange s n) (.good (.header fields finished))) s = .next (
      if finished = true ∨ (min 65536 f.size + 511) / 512 ≤ blocks + 1 then
        (s.setSlot n (blockPassed s n)).handOff n f (mergeFields found fields)
      else issued s n { blockPassed s n with
        serving := some (.step (.header f (blocks + 1) (mergeFields found fields))) } .blockRead) := by
  have stands : (s.setSlot n (blockPassed s n)).slot n = blockPassed s n := State.slot_setSlot s n _
  rw [blockReadAnswer_good live scans.toReads, goodBlock_header ((congrArg Slot.serving stands).trans scans.serving),
    nextBlock_setSlot]

/-- A failed one hands the file on with what was found, but in FAULT. -/
theorem step_headerFails (live : s.power.starting = false) (scans : (s.slot n).Scans (.step (.header f blocks found)) k h)
    (fails : readFails s n c x) : exec c s = .next (
      if ((readFailed s n x).slot n).state = .fault then readFailed s n x else (readFailed s n x).handOff n f found) := by
  obtain ⟨-, -, serving, -, state, -, -⟩ := readFails_kept fails
  exact (exec_readFails live scans.toReads fails).trans
    (congrArg _ (failedBlock_header (serving.trans scans.serving) (state.trans scans.scanning)))

/-- Outside FAULT the slot still holds the session and the scan record that the file is handed on with. -/
theorem readFailed_handOff (scans : (s.slot n).Scans unit k h) (picture : kindOfFile f.first = some kind)
    (fails : readFails s n c x) (going : ((readFailed s n x).slot n).state ≠ .fault) : (readFailed s n x).handOff n f found = (
      let t := readFailed s n x
      { t.setSlot n { t.slot n with serving := some (.step (.handed f.more)) } with
        catalogue := { t.catalogue with handOffs := t.catalogue.handOffs ++ [handedFile h n k f kind found] } }) := by
  obtain ⟨-, -, -, -, -, bound, scan⟩ := readFails_kept fails
  rcases readFailed_slot s n x with faulted | ⟨errors, grade, stands⟩
  · exact absurd (congrArg Slot.state faulted) going
  · exact handOff_eq ((congrArg Slot.bound stands).trans (bound.trans scans.bound))
      ((congrArg Slot.scan stands).trans (scan.trans scans.scan)) picture found

/-- Within the counter's limit a failed block is counted. -/
theorem readFailed_counts (counts : x.errors + 1 ≤ s.mediaErrLimit) :
    readFailed s n x = s.setSlot n { x with errors := x.errors + 1 } := if_pos counts

theorem step_headerCounts (live : s.power.starting = false) (scans : (s.slot n).Scans (.step (.header f blocks found)) k h)
    (counts : (s.slot n).errors + 1 ≤ s.mediaErrLimit) : exec (.blockReadAnswer (lastExchange s n) .error) s =
      .next ((s.setSlot n { blockEnded s n with errors := (s.slot n).errors + 1 }).handOff n f found) := by
  have counted : readFailed s n (blockEnded s n) = s.setSlot n { blockEnded s n with errors := (s.slot n).errors + 1 } :=
    readFailed_counts counts
  have going : (s.slot n).state ≠ .fault := by rw [scans.scanning]; decide
  rw [step_headerFails live scans (.inl ⟨rfl, rfl⟩), counted, State.slot_setSlot]
  exact congrArg _ (if_neg going)

/-- Settles O27: the notices and the ends of a scan, then each block read of a step by what it serves. -/
theorem scanStepsWalkTheFiles : Obligations.ScanStepsWalkTheFiles := by
  unfold Obligations.ScanStepsWalkTheFiles
  refine ⟨fun s n outcome k scan => scanNotice_eq scan outcome, endScan_eq, fun s n k more scan => ?_,
    fun s n k h live inFlight scan bound present scanning => ?_⟩
  · have steps := finishStep_eq scan more
    dsimp only
    rw [State.slot_setSlot, setSlot_setSlot]
    exact steps
  have state : (s.slot n).state ∈ [SlotState.scanning, .ready] := by rw [scanning]; decide
  have scans {unit : Serving} (serving : (s.slot n).serving = some unit) : (s.slot n).Scans unit k h :=
    ⟨⟨inFlight, serving, present, state⟩, scan, bound, scanning⟩
  refine ⟨fun serving => ?_, fun f blocks found kind picture serving => ?_, fun unit serving cyclic second =>
    blockReadTimeout_removes live (scans serving).toReads cyclic second⟩
  · have scans := scans serving
    refine ⟨⟨step_endOfWalk live scans, fun f kind => step_noPicture live scans kind,
      fun f kind size => step_badSize live scans kind size⟩, fun c x fails => step_directoryFails live scans fails,
      ⟨_, step_endOfWalk live scans, walked_endScan s n k .complete⟩, fun f skipped => ?_, fun f kind least most =>
      step_picture live scans kind (not_or.2 ⟨Nat.not_lt.2 least, Nat.not_lt.2 most⟩)⟩
    obtain ⟨t, eq, goesOn, others, changes⟩ := step_leaves live scans skipped
    refine ⟨t, eq, ?_, others, changes⟩
    unfold Slot.goesOn at goesOn
    split_ifs at goesOn ⊢ <;> exact goesOn
  · have scans := scans serving
    have handed (errors : Nat) (fields : HeaderFields) :=
      handOff_setSlot (s := s) (n := n) (x := { blockEnded s n with errors := errors }) bound scan picture fields
    refine ⟨fun fields goes => ?_, fun fields finished ends => ?_, fun counts => ?_, fun c x fails => ?_⟩
    · exact (step_header live scans false).trans (congrArg _ (if_neg (not_or.2 ⟨Bool.false_ne_true, goes⟩)))
    · exact (step_header live scans finished).trans
        (congrArg _ ((if_pos ends).trans (handed _ (mergeFields found fields))))
    · exact (step_headerCounts live scans counts).trans (congrArg _ (handed _ found))
    · refine (step_headerFails live scans fails).trans (congrArg _ ?_)
      dsimp only
      split_ifs with fault
      · rfl
      · exact readFailed_handOff scans picture fails fault

end Sys2Proof.Machine

/-! The admission of a file (R59 to R61), and the scan step that waits for it. -/

namespace Sys2Proof.Machine

variable {s t : State} {n : Fin 4} {c : Catalogue} {f : HandOff} {quota : Nat} {k : Scan} {more : Bool}

/-! ### The probe window (R59) -/

/-- The position at place `i` of a file's probe window. -/
def HandOff.windowAt (f : HandOff) (i : Nat) : Fin 2048 :=
  positionAt ((f.ordinal * 37 + f.slot.val * 521 + f.owner.record.val * 1031) % 2048 + i)

/-- The position at place `i` holds the file's key. -/
def Catalogue.keyAt (c : Catalogue) (f : HandOff) (i : Nat) : Prop := ∃ e, (c.table.get (f.windowAt i)).entry = some e ∧
  e.owner.record = f.owner.record ∧ e.slot = f.slot ∧ e.ordinal = f.ordinal

theorem windowOf_find (f : HandOff) (p : Fin 2048 → Bool) : (windowOf f.owner.record f.slot f.ordinal).find? p =
    ((List.range 16).find? (fun i => p (f.windowAt i))).map f.windowAt := List.find?_map ..

theorem windowOf_find_none {p : Fin 2048 → Bool} (absent : ∀ i < 16, p (f.windowAt i) = false) :
    (windowOf f.owner.record f.slot f.ordinal).find? p = none := by
  rw [windowOf_find, List.find?_eq_none.2 (fun i hi => by simpa using absent i (List.mem_range.1 hi))]
  rfl

theorem windowOf_find_first {p : Fin 2048 → Bool} {i : Nat} (hi : i < 16) (holds : p (f.windowAt i) = true)
    (first : ∀ j < i, p (f.windowAt j) = false) :
    (windowOf f.owner.record f.slot f.ordinal).find? p = some (f.windowAt i) := by
  have found : (List.range 16).find? (fun i => p (f.windowAt i)) = some i :=
    List.find?_range_eq_some.2 ⟨holds, List.mem_range.2 hi, fun j hj => by simp [first j hj]⟩
  rw [windowOf_find, found]
  rfl

theorem hasKey_iff (c : Catalogue) (f : HandOff) (i : Nat) :
    (c.table.get (f.windowAt i)).hasKey f.owner.record f.slot f.ordinal = true ↔ c.keyAt f i := by
  unfold Position.hasKey Catalogue.keyAt
  simp [Option.any_eq_true]

theorem lookup_none (absent : ∀ i < 16, ¬ c.keyAt f i) : c.lookup f.owner.record f.slot f.ordinal = none :=
  windowOf_find_none (fun i hi => Bool.eq_false_iff.2 (fun key => absent i hi ((hasKey_iff c f i).1 key)))

theorem lookup_some (held : ∃ i < 16, c.keyAt f i) : ∃ q, c.lookup f.owner.record f.slot f.ordinal = some q := by
  obtain ⟨i, hi, key⟩ := held
  refine Option.isSome_iff_exists.1 (List.find?_isSome.2 ⟨f.windowAt i, ?_, (hasKey_iff c f i).2 key⟩)
  exact List.mem_map.2 ⟨i, List.mem_range.2 hi, rfl⟩

/-! ### The admission (R60, R61) -/

theorem admission_held (held : ∃ i < 16, c.keyAt f i) : c.admission quota f = (c, .alreadyHeld) := by
  obtain ⟨q, found⟩ := lookup_some held
  unfold Catalogue.admission
  dsimp only
  rw [found]

theorem admission_noRoom (absent : ∀ i < 16, ¬ c.keyAt f i) (full : quota ≤ (c.lists.get f.owner.record).length ∨
    ∀ i < 16, (c.table.get (f.windowAt i)).entry ≠ none) : c.admission quota f = (c, .noRoom) := by
  unfold Catalogue.admission
  dsimp only
  rw [lookup_none absent]
  dsimp only
  split_ifs with many
  · rfl
  · have place : c.place f.owner.record f.slot f.ordinal = none :=
      windowOf_find_none (fun i hi => decide_eq_false ((full.resolve_left many) i hi))
    rw [place]

theorem admission_first (absent : ∀ i < 16, ¬ c.keyAt f i) (room : (c.lists.get f.owner.record).length < quota) {i : Nat} (hi : i < 16)
    (free : (c.table.get (f.windowAt i)).entry = none) (first : ∀ j < i, (c.table.get (f.windowAt j)).entry ≠ none) :
    c.admission quota f = ({ c with
      table := put c.table (f.windowAt i) { gen := (c.table.get (f.windowAt i)).gen + 1, entry := some f.entry }
      lists := put c.lists f.owner.record (c.lists.get f.owner.record ++ [f.windowAt i]) }, .admitted) := by
  have place : c.place f.owner.record f.slot f.ordinal = some (f.windowAt i) :=
    windowOf_find_first hi (decide_eq_true free) (fun j hj => decide_eq_false (first j hj))
  unfold Catalogue.admission
  dsimp only
  rw [lookup_none absent]
  dsimp only
  rw [if_neg (Nat.not_le.2 room), place]

/-- An admission writes the table and the lists alone. -/
theorem admission_frame (c : Catalogue) (quota : Nat) (f : HandOff) : (c.admission quota f).1 =
    { c with table := (c.admission quota f).1.table, lists := (c.admission quota f).1.lists } := by
  unfold Catalogue.admission
  dsimp only
  split
  · rfl
  · split_ifs
    · rfl
    · split <;> rfl

/-- The table and the lists that an admission leaves, whatever stands in the queues. -/
theorem admissionGives (after : Admission → Prop) (table : c.table = s.catalogue.table) (lists : c.lists = s.catalogue.lists)
    (table' : t.catalogue.table = (c.admission s.catQuota f).1.table) (lists' : t.catalogue.lists = (c.admission s.catQuota f).1.lists)
    (answer : after (c.admission s.catQuota f).2) : AdmissionGives s t f after := by
  unfold AdmissionGives
  dsimp only
  rw [← table, ← lists, table', lists']
  refine ⟨fun held => ?_, fun absent full => ?_, fun i hi absent room free first => ?_⟩
  · rw [admission_held held] at answer ⊢
    exact ⟨⟨rfl, rfl⟩, answer⟩
  · rw [admission_noRoom absent full] at answer ⊢
    exact ⟨⟨rfl, rfl⟩, answer⟩
  · rw [admission_first absent room hi free first] at answer ⊢
    exact ⟨get_put_same _ _ _, fun q hq => get_put_ne _ hq.symm _, get_put_same _ _ _, fun q hq => get_put_ne _ hq.symm _, answer⟩

/-! ### The oldest file taken (R61 step 1) -/

/-- The oldest file taken from the queue of hand-offs. -/
def State.handOffTaken (s : State) (f : HandOff) : State :=
  { s with catalogue := { s.catalogue with handOffs := s.catalogue.handOffs.erase f } }

theorem admits_iff (s : State) (f : HandOff) : (s.handOffTaken f).admits f = true ↔ mayBeAdmitted s f := by
  have current : (s.handOffTaken f).current f.owner = s.current f.owner := rfl
  unfold State.admits mayBeAdmitted
  dsimp only
  rw [current, Bool.and_eq_true, Bool.and_eq_true, Bool.or_eq_true, decide_eq_true_iff, decide_eq_true_iff, List.contains_iff_mem,
    and_assoc]
  simp only [List.mem_cons, List.not_mem_nil, or_false]
  rfl

theorem admitFrom_none (absent : ∀ x ∈ s.catalogue.handOffs, x.slot ≠ n) : s.admitFrom n = s := by
  have nothing : s.catalogue.handOffs.find? (fun x => x.slot = n) = none :=
    List.find?_eq_none.2 (fun x hx => by simpa using absent x hx)
  unfold State.admitFrom
  rw [nothing]

theorem admitFrom_refused (oldest : s.catalogue.handOffs.find? (fun x => x.slot = n) = some f) (refused : ¬ mayBeAdmitted s f) :
    s.admitFrom n = s.handOffTaken f := by
  unfold State.admitFrom
  rw [oldest]
  exact if_neg (fun admits => refused ((admits_iff s f).1 admits))

/-- The state with the file's entry made, or none, before a waiting step takes the answer. -/
def State.admitted (s : State) (f : HandOff) : State :=
  (s.handOffTaken f).setCatalogue ((s.handOffTaken f).catalogue.admission s.catQuota f).1

/-- The Catalogue's answer. -/
def State.admissionOf (s : State) (f : HandOff) : Admission := ((s.handOffTaken f).catalogue.admission s.catQuota f).2

theorem admitFrom_eq (oldest : s.catalogue.handOffs.find? (fun x => x.slot = n) = some f) (may : mayBeAdmitted s f) :
    s.admitFrom n = (s.admitted f).admissionAnswer n (s.admissionOf f) := by
  unfold State.admitFrom
  rw [oldest]
  exact if_pos ((admits_iff s f).2 may)

/-- A state with the table and the lists of a catalogue. -/
def State.withEntries (s : State) (c : Catalogue) : State :=
  { s with catalogue := { s.catalogue with table := c.table, lists := c.lists } }

theorem admitted_eq (s : State) (f : HandOff) : s.admitted f = (s.handOffTaken f).withEntries (s.admitted f).catalogue :=
  congrArg (s.handOffTaken f).setCatalogue (admission_frame (s.handOffTaken f).catalogue s.catQuota f)

/-- What the Catalogue does is R59 to R61's, whatever follows in the slot. -/
theorem admitted_gives (same : t.catalogue = (s.admitted f).catalogue) (after : Admission → Prop) (answer : after (s.admissionOf f)) :
    AdmissionGives s t f after :=
  admissionGives (c := (s.handOffTaken f).catalogue) after rfl rfl (congrArg Catalogue.table same) (congrArg Catalogue.lists same) answer

/-! ### The answer taken by the step (R50, R52) -/

theorem admissionAnswer_unawaited (unawaited : ∀ more, (s.slot n).serving ≠ some (.step (.handed more))) (a : Admission) :
    s.admissionAnswer n a = s := by
  unfold State.admissionAnswer
  split
  · next more awaited => exact absurd awaited (unawaited more)
  · rfl

/-- The scan record with an answer counted. -/
def Scan.answered (k : Scan) : Admission → Scan
  | .alreadyHeld => k
  | .noRoom => { k with skippedRoom := k.skippedRoom + 1 }
  | .admitted => { k with admitted := k.admitted + 1 }

/-- An answer counted, with the PROGRESS notice at each 64th file admitted. -/
def State.answerCounted (s : State) (n : Fin 4) (k : Scan) : Admission → State
  | .alreadyHeld => s
  | .noRoom => s.setSlot n { s.slot n with scan := some { k with skippedRoom := k.skippedRoom + 1 } }
  | .admitted =>
    let t := s.setSlot n { s.slot n with scan := some { k with admitted := k.admitted + 1 } }
    if (k.admitted + 1) % 64 = 0 then t.scanNotice n .progress else t

theorem admissionAnswer_eq (scan : (s.slot n).scan = some k) (awaited : (s.slot n).serving = some (.step (.handed more)))
    (a : Admission) : s.admissionAnswer n a = (s.answerCounted n k a).finishStep n more := by
  unfold State.admissionAnswer
  rw [awaited]
  cases a with
  | alreadyHeld => rfl
  | noRoom =>
    dsimp only
    unfold State.countScan
    rw [scan]
    rfl
  | admitted =>
    dsimp only
    unfold State.countScan
    rw [scan, State.slot_setSlot]
    rfl

theorem answerCounted_slot (scan : (s.slot n).scan = some k) (a : Admission) (m : Fin 4) : (s.answerCounted n k a).slot m =
    if m = n then { s.slot n with scan := some (k.answered a) } else s.slot m := by
  cases a with
  | alreadyHeld =>
    split_ifs with hm
    · subst hm
      show s.slot m = { s.slot m with scan := some k }
      rw [← scan]
    · rfl
  | noRoom => exact slot_setSlot_eq n m _
  | admitted =>
    refine Eq.trans ?_ (slot_setSlot_eq (s := s) n m _)
    exact scanNotice_slot rfl _ n .progress m

theorem answerCounted_op (s : State) (n : Fin 4) (k : Scan) (a : Admission) :
    s.ChangesOnly (s.answerCounted n k a) [.slots, .link] := by
  have written := fun x => (State.ChangesOnly.refl s [.slots, .link]).setSlot n x (by decide)
  cases a with
  | alreadyHeld => exact .refl s _
  | noRoom => exact written _
  | admitted =>
    unfold State.answerCounted
    dsimp only
    split_ifs
    · exact (written _).scanNotice n _ (by decide)
    · exact written _

/-- The state behind a waiting step's answer. -/
def State.stepAnswered (s : State) (n : Fin 4) (f : HandOff) (k : Scan) (more : Bool) : State :=
  ((s.admitted f).answerCounted n k (s.admissionOf f)).finishStep n more

theorem admitted_op (s : State) (f : HandOff) : s.ChangesOnly (s.admitted f) [.catalogue] :=
  ((State.ChangesOnly.refl s _).setCatalogue { s.catalogue with handOffs := s.catalogue.handOffs.erase f } (by decide)).setCatalogue _
    (by decide)

theorem stepAnswered_op (s : State) (n : Fin 4) (f : HandOff) (k : Scan) (more : Bool) :
    (s.admitted f).ChangesOnly (s.stepAnswered n f k more) [.slots, .link, .sessions, .money, .sent, .conds] :=
  ((answerCounted_op _ n k _).mono (by decide)).finishStep n more (by decide)

theorem admitFrom_awaited (oldest : s.catalogue.handOffs.find? (fun x => x.slot = n) = some f) (may : mayBeAdmitted s f)
    (scan : (s.slot n).scan = some k) (awaited : (s.slot n).serving = some (.step (.handed more))) :
    s.admitFrom n = s.stepAnswered n f k more :=
  (admitFrom_eq oldest may).trans (admissionAnswer_eq (s := s.admitted f) scan awaited _)

/-- A step's end leaves the table and the lists of the admission. -/
theorem stepAnswered_eq (s : State) (n : Fin 4) (f : HandOff) (k : Scan) (more : Bool) : s.stepAnswered n f k more =
    (((s.handOffTaken f).withEntries (s.stepAnswered n f k more).catalogue).answerCounted n k (s.admissionOf f)).finishStep n more := by
  have admitted : s.admitted f = (s.handOffTaken f).withEntries (s.stepAnswered n f k more).catalogue :=
    (admitted_eq s f).trans (congrArg _ (stepAnswered_op s n f k more).catalogue.symm)
  exact congrArg (fun u : State => (u.answerCounted n k (s.admissionOf f)).finishStep n more) admitted

/-- What the step's end leaves of its slot. -/
theorem stepAnswered_goesOn (scan : (s.slot n).scan = some k) (scanning : (s.slot n).state = .scanning)
    (free : (s.slot n).inFlight = none) :
    ((s.stepAnswered n f k more).slot n).goesOn (k.answered (s.admissionOf f)) more ∧
    ∀ m, m ≠ n → (s.stepAnswered n f k more).slot m = s.slot m := by
  have counted (m : Fin 4) := answerCounted_slot (s := s.admitted f) scan (s.admissionOf f) m
  have stands := (counted n).trans (if_pos rfl)
  exact ⟨finishStep_goesOn (congrArg Slot.scan stands) ((congrArg Slot.state stands).trans scanning)
      ((congrArg Slot.inFlight stands).trans free) more,
    fun m hm => (finishStep_slot_ne (congrArg Slot.scan stands) more hm).trans ((counted m).trans (if_neg hm))⟩

/-- Settles O28: the oldest file taken, refused or admitted, and the step that waited for it. -/
theorem admissionTakesTheFirstFreePosition : Obligations.AdmissionTakesTheFirstFreePosition := by
  unfold Obligations.AdmissionTakesTheFirstFreePosition
  refine ⟨fun s n absent => congrArg _ (admitFrom_none absent), fun s n f oldest => ⟨fun refused =>
    congrArg _ (admitFrom_refused oldest refused), fun may unawaited => ?_, fun k more may scan awaited => ?_⟩,
    fun s n f k more oldest current state bound scanning scan awaited free => ?_⟩
  · have eq := (admitFrom_eq oldest may).trans (admissionAnswer_unawaited (s := s.admitted f) unawaited _)
    exact ⟨_, congrArg Host.Outcome.next eq, admitted_gives rfl _ trivial, admitted_eq s f⟩
  · refine ⟨_, congrArg Host.Outcome.next (admitFrom_awaited oldest may scan awaited),
      admitted_gives (stepAnswered_op s n f k more).catalogue _ ?_⟩
    have answered := stepAnswered_eq s n f k more
    cases same : s.admissionOf f with
    | alreadyHeld => exact answered.trans (by rw [same]; rfl)
    | noRoom => exact answered.trans (by rw [same]; rfl)
    | admitted => exact answered.trans (by rw [same]; rfl)
  · have slot : f.slot = n := by simpa using List.find?_some oldest
    have may : mayBeAdmitted s f := ⟨current, state, .inl (by rw [slot]; exact ⟨bound, scanning⟩)⟩
    obtain ⟨goesOn, others⟩ := stepAnswered_goesOn (f := f) (more := more) scan scanning free
    have catalogue := (stepAnswered_op s n f k more).catalogue
    refine ⟨_, congrArg Host.Outcome.next (admitFrom_awaited oldest may scan awaited), admitted_gives catalogue _ ?_, ?_, ?_, others, ?_⟩
    · cases same : s.admissionOf f <;> rw [same] at goesOn <;> exact goesOn
    · rw [catalogue, admitted_eq]
      rfl
    · rw [catalogue, admitted_eq]
      rfl
    · exact ((admitted_op s f).mono (by decide)).after (stepAnswered_op s n f k more) (by decide)

end Sys2Proof.Machine

/-! A removal's freeing and its report (R70), and the marking of the orphaned lines (R44). -/

namespace Sys2Proof.Machine

variable {s : State} {h : OrderHandle} {o : Order}

/-! ### The freeing of a removal (R70) -/

/-- What a freeing reports, as the list of the positions it frees: each with its generation and the count its entry held. -/
theorem freed_eq (c : Catalogue) (r : Fin 8) (p : CatEntry → Bool) : c.freed r p =
    ((c.lists.get r).filter (fun q => (c.table.get q).entry.any p)).map (fun q =>
      ({ position := q, gen := (c.table.get q).gen }, ((c.table.get q).entry.map (fun e => e.refs)).getD 0)) := by
  unfold Catalogue.freed
  induction c.lists.get r with
  | nil => rfl
  | cons q rest ih =>
    rw [List.filterMap_cons, List.filter_cons, ih]
    cases entry : (c.table.get q).entry with
    | none => rfl
    | some e => cases frees : p e <;> simp [frees, entry, Catalogue.handleAt]

theorem freeRemoved_nil (empty : s.catalogue.removals = []) : s.freeRemoved = s := by
  unfold State.freeRemoved
  rw [empty]

/-- The report of a removal's freeing. -/
def Removal.report (x : Removal) (c : Catalogue) : FreedReport :=
  { owner := x.owner, slot := x.slot, entries := c.freed x.owner.record x.frees }

theorem freeRemoved_cons {x : Removal} {rest : List Removal} (oldest : s.catalogue.removals = x :: rest) : s.freeRemoved =
    (s.setCatalogue { s.catalogue.freeWhere x.owner.record x.frees with removals := rest }).setOrders
      { s.orders with reports := s.orders.reports ++ [x.report s.catalogue] } := by
  unfold State.freeRemoved
  rw [oldest]
  rfl

/-! ### The lines of a freed entry (R44) -/

theorem markOrphans_nil (empty : s.orders.reports = []) : s.markOrphans = s := by
  unfold State.markOrphans
  rw [empty]

/-- The lines of the session's uncommitted order marked. -/
def State.linesOrphaned (s : State) (x : FreedReport) : State :=
  match (s.record x.owner.record).uncommitted with
  | some h =>
    match s.order? h with
    | some o => s.setOrder h.record { o with lines := o.lines.map (fun l => l.map (orphanLine x.entries)) }
    | none => s
  | none => s

/-- The oldest report taken and its lines marked, before MEDIA_REMOVED is raised. -/
def State.reportTaken (s : State) (x : FreedReport) (rest : List FreedReport) : State :=
  (s.setOrders { s.orders with reports := rest }).linesOrphaned x

theorem markOrphans_cons {x : FreedReport} {rest : List FreedReport} (oldest : s.orders.reports = x :: rest)
    (current : s.current x.owner = true) : s.markOrphans =
    if x.entries.any (fun e => decide (0 < e.2)) then (s.reportTaken x rest).raiseSession x.owner 0 (le1 x.slot.val)
    else s.reportTaken x rest := by
  have still : (s.setOrders { s.orders with reports := rest }).current x.owner = true := current
  unfold State.markOrphans
  rw [oldest]
  dsimp only
  rw [if_pos still]
  rfl

theorem linesOrphaned_cases (s : State) (x : FreedReport) : s.linesOrphaned x = s ∨
    ∃ h o, (s.record x.owner.record).uncommitted = some h ∧ s.order? h = some o ∧ s.linesOrphaned x =
      s.setOrder h.record { o with lines := o.lines.map (fun l => l.map (orphanLine x.entries)) } := by
  unfold State.linesOrphaned
  split
  · next h uncommitted =>
    split
    · next o order => exact .inr ⟨h, o, uncommitted, order, rfl⟩
    · exact .inl rfl
  · exact .inl rfl

/-- The generation of the record that a handle of an order names. -/
theorem gen_of_order? (order : s.order? h = some o) : (s.orderRecord h.record).gen = h.gen := by
  by_contra stale
  exact absurd ((if_neg stale).symm.trans order) (by simp)

theorem linesOrphaned_order {x : FreedReport} (uncommitted : (s.record x.owner.record).uncommitted = some h)
    (order : s.order? h = some o) : (s.linesOrphaned x).order? h =
    some { o with lines := o.lines.map (fun l => l.map (orphanLine x.entries)) } := by
  have marked : s.linesOrphaned x =
      s.setOrder h.record { o with lines := o.lines.map (fun l => l.map (orphanLine x.entries)) } := by
    unfold State.linesOrphaned
    rw [uncommitted]
    dsimp only
    rw [order]
  rw [marked]
  exact order?_setOrder (gen_of_order? order) _

theorem linesOrphaned_orderRecord {x : FreedReport} {q : Fin 16}
    (other : ∀ h, (s.record x.owner.record).uncommitted = some h → h.record ≠ q) :
    (s.linesOrphaned x).orderRecord q = s.orderRecord q := by
  obtain same | ⟨h, o, uncommitted, -, marked⟩ := linesOrphaned_cases s x
  · rw [same]
  · rw [marked]
    exact State.orderRecord_setOrderRecord_ne _ (other h uncommitted) _

theorem linesOrphaned_reports (s : State) (x : FreedReport) : (s.linesOrphaned x).orders.reports = s.orders.reports := by
  obtain same | ⟨h, o, -, -, marked⟩ := linesOrphaned_cases s x
  · rw [same]
  · rw [marked]
    rfl

theorem linesOrphaned_op (s : State) (x : FreedReport) : s.ChangesOnly (s.linesOrphaned x) [.orders] := by
  obtain same | ⟨h, o, -, -, marked⟩ := linesOrphaned_cases s x
  · rw [same]
    exact .refl s _
  · rw [marked]
    exact (State.ChangesOnly.refl s _).setOrder _ _ (by decide)

theorem reportTaken_op (s : State) (x : FreedReport) (rest : List FreedReport) : s.ChangesOnly (s.reportTaken x rest) [.orders] :=
  ((State.ChangesOnly.refl s [.orders]).setOrders _ (by decide)).trans (linesOrphaned_op _ x)

/-- The marking writes the Order Unit as the lines' marking leaves it; the raise of MEDIA_REMOVED does not touch it. -/
theorem markOrphans_orders {x : FreedReport} {rest : List FreedReport} (oldest : s.orders.reports = x :: rest)
    (current : s.current x.owner = true) : s.markOrphans.orders = (s.reportTaken x rest).orders := by
  rw [markOrphans_cons oldest current]
  split_ifs
  · exact (State.ChangesOnly.raiseSession_op _ _ _ _).orders
  · rfl

theorem markOrphans_op {x : FreedReport} {rest : List FreedReport} (oldest : s.orders.reports = x :: rest)
    (current : s.current x.owner = true) : s.ChangesOnly s.markOrphans [.orders, .sessions, .link, .money, .sent, .conds] := by
  have taken : s.ChangesOnly (s.reportTaken x rest) [.orders, .sessions, .link, .money, .sent, .conds] :=
    (reportTaken_op s x rest).mono (by decide)
  rw [markOrphans_cons oldest current]
  split_ifs
  · exact taken.raiseSession _ _ _ (by decide)
  · exact taken

/-- MEDIA_REMOVED is set where a freed entry had a count above 0. -/
theorem markOrphans_bits {x : FreedReport} {rest : List FreedReport} (oldest : s.orders.reports = x :: rest)
    (current : s.current x.owner = true) : (s.markOrphans.sessionSet x.owner.record).bits =
    if x.entries.any (fun e => decide (0 < e.2)) then setBit (s.sessionSet x.owner.record).bits 0
    else (s.sessionSet x.owner.record).bits := by
  have taken := reportTaken_op s x rest
  have still : (s.reportTaken x rest).current x.owner = true := by
    unfold State.current at current ⊢
    rw [record_congr taken.sessions]
    exact current
  rw [markOrphans_cons oldest current]
  split_ifs
  · rw [raiseSession_bits still, sessionSet_congr taken.conds]
  · rw [sessionSet_congr taken.conds]

/-- Settles O29: the freeing of the oldest removal, and the marking of the lines it orphans. -/
theorem removalFreesEntriesAndOrphansLines : Obligations.RemovalFreesEntriesAndOrphansLines := by
  unfold Obligations.RemovalFreesEntriesAndOrphansLines
  refine ⟨fun s empty => congrArg Host.Outcome.next (freeRemoved_nil empty), fun s x rest oldest => ?_,
    fun s empty => congrArg Host.Outcome.next (markOrphans_nil empty), fun s x rest oldest current => ?_⟩
  · obtain ⟨table, lists, handOffs, -⟩ := freeWhere_eq s.catalogue x.owner.record x.frees
    refine ⟨_, congrArg Host.Outcome.next (freeRemoved_cons oldest), ⟨table, lists, ?_⟩, rfl, handOffs, rfl, ?_⟩
    · exact congrArg (fun l => s.orders.reports ++ [FreedReport.mk x.owner x.slot l]) (freed_eq s.catalogue x.owner.record x.frees)
    · exact ((State.ChangesOnly.refl s _).setCatalogue _ (by decide)).setOrders _ (by decide)
  · have orders := markOrphans_orders oldest current
    refine ⟨s.markOrphans, rfl, ?_, fun h o uncommitted order => ?_, fun q other => ?_, markOrphans_bits oldest current,
      markOrphans_op oldest current⟩
    · rw [orders]
      exact linesOrphaned_reports _ x
    · rw [order?_congr orders]
      exact linesOrphaned_order (s := s.setOrders { s.orders with reports := rest }) uncommitted order
    · rw [orderRecord_congr orders]
      exact linesOrphaned_orderRecord (s := s.setOrders { s.orders with reports := rest }) other

end Sys2Proof.Machine
